-- ==== Sys2Proof/Word.lean ====
section
/-! DEFINITION. The bus word and the byte of the conventions of 00_scope.md. -/

namespace Sys2Proof

/-- A byte of memory. -/
abbrev Byte := BitVec 8

/-- A bus word of 4 bytes (00_scope.md, Conventions). -/
abbrev Word := BitVec 32

/-- A halfword of 2 bytes; also the width of the part's wrapping counters, serials and generations. -/
abbrev Half := BitVec 16

end Sys2Proof
end

