-- ==== Sys2Proof/Syntax.lean ====
section
/-! DEFINITION. The commands of spec/opcode_table.json, one constructor a row, with what each takes from
outside the part: straps, a burst of the controller port, or an answer of the memory port. -/

namespace Sys2Proof

/-- One written word of a burst with its four byte-enables (00_scope.md, Signals); bit i of `be` enables
byte i of the word. -/
structure Beat where
  data : Word
  be : BitVec 4
deriving DecidableEq, Repr

/-- The kind of a transaction: a read of some words, or a write of these words. -/
inductive Body where
  | read (len : Nat)
  | write (beats : List Beat)
deriving DecidableEq, Repr

/-- A transaction of either port: master tag, byte address of its first word, kind and length
(00_scope.md, Signals). -/
structure Burst where
  tag : Fin 8
  addr : Nat
  body : Body
deriving DecidableEq, Repr

/-- The SDRAM's answer to a memory transaction: its status, and for a read its words. -/
structure Answer where
  error : Bool
  words : List Word
deriving DecidableEq, Repr

/-- The commands. Each constructor's row is the mnemonic of the same words in spec/opcode_table.json
(LAWS.json holds the map). -/
inductive Instr where
  | resetNFall
  | resetNRise (straps : BitVec 2)
  | reloadReadAnswer (a : Answer)
  | transactionAccept (b : Burst)
  | passThroughPiece
  | passThroughAnswer (a : Answer)
  | controlPageWrite
  | openControl
  | closeControl
  | restart
  | commandPointer
  | statusWord
  | captureLumaPiece
  | heldPieceResume
  | captureChromaPiece
  | apertureReadPiece
  | displayReadPiece
  | composerFetchAnswer (a : Answer)
  | memoryPortGrant
  | emission
  | lineWriteAnswer (a : Answer)
  | packetFetch (a : Answer)
  | setup
  | setupBlockReadAnswer (a : Answer)
  | mountScanReadAnswer (a : Answer)
  | deferredMountScan
  | status
  | statusClear
  | view
  | viewPush
  | viewPop
  | viewPageHeaderRead (a : Answer)
  | viewPopHeaderRead (a : Answer)
  | record
  | mark
  | copyTransactionAnswer (a : Answer)
  | commit (a : Answer)
  | storeClear
  | storeClearWriteAnswer (a : Answer)
  | storeProtect
  | stepFwd
  | stepRev
  | skipFwd
  | skipRev
  | rewind
  | toEnd
  | traversalReadAnswer (a : Answer)
  | advanceReadAnswer (a : Answer)
  | triggers
  | triggerListReadAnswer (a : Answer)
  | watchExpiry
  | messageWriteAnswer (a : Answer)
  | noticeWriteAnswer (a : Answer)
  | localTimeAdvance
deriving DecidableEq, Repr

end Sys2Proof
end

