-- ==== Sys2Proof/Decode.lean ====
section
/-! DEFINITION. The commands that the table's bits spell. spec/opcode_table.json gives no row any bits
("fields" is empty and "fixed" absent in all 54), so no word spells a command. -/

namespace Sys2Proof

/-- The command that the `nbits` bits `w` spell by the table: none, since no row of
spec/opcode_table.json has bits. -/
def decodeTableWord (nbits w : Nat) : Option Instr :=
  match nbits, w with
  | _, _ => none

end Sys2Proof
end

