-- ==== Sys2Proof/Machine/State.lean ====
section
/-! DEFINITION. The state of the part as plain data, block by block (00_scope.md, Block Overview), its
faults and refusals, and its value after reset. Offsets, addresses and geometries, which the rules bound
and never wrap, are Nat; registers that wrap, and words that travel on the bus, are bit vectors. -/

namespace Sys2Proof.Machine

/-! ## Names of the spec -/

/-- The run state (R1). -/
inductive RunState where
  | bypass
  | run
deriving DecidableEq, Repr

/-- The four master classes (R3). -/
inductive MasterClass where
  | plain
  | control
  | capture
  | display
deriving DecidableEq, Repr

/-- The states of a slot (R16). -/
inductive SlotState where
  | empty
  | filling
  | complete
deriving DecidableEq, Repr

/-- The modes of the frame in progress (R35). -/
inductive FrameMode where
  | normal
  | raw
  | dropped
deriving DecidableEq, Repr

/-- The formats of a page (R101). -/
inductive Format where
  | full
  | half
deriving DecidableEq, Repr

/-- The kinds of a store record (R100). -/
inductive Kind where
  | page
  | mark
  | endRecord
deriving DecidableEq, Repr

/-- The six modes of MOVE (ch. 8.1). -/
inductive MoveMode where
  | stepFwd
  | stepRev
  | skipFwd
  | skipRev
  | rewind
  | toEnd
deriving DecidableEq, Repr

/-- The actions of a trigger (R142). -/
inductive Action where
  | capture
  | mark
  | advance
  | zoomStep
  | notify
deriving DecidableEq, Repr

/-- The termination classes of messages (R167). Class 7, none, is the absence of one. -/
inductive TermClass where
  | done
  | alert
  | refused
  | retry
  | lost
  | notice
deriving DecidableEq, Repr

/-- The reasons that qualify a class (R167). -/
inductive Reason where
  | none
  | markPassed
  | endOfData
  | startOfStore
  | lowSpace
  | staleContext
  | badPointer
  | badCommand
  | badValue
  | notRunning
  | storeBusy
  | pageInUse
  | storeProtected
  | positionLost
  | notFormatted
  | noSpace
  | noFrame
  | notAPage
  | stackFull
  | stackEmpty
  | listOrder
  | setupInvalid
  | regionsLocked
  | setupPending
  | memoryError
  | headerBad
deriving DecidableEq, Repr

/-- The owner of the message buffer (R168). -/
inductive Owner where
  | host
  | part
deriving DecidableEq, Repr

/-- The reload result (R160). -/
inductive ReloadResult where
  | none
  | loaded
  | invalid
deriving DecidableEq, Repr

/-! ## The memory port (R14, R15) -/

/-- The five requesters of the arbiter, in its fixed order (R14). -/
inductive Requester where
  | composer
  | passThrough
  | lineWriter
  | store
  | command
deriving DecidableEq, Repr

/-- What a memory transaction of the part is for: the command that its answer is. -/
inductive Purpose where
  | composerStored
  | composerSource
  | passThrough
  | lineWrite
  | scanRead
  | viewHeader
  | popHeader
  | copy
  | commit
  | clearWrite
  | moveRead
  | advanceRead
  | reloadRead
  | packet
  | setupBlock
  | triggerList
  | message
  | notice
deriving DecidableEq, Repr

/-- A memory transaction that a requester presents. -/
structure Request where
  purpose : Purpose
  burst : Burst
deriving DecidableEq, Repr

/-- The transaction that has been granted the memory port. `live` is false once the operation it served
has been aborted or its frame has ended: its answer then ends the access and does nothing else
(R14, R23). -/
structure Grant where
  request : Request
  live : Bool
deriving DecidableEq, Repr

/-- The arbiter: one waiting request a requester, and the granted transaction (R14). -/
structure MemoryPort where
  composer : Option Request
  passThrough : Option Request
  lineWriter : Option Request
  store : Option Request
  command : Option Request
  granted : Option Grant
deriving DecidableEq, Repr

/-! ## The Port Bridge (ch. 1) -/

/-- The fixed part of the region map in RUN: the bases and the slot size of the setup block (R2, R155). -/
structure Regions where
  apertureBase : Nat
  slotSize : Nat
  slotBase : Vector Nat 3
  viewBase : Nat
deriving DecidableEq, Repr

/-- A piece of the transaction in treatment: `len` consecutive words of the burst from word `first`
(R5). -/
structure Piece where
  first : Nat
  len : Nat
deriving DecidableEq, Repr

/-- How far the treatment of the front piece has come. -/
inductive Stage where
  /-- Its treatment has not begun. -/
  | untreated
  /-- A control-page write of which this many words have been reported (R8). -/
  | reporting (reported : Nat)
  /-- Its one memory transaction has been presented as pass-through; the flag says that it is a
  remapped chroma write that contains the final chroma word (R26). -/
  | passing (chromaFinal : Bool)
  /-- A control-page read with the status word `sw`: the words below it are being read (R8). -/
  | statusBelow (sw : Word)
  /-- The same, with the words up to the status word answered: the words above it are being read. -/
  | statusAbove (got : List Word) (error : Bool)
  /-- A capture luma piece held by back-pressure with this many words taken (R39, R45). -/
  | held (taken : Nat)
  /-- A display piece whose stored bytes are being read (R79). -/
  | stored
  /-- A display piece with its stored words, the source fetches still to be answered (address and
  length in words, the first one presented), and each fetched word, none where its fetch failed
  (R79 to R81). -/
  | fetching (words : List Word) (todo : List (Nat × Nat)) (got : List (Nat × Option Word))
deriving DecidableEq, Repr

/-- The transaction in treatment (R4 to R6): its burst, the class taken at acceptance (R3), the pieces not
finished, the stage of the first of them, the words answered so far and whether a piece ended ERROR. -/
structure Txn where
  burst : Burst
  cls : MasterClass
  pieces : List Piece
  stage : Stage
  words : List Word
  error : Bool
deriving DecidableEq, Repr

/-- The answer the Port Bridge returns for a transaction (R6). -/
structure PortAnswer where
  tag : Fin 8
  error : Bool
  words : List Word
deriving DecidableEq, Repr

/-- The Port Bridge: run state, straps as sampled, region map, master class table, guard discard counter,
the transaction in treatment, and the last answer returned on the controller port. -/
structure Bridge where
  run : RunState
  straps : BitVec 2
  regions : Regions
  classes : Vector MasterClass 8
  guard : Half
  txn : Option Txn
  answer : Option PortAnswer
deriving DecidableEq, Repr

/-! ## The Capture Assembler (ch. 3) -/

/-- An entry of the line ring: free, a raw luma line (complete or partial) with its index, or a raw piece
waiting to be written, by the aperture offset of its first word (R35). -/
inductive RingEntry where
  | free
  | line (index : Nat) (bytes : List Byte)
  | piece (offset : Nat) (beats : List Beat)
deriving DecidableEq, Repr

/-- An item of the line writer queue (R35): the emission of line n with its upper and lower neighbour
lines (R40, R44), the raw write of the partial line, or the raw write of the piece in a ring entry. -/
inductive WorkItem where
  | emit (n above below : Nat)
  | partialLine (n : Nat)
  | rawPiece (entry : Fin 4)
deriving DecidableEq, Repr

/-- The frame in progress: its frame number and its slot, none when DROPPED (R35). -/
structure Frame where
  number : Word
  slot : Option (Fin 3)
deriving DecidableEq, Repr

/-- The Capture Assembler (R35). `running` holds the writes left of the item at the head of the queue
after the one presented, and is none while no item has begun (R41). -/
structure Assembler where
  frame : Option Frame
  mode : FrameMode
  wc : Nat
  hc : Nat
  ptr : Nat
  finalWord : Bool
  lumaHalf : Bool
  chromaHalf : Bool
  ring : Vector RingEntry 4
  queue : List WorkItem
  running : Option (List Burst)
deriving DecidableEq, Repr

/-! ## The Slot Manager (ch. 2) and the Enhancement Unit (ch. 4) -/

/-- A slot record (R16). -/
structure SlotRec where
  state : SlotState
  gen : Half
  frame : Word
  wc : Nat
  hc : Nat
  broken : Bool
  hold : Nat
deriving DecidableEq, Repr

/-- A set of enhancement parameters (R53). -/
structure Params where
  t : Nat
  g : Nat
  b : Nat
  wp : Nat
  k : Nat
  auto : Bool
  a : Nat
deriving DecidableEq, Repr

/-- The pending capture geometry and enhancement values (R30); K is computed when they are put in force. -/
structure StagedCapture where
  wc : Nat
  hc : Nat
  t : Nat
  g : Nat
  b : Nat
  wp : Nat
  auto : Bool
  a : Nat
deriving DecidableEq, Repr

/-- The Slot Manager: the slot records, the capture geometry in force, the pending set and the five frame
counters (R16, R30, R32). -/
structure SlotManager where
  recs : Vector SlotRec 3
  wc : Nat
  hc : Nat
  staged : Option StagedCapture
  started : Half
  completed : Half
  abandoned : Half
  dropped : Half
  broken : Half
deriving DecidableEq, Repr

/-- The Enhancement Unit: the set in force, the frame latch and the histogram (R53, R55, R58). -/
structure Enhancer where
  force : Params
  latch : Params
  hist : Vector Nat 64
deriving DecidableEq, Repr

/-! ## The View Composer (ch. 5) and the View Controller (ch. 6) -/

/-- The source of the composer latch (R64): a slot with its index, generation and base, a page with its
store offset and payload address, or NONE. -/
inductive LatchSource where
  | slot (index : Fin 3) (gen : Half) (base : Nat)
  | page (offset : Nat) (payload : Nat)
  | none
deriving DecidableEq, Repr

/-- Keys, border colour and view geometry of a setup: the staged view set (R64). -/
structure ViewSet where
  wv : Nat
  hv : Nat
  kl : Byte
  kc : Byte
  borderY : Byte
  borderCb : Byte
  borderCr : Byte
deriving DecidableEq, Repr

/-- The view latch (R64). -/
structure ViewLatch where
  latched : Bool
  source : LatchSource
  ws : Nat
  hs : Nat
  step : Nat
  ox : Int
  oy : Int
  set : ViewSet
deriving DecidableEq, Repr

/-- The View Composer: its latch, the staged view set and the composer error counter (R64, R15). -/
structure Composer where
  latch : ViewLatch
  staged : ViewSet
  errors : Half
deriving DecidableEq, Repr

/-- The page part of a view context (R83). -/
structure PagePart where
  offset : Nat
  serial : Half
  format : Format
  w : Nat
  h : Nat
deriving DecidableEq, Repr

/-- The source of a view context (R83). -/
inductive Source where
  | live
  | frozen (slot : Fin 3) (gen : Half)
  | page (part : PagePart)
  | blank
deriving DecidableEq, Repr

/-- A view context (R83). -/
structure ViewContext where
  source : Source
  z : Nat
  zt : Nat
  cx : Nat
  cy : Nat
deriving DecidableEq, Repr

/-- The source kinds of a view request (R177). -/
inductive SourceKind where
  | live
  | frozen
  | page
  | blank
deriving DecidableEq, Repr

/-- The request of VIEW and VIEW_PUSH (ch. 6.2, R177); its kind is none for a code that is no source kind. -/
structure ViewRequest where
  kind : Option SourceKind
  zoom : Nat
  ramp : Bool
  useNote : Bool
  cx : Nat
  cy : Nat
deriving DecidableEq, Repr

/-- An entry of the view stack (R84). `standing` is the hold of a FROZEN entry, STANDING or DROPPED; in an
entry of another kind it is false. -/
structure StackEntry where
  ctx : ViewContext
  standing : Bool
deriving DecidableEq, Repr

/-- The View Controller: the current context and the stack, its top entry first (R83, R84). -/
structure ViewController where
  current : ViewContext
  stack : List StackEntry
deriving DecidableEq, Repr

/-! ## The Store Controller (ch. 7, ch. 8) -/

/-- The fields of a record header but its check halfword (R101). -/
structure Header where
  kind : Kind
  format : Format
  broken : Bool
  note : Bool
  cycle : Nat
  serial : Half
  length : Nat
  lesson : Nat
  w : Nat
  h : Nat
  z : Nat
  frame : Word
  time : Word
  cx : Nat
  cy : Nat
deriving DecidableEq, Repr

/-- What the copy engine is in use for (R105): the page in the pinned slot, a mark, or a clear. -/
inductive CopyJob where
  | page (slot : Fin 3)
  | mark
  | clear
deriving DecidableEq, Repr

/-- How far a copy has come (R113, R115): a source read of the payload chunk at byte `at` of the payload
with the words read so far for it, the write of that chunk, the trailer, the END, the header. A clear has
the one write of its END. -/
inductive CopyStage where
  | read (done : Nat) (got : List Word) (left : List (Nat × Nat))
  | write (done : Nat)
  | trailer
  | endHeader
  | commit
  | clear
deriving DecidableEq, Repr

/-- The operation of the copy engine (R103, R112): its job with the slot pin, whether a trigger began it,
the write offset, the header values fixed at acceptance, and its stage. -/
structure CopyOp where
  job : CopyJob
  trigger : Bool
  offset : Nat
  header : Header
  stage : CopyStage
deriving DecidableEq, Repr

/-- The read that a traversal waits for (R124, R127): the header at the position, the trailer before it,
or the header of the record of length `back` before it. -/
inductive MoveStage where
  | header
  | trailer
  | back (length : Nat)
deriving DecidableEq, Repr

/-- The operation of the traversal engine (R105). -/
inductive TravOp where
  /-- The mount scan at offset p with the last serial met (R109). -/
  | scan (p : Nat) (last : Option Half)
  /-- A MOVE: its mode, the units left of its count, the records passed, and its read (R123). -/
  | move (mode : MoveMode) (left : Nat) (passed : Nat) (stage : MoveStage)
  /-- The header read of a VIEW PAGE, or of a VIEW_PUSH PAGE (`push`), with its request (R87). -/
  | viewHeader (q : ViewRequest) (push : Bool)
  /-- The header read of VIEW_POP (R91). -/
  | popHeader
  /-- An ADVANCE; the flag says that the shown page has been passed (R133). -/
  | advance (passed : Bool)
deriving DecidableEq, Repr

/-- A store region change that waits, with its margin (R159). -/
structure RegionChange where
  base : Nat
  limit : Nat
  margin : Nat
deriving DecidableEq, Repr

/-- The Store Controller (R103, R159). A position of none is LOST. -/
structure Store where
  base : Nat
  limit : Nat
  formatted : Bool
  protect : Bool
  position : Option Nat
  eod : Nat
  serial : Half
  lesson : Nat
  margin : Nat
  copy : Option CopyOp
  trav : Option TravOp
  deferred : Option RegionChange
deriving DecidableEq, Repr

/-! ## The Frame Timer (ch. 9) -/

/-- An entry of the trigger list (R142). -/
structure Trigger where
  line : Nat
  k : Nat
  r : Nat
  action : Action
  arg : Half
  enabled : Bool
  fired : Bool
deriving DecidableEq, Repr

/-- The Frame Timer (R135). The cycle count is the frame number modulo 64 and is not held apart. -/
structure Timer where
  frameNumber : Word
  localTime : Word
  signal : Bool
  interval : Nat
  reference : Word
  triggers : List Trigger
  overruns : Half
deriving DecidableEq, Repr

/-! ## The Command Unit (ch. 10, ch. 11) -/

/-- A command packet (R163). -/
structure Packet where
  code : Nat
  modifier : Nat
  ie : Bool
  release : Bool
  p1 : Word
  p2 : Word
  p3 : Word
deriving DecidableEq, Repr

/-- A message being written: its buffer address, its 16 words, and whether its second half (the lower)
is the one presented (R165). -/
structure MessageWrite where
  addr : Nat
  words : List Word
  second : Bool
deriving DecidableEq, Repr

/-- How far the command in progress has come (R164). -/
inductive CmdStage where
  /-- Its packet is being fetched (R154). -/
  | fetch
  /-- Its packet has passed R163 and has been handed to its owning block. -/
  | dispatched
  /-- An engine of the Store Controller carries it out. -/
  | engine
  /-- SETUP: the block at this address is being read, with the words read so far (R157). -/
  | setupRead (addr : Nat) (got : List Word)
  /-- SETUP: its region change waits (R159). -/
  | setupWait
  /-- SETUP: its mount scan is running (R109). -/
  | setupScan
  /-- TRIGGERS: the entries at this address are being read, with the words read so far and the number of
  words of the list (R143). -/
  | listRead (addr : Nat) (total : Nat) (got : List Word)
  /-- Its completion message is being written, with the outcome the status word will take (R165). -/
  | message (w : MessageWrite) (cls : TermClass) (reason : Reason)
deriving DecidableEq, Repr

/-- The command-in-progress record (R164). The packet is none until it has been fetched. -/
structure Command where
  packet : Option Packet
  stage : CmdStage
deriving DecidableEq, Repr

/-- The reload in progress (R160): reading the setup pointer, reading the block at an address, or
waiting for its mount scan. -/
inductive ReloadStage where
  | pointer
  | block (addr : Nat) (got : List Word)
  | scan
deriving DecidableEq, Repr

/-- The pending notice set (R169): each kind pending or not, two with their argument. -/
structure Notices where
  signalLost : Bool
  signalBack : Bool
  viewReset : Bool
  lessonEnd : Bool
  triggerNote : Option Half
  captureFailed : Option Reason
  lowSpace : Bool
  positionLost : Bool
deriving DecidableEq, Repr

/-- The Command Unit (R162). `lastClass` none is class 7; `held` is a request that waits behind the NOTICE
write in flight (R170). -/
structure CommandUnit where
  opened : Bool
  armed : Bool
  cmd : Option Command
  refusedBusy : Bool
  lastClass : Option TermClass
  lastReason : Reason
  owner : Owner
  msgAddr : Nat
  notices : Notices
  notice : Option MessageWrite
  held : Option Request
  attn : Bool
  reloadResult : ReloadResult
  reload : Option ReloadStage
deriving DecidableEq, Repr

/-! ## The part -/

/-- The state of the part: the level of RESET_N, the blocks, and the queue of waiting commands, first in,
first out (the model's own field, log entry 2). -/
structure State where
  resetN : Bool
  bridge : Bridge
  port : MemoryPort
  asm : Assembler
  slots : SlotManager
  enh : Enhancer
  comp : Composer
  view : ViewController
  store : Store
  timer : Timer
  cu : CommandUnit
  pending : List Instr
deriving DecidableEq, Repr

/-- No command of this part stops with a fault: what goes wrong is an effect on State (R15, R167). -/
inductive Fault where
deriving DecidableEq, Repr

/-- What is refused. -/
inductive Refusal where
  /-- Raised by exec for a command that has no meaning yet; none is left. Safe. -/
  | notModelled (mnemonic : String)
  /-- Raised by TRANSACTION_ACCEPT for a term that is no burst of the port's form: an address that is no
  multiple of 4 or lies above 0x1FF_FFFC, or a length that is not 1 to 8 (00_scope.md, Signals). Safe: no
  such burst exists (log entry 14). -/
  | notABurst
deriving DecidableEq, Repr

/-! ## Setters, one a block -/

def State.setResetN (s : State) (x : Bool) : State := { s with resetN := x }
def State.setBridge (s : State) (x : Bridge) : State := { s with bridge := x }
def State.setPort (s : State) (x : MemoryPort) : State := { s with port := x }
def State.setAsm (s : State) (x : Assembler) : State := { s with asm := x }
def State.setSlots (s : State) (x : SlotManager) : State := { s with slots := x }
def State.setEnh (s : State) (x : Enhancer) : State := { s with enh := x }
def State.setComp (s : State) (x : Composer) : State := { s with comp := x }
def State.setView (s : State) (x : ViewController) : State := { s with view := x }
def State.setStore (s : State) (x : Store) : State := { s with store := x }
def State.setTimer (s : State) (x : Timer) : State := { s with timer := x }
def State.setCu (s : State) (x : CommandUnit) : State := { s with cu := x }
def State.setPending (s : State) (x : List Instr) : State := { s with pending := x }

/-! ## Reset values -/

/-- The enhancement set after reset (R53). -/
def Params.reset : Params :=
  { t := 4, g := 16, b := 16, wp := 235, k := 298, auto := false, a := 16 }

/-- A slot record after reset (R16). -/
def SlotRec.reset : SlotRec :=
  { state := .empty, gen := 0, frame := 0, wc := 0, hc := 0, broken := false, hold := 0 }

/-- The LIVE default (R83). -/
def ViewContext.liveDefault : ViewContext :=
  { source := .live, z := 64, zt := 64, cx := 0, cy := 0 }

/-- The empty pending notice set (R169). -/
def Notices.empty : Notices :=
  { signalLost := false, signalBack := false, viewReset := false, lessonEnd := false,
    triggerNote := Option.none, captureFailed := Option.none, lowSpace := false, positionLost := false }

def MemoryPort.reset : MemoryPort :=
  { composer := none, passThrough := none, lineWriter := none, store := none, command := none,
    granted := none }

/-- R1 to R3, R13. The straps and the region fields are read by nothing until RESET_N rises and a setup
is applied; 0 is a DESIGN CHOICE (log entries 1 and 16). -/
def Bridge.reset : Bridge :=
  { run := .bypass, straps := 0,
    regions := { apertureBase := 0, slotSize := 0, slotBase := Vector.replicate 3 0, viewBase := 0 },
    classes := (Vector.replicate 8 MasterClass.plain).set 0 .control, guard := 0, txn := none,
    answer := none }

/-- R35. -/
def Assembler.reset : Assembler :=
  { frame := none, mode := .normal, wc := 0, hc := 0, ptr := 0, finalWord := false, lumaHalf := false,
    chromaHalf := false, ring := Vector.replicate 4 .free, queue := [], running := none }

/-- R16, R32, R34. The geometry in force is none until a setup is applied; 0 by 0 is a DESIGN CHOICE (log
entry 16). -/
def SlotManager.reset : SlotManager :=
  { recs := Vector.replicate 3 SlotRec.reset, wc := 0, hc := 0, staged := none, started := 0,
    completed := 0, abandoned := 0, dropped := 0, broken := 0 }

/-- R53, R55, R58. -/
def Enhancer.reset : Enhancer :=
  { force := Params.reset, latch := Params.reset, hist := Vector.replicate 64 0 }

/-- Every number of a view set is 0 after reset (R64). -/
def ViewSet.reset : ViewSet :=
  { wv := 0, hv := 0, kl := 0, kc := 0, borderY := 0, borderCb := 0, borderCr := 0 }

/-- R64, R15. -/
def Composer.reset : Composer :=
  { latch := { latched := false, source := .none, ws := 0, hs := 0, step := 0, ox := 0, oy := 0,
               set := ViewSet.reset },
    staged := ViewSet.reset, errors := 0 }

/-- R83, R84. -/
def ViewController.reset : ViewController := { current := ViewContext.liveDefault, stack := [] }

/-- R103. Base and limit are read by nothing until a setup is applied (log entry 16). -/
def Store.reset : Store :=
  { base := 0, limit := 0, formatted := false, protect := false, position := some 0, eod := 0,
    serial := 0, lesson := 0, margin := 0, copy := none, trav := none, deferred := none }

/-- R135. -/
def Timer.reset : Timer :=
  { frameNumber := 0xFFFFFFFF, localTime := 0, signal := false, interval := 0, reference := 0,
    triggers := [], overruns := 0 }

/-- R162. The message buffer address is that of BASE_SEL 0 until the straps are sampled (log entry 1). -/
def CommandUnit.reset : CommandUnit :=
  { opened := false, armed := false, cmd := none, refusedBusy := false, lastClass := none,
    lastReason := .none, owner := .host, msgAddr := 0x40, notices := Notices.empty, notice := none,
    held := none, attn := false, reloadResult := .none, reload := none }

/-- The part right after RESET_N has fallen, and until it rises (R162 and the reset values of each
block's chapter). -/
def State.reset : State :=
  { resetN := false, bridge := Bridge.reset, port := MemoryPort.reset, asm := Assembler.reset,
    slots := SlotManager.reset, enh := Enhancer.reset, comp := Composer.reset,
    view := ViewController.reset, store := Store.reset, timer := Timer.reset, cu := CommandUnit.reset,
    pending := [] }

end Sys2Proof.Machine
end

