-- ==== Sys2Proof/Machine/Flags.lean ====
section
/-! DEFINITION. The codes of classes and reasons (R167), the tables of BASE_SEL (R2, R162), and the status
word (R172, R179). -/

namespace Sys2Proof.Machine

/-- A flag as a bit of a field. -/
def bit (b : Bool) : Nat := if b then 1 else 0

/-- The code of a termination class (R167). -/
def TermClass.code : TermClass → Nat
  | .done => 0
  | .alert => 1
  | .refused => 2
  | .retry => 3
  | .lost => 4
  | .notice => 5

/-- The code of a reason (R167). -/
def Reason.code : Reason → Nat
  | .none => 0
  | .markPassed => 1
  | .endOfData => 2
  | .startOfStore => 3
  | .lowSpace => 4
  | .staleContext => 5
  | .badPointer => 16
  | .badCommand => 17
  | .badValue => 18
  | .notRunning => 19
  | .storeBusy => 20
  | .pageInUse => 21
  | .storeProtected => 22
  | .positionLost => 23
  | .notFormatted => 24
  | .noSpace => 25
  | .noFrame => 26
  | .notAPage => 27
  | .stackFull => 28
  | .stackEmpty => 29
  | .listOrder => 30
  | .setupInvalid => 31
  | .regionsLocked => 32
  | .setupPending => 33
  | .memoryError => 48
  | .headerBad => 56

/-- The control page base that BASE_SEL chooses (R2). -/
def ctrlBaseOf (straps : BitVec 2) : Nat :=
  match straps.toNat with
  | 0 => 0x0000000
  | 1 => 0x07FFFC0
  | 2 => 0x0FFFFC0
  | _ => 0x1FFFFC0

/-- The message buffer address after reset: the 64 bytes after the control page, before it for BASE_SEL 3
(R162). -/
def resetMsgAddr (straps : BitVec 2) : Nat :=
  match straps.toNat with
  | 0 => 0x0000040
  | 1 => 0x0800000
  | 2 => 0x1000000
  | _ => 0x1FFFF80

/-- The code of the run state in the status word (R179). -/
def RunState.code : RunState → Nat
  | .bypass => 0
  | .run => 1

/-- The code of the reload result in the status word (R179). -/
def ReloadResult.code : ReloadResult → Nat
  | .none => 0
  | .loaded => 1
  | .invalid => 2

/-- The code of the last class in the status word: 7 when no command has completed (R167, R172). -/
def lastClassCode (c : Option TermClass) : Nat :=
  match c with
  | none => 7
  | some c => c.code

/-- Whether the pending notice set is empty (R169). -/
def Notices.isEmpty (n : Notices) : Bool := n == Notices.empty

/-- The status word from the live state (R172, R179). -/
def State.statusBits (s : State) : Nat :=
  s.bridge.run.code
    + bit s.cu.opened * 2 ^ 1
    + bit s.cu.cmd.isSome * 2 ^ 2
    + lastClassCode s.cu.lastClass * 2 ^ 4
    + s.cu.lastReason.code * 2 ^ 8
    + bit s.cu.refusedBusy * 2 ^ 16
    + bit (!s.cu.notices.isEmpty) * 2 ^ 17
    + bit (s.cu.owner == .part) * 2 ^ 18
    + bit s.timer.signal * 2 ^ 19
    + s.cu.reloadResult.code * 2 ^ 20
    + bit s.store.formatted * 2 ^ 22
    + bit s.store.protect * 2 ^ 23
    + bit s.store.position.isNone * 2 ^ 24

/-- The status word as a bus word. -/
def State.statusWord (s : State) : Word := BitVec.ofNat 32 s.statusBits

end Sys2Proof.Machine
end

