-- ==== Sys2Proof/WellFormed.lean ====
section
/-! DEFINITION. Which terms of Syntax.lean have the form the ports carry (00_scope.md, Signals). -/

namespace Sys2Proof

/-- The first byte address above the 32 MiB space (00_scope.md, Signals). -/
def memoryTop : Nat := 0x2000000

/-- The number of words of a transaction. -/
def Burst.len (b : Burst) : Nat :=
  match b.body with
  | .read n => n
  | .write beats => beats.length

/-- A transaction of the port's form: a byte address that is a multiple of 4 from 0 to 0x1FF_FFFC and a
length of 1 to 8 words (00_scope.md, Signals). -/
def Burst.wf (b : Burst) : Bool :=
  b.addr % 4 == 0 && decide (b.addr < memoryTop) && decide (1 ≤ b.len) && decide (b.len ≤ 8)

/-- An answer of the port's form: at most 8 words. -/
def Answer.wf (a : Answer) : Bool := decide (a.words.length ≤ 8)

/-- The commands whose operands have the form of the ports. -/
def Instr.wf : Instr → Bool
  | .resetNFall => true
  | .resetNRise _ => true
  | .reloadReadAnswer a => a.wf
  | .transactionAccept b => b.wf
  | .passThroughPiece => true
  | .passThroughAnswer a => a.wf
  | .controlPageWrite => true
  | .openControl => true
  | .closeControl => true
  | .restart => true
  | .commandPointer => true
  | .statusWord => true
  | .captureLumaPiece => true
  | .heldPieceResume => true
  | .captureChromaPiece => true
  | .apertureReadPiece => true
  | .displayReadPiece => true
  | .composerFetchAnswer a => a.wf
  | .memoryPortGrant => true
  | .emission => true
  | .lineWriteAnswer a => a.wf
  | .packetFetch a => a.wf
  | .setup => true
  | .setupBlockReadAnswer a => a.wf
  | .mountScanReadAnswer a => a.wf
  | .deferredMountScan => true
  | .status => true
  | .statusClear => true
  | .view => true
  | .viewPush => true
  | .viewPop => true
  | .viewPageHeaderRead a => a.wf
  | .viewPopHeaderRead a => a.wf
  | .record => true
  | .mark => true
  | .copyTransactionAnswer a => a.wf
  | .commit a => a.wf
  | .storeClear => true
  | .storeClearWriteAnswer a => a.wf
  | .storeProtect => true
  | .stepFwd => true
  | .stepRev => true
  | .skipFwd => true
  | .skipRev => true
  | .rewind => true
  | .toEnd => true
  | .traversalReadAnswer a => a.wf
  | .advanceReadAnswer a => a.wf
  | .triggers => true
  | .triggerListReadAnswer a => a.wf
  | .watchExpiry => true
  | .messageWriteAnswer a => a.wf
  | .noticeWriteAnswer a => a.wf
  | .localTimeAdvance => true

/-- The answer of the memory port that a command carries. -/
def Instr.answer : Instr → Option Answer
  | .resetNFall => none
  | .resetNRise _ => none
  | .reloadReadAnswer a => some a
  | .transactionAccept _ => none
  | .passThroughPiece => none
  | .passThroughAnswer a => some a
  | .controlPageWrite => none
  | .openControl => none
  | .closeControl => none
  | .restart => none
  | .commandPointer => none
  | .statusWord => none
  | .captureLumaPiece => none
  | .heldPieceResume => none
  | .captureChromaPiece => none
  | .apertureReadPiece => none
  | .displayReadPiece => none
  | .composerFetchAnswer a => some a
  | .memoryPortGrant => none
  | .emission => none
  | .lineWriteAnswer a => some a
  | .packetFetch a => some a
  | .setup => none
  | .setupBlockReadAnswer a => some a
  | .mountScanReadAnswer a => some a
  | .deferredMountScan => none
  | .status => none
  | .statusClear => none
  | .view => none
  | .viewPush => none
  | .viewPop => none
  | .viewPageHeaderRead a => some a
  | .viewPopHeaderRead a => some a
  | .record => none
  | .mark => none
  | .copyTransactionAnswer a => some a
  | .commit a => some a
  | .storeClear => none
  | .storeClearWriteAnswer a => some a
  | .storeProtect => none
  | .stepFwd => none
  | .stepRev => none
  | .skipFwd => none
  | .skipRev => none
  | .rewind => none
  | .toEnd => none
  | .traversalReadAnswer a => some a
  | .advanceReadAnswer a => some a
  | .triggers => none
  | .triggerListReadAnswer a => some a
  | .watchExpiry => none
  | .messageWriteAnswer a => some a
  | .noticeWriteAnswer a => some a
  | .localTimeAdvance => none

end Sys2Proof
end

