-- ==== Sys2Proof/Machine/Operands.lean ====
section
/-! DEFINITION. The formats in memory (ch. 12): reading the setup block, the command packet, the record
header and the trigger entry from the words of an answer, and writing headers as words. -/

namespace Sys2Proof.Machine

/-! ## Fields, halfwords and bytes (R174, R175) -/

/-- The unsigned number in the `width` bits of a word from bit `lo` up (ch. 12, opening). -/
def field (w : Word) (lo width : Nat) : Nat := w.toNat / 2 ^ lo % 2 ^ width

/-- One bit of a word as a flag. -/
def flagAt (w : Word) (i : Nat) : Bool := field w i 1 == 1

/-- Word `i` of a format read from memory. -/
def wordAt (ws : List Word) (i : Nat) : Word := ws.getD i 0

/-- The two little-endian halfwords of a word, lower first (R174). -/
def halvesOf (w : Word) : List Nat := [field w 0 16, field w 16 16]

/-- The sum of the halfwords of a format modulo 65536 (R174). -/
def halfSum (ws : List Word) : Nat := (ws.flatMap halvesOf).sum % 65536

/-- The check of a setup block or record header: its halfwords sum to 0xFFFF modulo 65536 (R174). -/
def checkGood (ws : List Word) : Bool := halfSum ws == 0xFFFF

/-- The four bytes of a bus word, lowest address first (00_scope.md: little-endian). -/
def bytesOfWord (w : Word) : List Byte :=
  [w.extractLsb' 0 8, w.extractLsb' 8 8, w.extractLsb' 16 8, w.extractLsb' 24 8]

/-- The bytes of consecutive words. -/
def bytesOfWords (ws : List Word) : List Byte := ws.flatMap bytesOfWord

/-- The little-endian bus word of four bytes. -/
def wordOfBytes (b0 b1 b2 b3 : Byte) : Word :=
  BitVec.ofNat 32 (b0.toNat + b1.toNat * 2 ^ 8 + b2.toNat * 2 ^ 16 + b3.toNat * 2 ^ 24)

/-- The words of a list of bytes, four bytes a word; a rest of fewer than four bytes makes none. -/
def wordsOfBytes : List Byte → List Word
  | b0 :: b1 :: b2 :: b3 :: rest => wordOfBytes b0 b1 b2 b3 :: wordsOfBytes rest
  | _ => []

/-- A number as a bus word. -/
def toWord (n : Nat) : Word := BitVec.ofNat 32 n

/-- Written words with all byte-enables set. -/
def fullBeats (ws : List Word) : List Beat := ws.map fun w => { data := w, be := 0xF }

/-- An address with its two low bits taken as 0 (R143, R157, R160). -/
def wordAligned (w : Word) : Nat := w.toNat / 4 * 4

/-- A span of `n` words from `addr` as transactions of 8 words and a last one of the rest, address and
length each (R41; log entry 10). -/
def chunks (addr n : Nat) : List (Nat × Nat) :=
  (List.range ((n + 7) / 8)).map fun i => (addr + 32 * i, min 8 (n - 8 * i))

/-- Written words as transactions of 8 words and a last one of the rest, from `addr` up, with all
byte-enables set and the part's own tag 0 (R14, R41). -/
def writeChunks (addr : Nat) (ws : List Word) : List Burst :=
  (chunks addr ws.length).map fun c =>
    { tag := 0, addr := c.1, body := .write (fullBeats ((ws.drop ((c.1 - addr) / 4)).take c.2)) }

/-! ## The command packet (R163, R177) -/

/-- A fetched packet. -/
def Packet.ofWords (ws : List Word) : Packet :=
  let h := wordAt ws 0
  { code := field h 0 8, modifier := field h 8 4, ie := flagAt h 12, release := flagAt h 13,
    p1 := wordAt ws 1, p2 := wordAt ws 2, p3 := wordAt ws 3 }

/-- The MOVE mode of a mode code (R177). -/
def MoveMode.ofCode : Nat → Option MoveMode
  | 0 => some .stepFwd
  | 1 => some .stepRev
  | 2 => some .skipFwd
  | 3 => some .skipRev
  | 4 => some .rewind
  | 5 => some .toEnd
  | _ => none

/-- The format of a format code (R177, R180). -/
def Format.ofCode : Nat → Option Format
  | 0 => some .full
  | 1 => some .half
  | _ => none

/-- The code of a format (R180). -/
def Format.code : Format → Nat
  | .full => 0
  | .half => 1

/-- The source kind of a code (R177). -/
def SourceKind.ofCode : Nat → Option SourceKind
  | 0 => some .live
  | 1 => some .frozen
  | 2 => some .page
  | 3 => some .blank
  | _ => none

/-- The view request of a packet (R177). -/
def Packet.viewRequest (p : Packet) : ViewRequest :=
  { kind := SourceKind.ofCode (field p.p1 0 8), zoom := field p.p1 16 16,
    ramp := p.modifier % 2 == 1, useNote := p.modifier / 2 % 2 == 1,
    cx := field p.p2 0 16, cy := field p.p2 16 16 }

/-! ## The record header (R101, R102, R180) -/

/-- The kind of a kind code (R180). -/
def Kind.ofCode : Nat → Option Kind
  | 1 => some .page
  | 2 => some .mark
  | 3 => some .endRecord
  | _ => none

/-- The code of a kind (R180). -/
def Kind.code : Kind → Nat
  | .page => 1
  | .mark => 2
  | .endRecord => 3

/-- The fields of a header as it stands in memory, none for an unknown kind or format code
(R180: either makes the header bad). -/
def Header.ofWords (ws : List Word) : Option Header :=
  let w0 := wordAt ws 0
  match Kind.ofCode (field w0 0 4), Format.ofCode (field w0 4 4) with
  | some kind, some format =>
    some
      { kind := kind, format := format, broken := flagAt w0 8, note := flagAt w0 9,
        cycle := field w0 10 6, serial := BitVec.ofNat 16 (field w0 16 16),
        length := (wordAt ws 1).toNat, lesson := field (wordAt ws 2) 0 8,
        w := field (wordAt ws 2) 16 16, h := field (wordAt ws 3) 0 16, z := field (wordAt ws 3) 16 16,
        frame := wordAt ws 4, time := wordAt ws 5,
        cx := field (wordAt ws 6) 0 16, cy := field (wordAt ws 6) 16 16 }
  | _, _ => none

/-- The first fifteen halfwords of a header in seven words and a half, with a check halfword of `check`
(R180). -/
def Header.wordsWith (h : Header) (check : Nat) : List Word :=
  [ toWord (h.kind.code + h.format.code * 2 ^ 4 + (if h.broken then 2 ^ 8 else 0)
      + (if h.note then 2 ^ 9 else 0) + h.cycle * 2 ^ 10 + h.serial.toNat * 2 ^ 16),
    toWord h.length,
    toWord (h.lesson + h.w * 2 ^ 16),
    toWord (h.h + h.z * 2 ^ 16),
    h.frame,
    h.time,
    toWord (h.cx + h.cy * 2 ^ 16),
    toWord (check * 2 ^ 16) ]

/-- A header as the Store Controller writes it, with the check halfword that makes its sixteen halfwords
sum to 0xFFFF (R101, R174). -/
def Header.toWords (h : Header) : List Word :=
  h.wordsWith (0xFFFF - halfSum (h.wordsWith 0))

/-- The record length that the kind and geometry give (R100). -/
def Header.shapeLength (h : Header) : Nat :=
  match h.kind with
  | .page => 2 * h.w * h.h + 36
  | .mark => 36
  | .endRecord => 0

/-- Tests 2 and 3 of the header check (R102). -/
def Header.shapeGood (h : Header) : Bool :=
  h.length == h.shapeLength
    && (h.kind != .page
        || (h.w % 8 == 0 && decide (32 ≤ h.w) && decide (h.w ≤ 2048)
            && decide (8 ≤ h.h) && decide (h.h ≤ 1536)))

/-- Tests 1 to 3 of the header check on the words a read returned, with the header's fields
(R102). -/
def judgeShape (ws : List Word) : Option Header :=
  match Header.ofWords ws with
  | none => none
  | some h => if checkGood ws && h.shapeGood then some h else none

/-- The header check with the mount scan's bound, at offset `p` of a store of `size` bytes (R102). -/
def judgeScan (size p : Nat) (ws : List Word) : Option Header :=
  match judgeShape ws with
  | none => none
  | some h => if p + h.length + 32 ≤ size then some h else none

/-- The header check with the bound of every other read, at offset `p` below the end of data `eod`
(R102). -/
def judgeChain (eod p : Nat) (ws : List Word) : Option Header :=
  match judgeShape ws with
  | none => none
  | some h => if h.kind == .endRecord || decide (p + h.length ≤ eod) then some h else none

/-- The END header with a serial (R101, R180). -/
def Header.ofEnd (serial : Half) : Header :=
  { kind := .endRecord, format := .full, broken := false, note := false, cycle := 0, serial := serial,
    length := 0, lesson := 0, w := 0, h := 0, z := 0, frame := 0, time := 0, cx := 0, cy := 0 }

/-! ## The trigger entry (R142, R181) -/

/-- The action of an action code (R181). -/
def Action.ofCode : Nat → Option Action
  | 0 => some .capture
  | 1 => some .mark
  | 2 => some .advance
  | 3 => some .zoomStep
  | 4 => some .notify
  | _ => none

/-- The outcome of validating one entry (R143). -/
inductive EntryCheck where
  | good (t : Trigger)
  | bad (r : Reason)
deriving DecidableEq, Repr

/-- One entry of a TRIGGERS list from its two words, in the order of tests of R143: action, k, r, L below
the capture height in force, L above the line mark before it. -/
def checkEntry (hc : Nat) (before : Option Nat) (w0 w1 : Word) : EntryCheck :=
  let line := field w0 0 11
  let k := field w0 12 3
  let r := field w0 16 6
  match Action.ofCode (field w0 24 3) with
  | none => .bad .badValue
  | some action =>
    if 6 < k then .bad .badValue
    else if 2 ^ k ≤ r then .bad .badValue
    else if hc ≤ line then .bad .badValue
    else if (match before with | none => false | some l => decide (line ≤ l)) then .bad .listOrder
    else .good
      { line := line, k := k, r := r, action := action, arg := BitVec.ofNat 16 (field w1 0 16),
        enabled := flagAt w0 31, fired := false }

/-- The outcome of validating a list (R143): the entries, or the reason and index of the first that
fails. -/
inductive ListCheck where
  | good (ts : List Trigger)
  | bad (r : Reason) (index : Nat)
deriving DecidableEq, Repr

/-- The entries of a TRIGGERS list in list order; `index` is the index of the next one (R143). -/
def checkEntries (hc : Nat) (before : Option Nat) (index : Nat) : List Word → ListCheck
  | w0 :: w1 :: rest =>
    match checkEntry hc before w0 w1 with
    | .bad r => .bad r index
    | .good t =>
      match checkEntries hc (some t.line) (index + 1) rest with
      | .bad r i => .bad r i
      | .good ts => .good (t :: ts)
  | _ => .good []

/-! ## The setup block (R155, R156, R176) -/

/-- The fields of a setup block (R155) as its 64 bytes give them (R176). -/
structure SetupBlock where
  formatNumber : Nat
  wc : Nat
  hc : Nat
  slotSize : Nat
  apertureBase : Nat
  slotBase : Vector Nat 3
  wv : Nat
  hv : Nat
  viewBase : Nat
  storeBase : Nat
  storeLimit : Nat
  margin : Nat
  msgAddr : Nat
  classes : Vector MasterClass 8
  t : Nat
  g : Nat
  b : Nat
  wp : Nat
  auto : Bool
  a : Nat
  kl : Byte
  kc : Byte
  borderY : Byte
  borderCb : Byte
  borderCr : Byte
  interval : Nat
deriving DecidableEq, Repr

/-- The class of a 2-bit class code (R176). -/
def MasterClass.ofCode : Nat → MasterClass
  | 1 => .control
  | 2 => .capture
  | 3 => .display
  | _ => .plain

/-- A byte of a word, for i from 0 to 3. -/
def byteAt (w : Word) (i : Nat) : Byte := BitVec.ofNat 8 (field w (8 * i) 8)

/-- The class table of field 16 (R176). -/
def classTable (w : Word) : Vector MasterClass 8 :=
  #v[.ofCode (field w 0 2), .ofCode (field w 2 2), .ofCode (field w 4 2), .ofCode (field w 6 2),
     .ofCode (field w 8 2), .ofCode (field w 10 2), .ofCode (field w 12 2), .ofCode (field w 14 2)]

/-- The setup block in 16 words (R176). -/
def SetupBlock.ofWords (ws : List Word) : SetupBlock :=
  let w := wordAt ws
  { wc := field (w 0) 0 12, formatNumber := field (w 0) 12 4, hc := field (w 0) 16 16,
    wv := field (w 1) 0 16, hv := field (w 1) 16 16,
    slotSize := (w 2).toNat, apertureBase := (w 3).toNat,
    slotBase := #v[(w 4).toNat, (w 5).toNat, (w 6).toNat],
    viewBase := (w 7).toNat, storeBase := (w 8).toNat, storeLimit := (w 9).toNat,
    margin := (w 10).toNat, msgAddr := (w 11).toNat,
    classes := classTable (w 12),
    interval := field (w 12) 16 15, auto := flagAt (w 12) 31,
    t := (byteAt (w 13) 0).toNat, g := (byteAt (w 13) 1).toNat, b := (byteAt (w 13) 2).toNat,
    wp := (byteAt (w 13) 3).toNat, a := (byteAt (w 14) 0).toNat,
    kl := byteAt (w 14) 1, kc := byteAt (w 14) 2, borderY := byteAt (w 14) 3,
    borderCb := byteAt (w 15) 0, borderCr := byteAt (w 15) 1 }

/-- A span of memory: base and number of bytes. -/
structure Span where
  base : Nat
  size : Nat
deriving DecidableEq, Repr

/-- Whether two spans share a byte. -/
def Span.overlaps (x y : Span) : Bool :=
  decide (x.base < y.base + y.size) && decide (y.base < x.base + x.size)

/-- The region check of R155: a base that is a multiple of 64, an extent within memory, no overlap with
the regions before it. -/
def regionCheck (r : Span) (before : List Span) : Bool :=
  r.base % 64 == 0 && decide (r.base + r.size ≤ memoryTop) && before.all fun q => !r.overlaps q

/-- The number of tags of a class in a table. -/
def countClass (c : MasterClass) (t : Vector MasterClass 8) : Nat := t.toList.count c

def SetupBlock.aperture (b : SetupBlock) : Span := { base := b.apertureBase, size := 2 * b.wc * b.hc }
def SetupBlock.slot (b : SetupBlock) (i : Fin 3) : Span := { base := b.slotBase[i], size := b.slotSize }
def SetupBlock.window (b : SetupBlock) : Span := { base := b.viewBase, size := 2 * b.wv * b.hv }
def SetupBlock.store (b : SetupBlock) : Span :=
  { base := b.storeBase, size := b.storeLimit - b.storeBase }
def SetupBlock.message (b : SetupBlock) : Span := { base := b.msgAddr, size := 64 }

/-- The control page (R2). -/
def ctrlSpan (straps : BitVec 2) : Span := { base := ctrlBaseOf straps, size := 64 }

/-- The requirement of a field of the setup block by its number, 1 to 28 (R155); `ctrl` is the control
page. Field 29 is the check of the block's words. -/
def SetupBlock.fieldGood (ctrl : Span) (b : SetupBlock) (n : Nat) : Bool :=
  let slots := [b.slot 0, b.slot 1, b.slot 2]
  match n with
  | 1 => b.formatNumber == 1
  | 2 => decide (64 ≤ b.wc) && decide (b.wc ≤ 2048) && b.wc % 16 == 0
  | 3 => decide (16 ≤ b.hc) && decide (b.hc ≤ 1536) && b.hc % 2 == 0
  | 4 => b.slotSize % 64 == 0 && decide (2 * b.wc * b.hc ≤ b.slotSize)
  | 5 => regionCheck b.aperture [ctrl]
  | 6 => regionCheck (b.slot 0) [ctrl, b.aperture]
  | 7 => regionCheck (b.slot 1) [ctrl, b.aperture, b.slot 0]
  | 8 => regionCheck (b.slot 2) [ctrl, b.aperture, b.slot 0, b.slot 1]
  | 9 => decide (320 ≤ b.wv) && decide (b.wv ≤ 1920) && b.wv % 16 == 0
  | 10 => decide (240 ≤ b.hv) && decide (b.hv ≤ 1200) && b.hv % 2 == 0
  | 11 => regionCheck b.window ([ctrl, b.aperture] ++ slots)
  | 12 => b.storeBase % 64 == 0
  | 13 => decide (b.storeBase + 65536 ≤ b.storeLimit)
      && decide (b.storeLimit ≤ b.storeBase + 16777216)
      && (b.storeLimit - b.storeBase) % 4 == 0
      && decide (b.storeLimit ≤ memoryTop)
      && ([ctrl, b.aperture] ++ slots ++ [b.window]).all fun q => !b.store.overlaps q
  | 14 => decide (b.margin ≤ 16777216)
  | 15 => regionCheck b.message ([ctrl, b.aperture] ++ slots ++ [b.window, b.store])
  | 16 => decide (countClass .capture b.classes ≤ 1) && decide (countClass .display b.classes ≤ 1)
  | 17 => decide (b.t ≤ 31)
  | 18 => decide (b.g ≤ 63)
  | 19 => decide (b.b ≤ 223)
  | 20 => decide (b.b + 32 ≤ b.wp) && decide (b.wp ≤ 255)
  | 21 => true
  | 22 => decide (1 ≤ b.a) && decide (b.a ≤ 128)
  | 28 => decide (b.interval ≤ 2000)
  | _ => true

/-- The first field from `n` on, of `fuel` fields, whose requirement fails. -/
def SetupBlock.firstBad (ctrl : Span) (b : SetupBlock) (n : Nat) : Nat → Option Nat
  | 0 => none
  | fuel + 1 => if b.fieldGood ctrl n then b.firstBad ctrl (n + 1) fuel else some n

/-- Validation of the 16 words of a block: field 29 first, then fields 1 to 28; the number of the field
that fails (R156). -/
def validateSetup (ctrl : Span) (ws : List Word) : Option Nat :=
  if checkGood ws then (SetupBlock.ofWords ws).firstBad ctrl 1 28 else some 29

end Sys2Proof.Machine
end

