-- ==== Sys2Proof/Machine/Ops.lean ====
section
/-! DEFINITION. The shared operations of the blocks: the gate every command passes, the memory port
(R14, R15), the region map (R2, R5), the slots and their holds (R18 to R21), messages, notices and the
completion of a command (R165 to R170), and the engines of the Store Controller (R105, R106). -/

namespace Sys2Proof.Machine

/-- The outcome of a command. -/
abbrev Out := Host.Outcome State Fault Refusal

/-! ## The gate -/

/-- Both engines of the Store Controller are idle (R105). -/
def State.enginesIdle (s : State) : Bool := s.store.copy.isNone && s.store.trav.isNone

/-- A region change has waited for an operation that has ended: its mount scan starts at that end, before
anything else (R108, R159; log entry 12). -/
def State.mountDue (s : State) : Bool := s.store.deferred.isSome && s.enginesIdle

/-- RESET_N is high and no mount scan is due: the part can take a step (log entries 1 and 12). -/
def State.awake (s : State) : Bool := s.resetN && !s.mountDue

/-- The state after a command that takes place, or the state as it stands where the command's event
cannot take place (log entry 3). -/
def State.whenAwake (s : State) (next : State) : Out := if s.awake then .next next else .next s

/-! ## The memory port (R14) -/

/-- The requester that makes the transactions of a purpose (R14). -/
def Purpose.requester : Purpose → Requester
  | .composerStored => .composer
  | .composerSource => .composer
  | .passThrough => .passThrough
  | .lineWrite => .lineWriter
  | .scanRead => .store
  | .viewHeader => .store
  | .popHeader => .store
  | .copy => .store
  | .commit => .store
  | .clearWrite => .store
  | .moveRead => .store
  | .advanceRead => .store
  | .reloadRead => .command
  | .packet => .command
  | .setupBlock => .command
  | .triggerList => .command
  | .message => .command
  | .notice => .command

/-- The request that a requester has waiting. -/
def MemoryPort.waiting (p : MemoryPort) : Requester → Option Request
  | .composer => p.composer
  | .passThrough => p.passThrough
  | .lineWriter => p.lineWriter
  | .store => p.store
  | .command => p.command

/-- The arbiter with the waiting request of a requester replaced. -/
def MemoryPort.put (p : MemoryPort) (q : Requester) (r : Option Request) : MemoryPort :=
  match q with
  | .composer => { p with composer := r }
  | .passThrough => { p with passThrough := r }
  | .lineWriter => { p with lineWriter := r }
  | .store => { p with store := r }
  | .command => { p with command := r }

/-- The requesters in the fixed order of the arbiter (R14). -/
def arbiterOrder : List Requester := [.composer, .passThrough, .lineWriter, .store, .command]

/-- The first requester in the fixed order that waits, with its request (R14). -/
def MemoryPort.firstWaiting (p : MemoryPort) : Option (Requester × Request) :=
  arbiterOrder.findSome? fun q => (p.waiting q).map fun r => (q, r)

/-- A requester presents a transaction to the arbiter (R14). It does so at once, also while an earlier
transaction of its own whose operation has been aborted is still granted: DESIGN CHOICE (log entry 26). -/
def State.present (s : State) (p : Purpose) (b : Burst) : State :=
  s.setPort (s.port.put p.requester (some { purpose := p, burst := b }))

/-- A read on the part's own account: master tag 0 (R14). -/
def ownRead (addr len : Nat) : Burst := { tag := 0, addr := addr, body := .read len }

/-- A write on the part's own account: master tag 0, all byte-enables set (R14). -/
def ownWrite (addr : Nat) (ws : List Word) : Burst :=
  { tag := 0, addr := addr, body := .write (fullBeats ws) }

/-- A waiting request unless it is of an aborted operation. -/
def keepUnless (sel : Purpose → Bool) (r : Option Request) : Option Request :=
  match r with
  | some q => if sel q.purpose then none else some q
  | none => none

/-- The waiting requests of aborted operations are withdrawn, and the answer of a granted one will be
taken as the end of that access and no more (R14). -/
def MemoryPort.withdraw (p : MemoryPort) (sel : Purpose → Bool) : MemoryPort :=
  { composer := keepUnless sel p.composer, passThrough := keepUnless sel p.passThrough,
    lineWriter := keepUnless sel p.lineWriter, store := keepUnless sel p.store,
    command := keepUnless sel p.command,
    granted :=
      match p.granted with
      | some g => some (if sel g.request.purpose then { g with live := false } else g)
      | none => none }

/-- The granted transaction is of one of these purposes, and its requester still wants its answer. -/
def MemoryPort.grantedFor (p : MemoryPort) (sel : Purpose → Bool) : Bool :=
  match p.granted with
  | some g => g.live && sel g.request.purpose
  | none => false

/-- An answer of the form that a transaction is answered with: as many words as were read, none for a
write (00_scope.md, Signals). -/
def answerFits (a : Answer) (b : Burst) : Bool :=
  match b.body with
  | .read n => a.words.length == n
  | .write _ => a.words.isEmpty

/-- The granted transaction that an answer of one of these purposes answers, with the port set free
(R14). -/
def State.answered (s : State) (sel : Purpose → Bool) (a : Answer) : Option (Grant × State) :=
  match s.port.granted with
  | some g =>
    if sel g.request.purpose && answerFits a g.request.burst
    then some (g, s.setPort { s.port with granted := none })
    else none
  | none => none

/-- An answer from the memory port: it ends the granted transaction and goes to the requester that made
it, or, when the operation was aborted, ends the access alone (R14, R15). An answer that is not of the
granted transaction is ignored (R4; log entry 6). -/
def State.onAnswer (s : State) (sel : Purpose → Bool) (a : Answer) (next : Request → State → State) :
    Out :=
  if s.awake then
    match s.answered sel a with
    | some (g, s') => if g.live then .next (next g.request s') else .next s'
    | none => .next s
  else .next s

/-! ## The region map (R2) and treatment areas (R5) -/

/-- The treatment areas (R5). -/
inductive Area where
  | control
  | apertureLuma
  | apertureChroma
  | slot (i : Fin 3)
  | viewLuma
  | viewChroma
  | store
  | message
  | elsewhere
  | beyond
deriving DecidableEq, Repr

/-- Whether an address lies in a span. -/
def Span.has (x : Span) (addr : Nat) : Bool := decide (x.base ≤ addr) && decide (addr < x.base + x.size)

/-- The control page base in force (R2). -/
def State.ctrlBase (s : State) : Nat := ctrlBaseOf s.bridge.straps

/-- The aperture, with the capture geometry in force (R2). -/
def State.apertureSpan (s : State) : Span :=
  { base := s.bridge.regions.apertureBase, size := 2 * s.slots.wc * s.slots.hc }

/-- The view window, with the view geometry in the latch (R64). -/
def State.windowSpan (s : State) : Span :=
  { base := s.bridge.regions.viewBase, size := 2 * s.comp.latch.set.wv * s.comp.latch.set.hv }

/-- The store region in force (R99). -/
def State.storeSpan (s : State) : Span := { base := s.store.base, size := s.store.limit - s.store.base }

/-- The base of a slot (R16). -/
def State.slotBase (s : State) (i : Fin 3) : Nat := s.bridge.regions.slotBase[i]

/-- A slot region (R2). -/
def State.slotSpan (s : State) (i : Fin 3) : Span :=
  { base := s.slotBase i, size := s.bridge.regions.slotSize }

/-- The message buffer region (R2). -/
def State.messageSpan (s : State) : Span := { base := s.cu.msgAddr, size := 64 }

/-- The area of a word address in the region map in force (R2, R5). In BYPASS the map holds the control
page alone (R7). -/
def State.areaOf (s : State) (addr : Nat) : Area :=
  if memoryTop ≤ addr then .beyond
  else if (ctrlSpan s.bridge.straps).has addr then .control
  else match s.bridge.run with
    | .bypass => .elsewhere
    | .run =>
      if s.apertureSpan.has addr then
        if addr < s.apertureSpan.base + s.slots.wc * s.slots.hc then .apertureLuma else .apertureChroma
      else if (s.slotSpan 0).has addr then .slot 0
      else if (s.slotSpan 1).has addr then .slot 1
      else if (s.slotSpan 2).has addr then .slot 2
      else if s.windowSpan.has addr then
        if addr < s.windowSpan.base + s.comp.latch.set.wv * s.comp.latch.set.hv
        then .viewLuma else .viewChroma
      else if s.storeSpan.has addr then .store
      else if s.messageSpan.has addr then .message
      else .elsewhere

/-! ## Slots and holds (ch. 2) -/

/-- The slots in index order. -/
def slotIndices : List (Fin 3) := [0, 1, 2]

/-- The distance of a slot's frame number back from the current one, modulo 2^32 (R18). -/
def SlotRec.age (r : SlotRec) (now : Word) : Nat := (now - r.frame).toNat

/-- Of the best COMPLETE slot so far and another slot, the one of smaller distance back; on equal
distances, which no run reaches, the one of lower index (R18; log entry 18). -/
def SlotManager.newer (m : SlotManager) (now : Word) (best : Option (Fin 3)) (i : Fin 3) :
    Option (Fin 3) :=
  if m.recs[i].state = .complete then
    match best with
    | none => some i
    | some j => if m.recs[i].age now < m.recs[j].age now then some i else best
  else best

/-- The newest slot (R18). -/
def State.newest (s : State) : Option (Fin 3) :=
  slotIndices.foldl (s.slots.newer s.timer.frameNumber) none

/-- A slot record. -/
def State.slotRec (s : State) (i : Fin 3) : SlotRec := s.slots.recs[i]

/-- The state with a slot record replaced. -/
def State.setRec (s : State) (i : Fin 3) (r : SlotRec) : State :=
  s.setSlots { s.slots with recs := s.slots.recs.set i r }

/-- A hold is taken on a slot (R19). -/
def State.takeHold (s : State) (i : Fin 3) : State :=
  s.setRec i { s.slotRec i with hold := (s.slotRec i).hold + 1 }

/-- Whether a take of a named slot succeeds (R19). -/
def State.canTake (s : State) (i : Fin 3) (gen : Half) : Bool :=
  decide ((s.slotRec i).state = .complete) && (s.slotRec i).gen == gen

/-- A release gives up one hold; a COMPLETE slot that is not the newest is emptied when none is left
(R21). -/
def State.releaseHold (s : State) (i : Fin 3) : State :=
  let left := (s.slotRec i).hold - 1
  let r : SlotRec := { s.slotRec i with hold := left }
  if left = 0 ∧ r.state = .complete ∧ s.newest ≠ some i then s.setRec i { r with state := .empty }
  else s.setRec i r

/-- The slot that a view context holds: a FROZEN one's (R83). -/
def ViewContext.held (c : ViewContext) : Option (Fin 3) :=
  match c.source with
  | .frozen i _ => some i
  | _ => none

/-- Release of the slot that a holder holds, if it holds one. -/
def State.releaseOpt (s : State) (i : Option (Fin 3)) : State :=
  match i with
  | some i => s.releaseHold i
  | none => s

/-- The slot that the composer latch holds (R64). -/
def ViewLatch.held (l : ViewLatch) : Option (Fin 3) :=
  match l.source with
  | .slot i _ _ => if l.latched then some i else none
  | _ => none

/-- The slot that a stack entry holds: a FROZEN entry whose hold is STANDING (R84). -/
def StackEntry.held (e : StackEntry) : Option (Fin 3) := if e.standing then e.ctx.held else none

/-- The slot that the copy engine pins (R112). -/
def CopyOp.pin (c : CopyOp) : Option (Fin 3) :=
  match c.job with
  | .page i => some i
  | _ => none

/-! ## Messages (R165, R166, R178) -/

/-- The outcome that an owning block reports: class, reason, and the values the message carries
(R164). -/
structure Result where
  cls : TermClass
  reason : Reason
  arg : Word
  residual : Nat
deriving DecidableEq, Repr

/-- A refusal with argument 0. -/
def Result.refuse (r : Reason) : Result := { cls := .refused, reason := r, arg := 0, residual := 0 }

/-- DONE with an argument. -/
def Result.done (arg : Word) : Result := { cls := .done, reason := .none, arg := arg, residual := 0 }

/-- RETRY MEMORY_ERROR with argument 0. -/
def Result.retry : Result := { cls := .retry, reason := .memoryError, arg := 0, residual := 0 }

/-- The position as messages carry it: 0xFFFF_FFFF when LOST (R103). -/
def positionWord (p : Option Nat) : Word :=
  match p with
  | some p => toWord p
  | none => 0xFFFFFFFF

/-- The notice set as bits 16 to 23 of word 5 (R178). -/
def Notices.bits (n : Notices) : Nat :=
  bit n.signalLost * 2 ^ 16 + bit n.signalBack * 2 ^ 17 + bit n.viewReset * 2 ^ 18
    + bit n.lessonEnd * 2 ^ 19 + bit n.triggerNote.isSome * 2 ^ 20 + bit n.captureFailed.isSome * 2 ^ 21
    + bit n.lowSpace * 2 ^ 22 + bit n.positionLost * 2 ^ 23

/-- The notice arguments, word 6; each is 0 when its kind is absent (R178). -/
def Notices.args (n : Notices) : Nat :=
  (match n.triggerNote with | some c => c.toNat | none => 0)
    + (match n.captureFailed with | some r => r.code * 2 ^ 16 | none => 0)

/-- Two 16-bit counters in a word, the first in bits 0 to 15 (R178). -/
def pairWord (x y : Half) : Word := toWord (x.toNat + y.toNat * 2 ^ 16)

/-- Words 8 to 15 of a message: the counters and the enhancement set in force of a STATUS report, 0 in
every other message (R166, R173, R178). -/
def State.reportWords (s : State) (report : Bool) : List Word :=
  if report then
    [ pairWord s.slots.started s.slots.completed, pairWord s.slots.abandoned s.slots.dropped,
      pairWord s.slots.broken s.timer.overruns, pairWord s.bridge.guard s.comp.errors,
      toWord (s.enh.force.t + s.enh.force.g * 2 ^ 8 + s.enh.force.b * 2 ^ 16 + s.enh.force.wp * 2 ^ 24),
      toWord (s.enh.force.k + s.enh.force.a * 2 ^ 16 + bit s.enh.force.auto * 2 ^ 24), 0, 0 ]
  else [0, 0, 0, 0, 0, 0, 0, 0]

/-- A message packet of 16 words from the state as it stands (R166, R178). -/
def State.messageWords (s : State) (o : Result) (code : Nat) (ie release report : Bool) : List Word :=
  [ toWord (o.cls.code + o.reason.code * 2 ^ 8 + code * 2 ^ 16 + bit ie * 2 ^ 24 + bit release * 2 ^ 25),
    o.arg, toWord o.residual, positionWord s.store.position, toWord s.store.eod,
    toWord (s.store.serial.toNat + s.cu.notices.bits), toWord s.cu.notices.args, 0 ]
    ++ s.reportWords report

/-- The write of words 8 to 15, which goes first (R165). -/
def MessageWrite.upper (w : MessageWrite) : Burst := ownWrite (w.addr + 32) (w.words.drop 8)

/-- The write of words 0 to 7, which goes second (R165). -/
def MessageWrite.lower (w : MessageWrite) : Burst := ownWrite w.addr (w.words.take 8)

/-- The Command Unit presents a transaction of the command in progress; while a NOTICE write is in flight
it waits behind that (R170). -/
def State.presentCommand (s : State) (p : Purpose) (b : Burst) : State :=
  if s.cu.notice.isSome then s.setCu { s.cu with held := some { purpose := p, burst := b } }
  else s.present p b

/-- The stage of the command in progress is set. -/
def State.setCmdStage (s : State) (st : CmdStage) : State :=
  match s.cu.cmd with
  | some c => s.setCu { s.cu with cmd := some { c with stage := st } }
  | none => s

/-- The completion event (R164, R165 step 1): the message is assembled from the outcome and the state as
it stands, and its upper half is presented. `report` adds the counters of a STATUS. With no command in
progress nothing is written (R117, R161). -/
def State.completeWith (s : State) (o : Result) (report : Bool) : State :=
  match s.cu.cmd with
  | none => s
  | some c =>
    let words :=
      match c.packet with
      | some p => s.messageWords o p.code p.ie p.release report
      | none => s.messageWords o 0 false false report
    let w : MessageWrite := { addr := s.cu.msgAddr, words := words, second := false }
    (s.setCmdStage (.message w o.cls o.reason)).presentCommand .message w.upper

/-- The completion event of a command that reports no counters. -/
def State.complete (s : State) (o : Result) : State := s.completeWith o false

/-! ## Notices (R169, R170) -/

/-- A posting to the pending notice set (R169). -/
inductive Notice where
  | signalLost
  | signalBack
  | viewReset
  | lessonEnd
  | triggerNote (code : Half)
  | captureFailed (r : Reason)
  | lowSpace
  | positionLost
deriving DecidableEq, Repr

/-- The set after a posting: a kind once, a new argument in place of the old, SIGNAL_LOST and SIGNAL_BACK
removing each other (R169). -/
def Notices.add (n : Notices) : Notice → Notices
  | .signalLost => { n with signalLost := true, signalBack := false }
  | .signalBack => { n with signalBack := true, signalLost := false }
  | .viewReset => { n with viewReset := true }
  | .lessonEnd => { n with lessonEnd := true }
  | .triggerNote c => { n with triggerNote := some c }
  | .captureFailed r => { n with captureFailed := some r }
  | .lowSpace => { n with lowSpace := true }
  | .positionLost => { n with positionLost := true }

/-- The NOTICE of R170, when ownership is PART and the pending set is non-empty: the set is taken into the
message, emptied, ownership passes to HOST, and the upper half is presented. -/
def State.deliver (s : State) : State :=
  if s.cu.owner = .part ∧ ¬ s.cu.notices.isEmpty then
    let w : MessageWrite :=
      { addr := s.cu.msgAddr,
        words := s.messageWords { cls := .notice, reason := .none, arg := 0, residual := 0 } 0 false false
          false,
        second := false }
    (s.setCu { s.cu with notices := Notices.empty, owner := .host, notice := some w }).present .notice
      w.upper
  else s

/-- A posting is treated when it arrives (R169). -/
def State.post (s : State) (n : Notice) : State :=
  (s.setCu { s.cu with notices := s.cu.notices.add n }).deliver

/-! ## The command in progress (R163, R164) -/

/-- The packet of a command that has been handed to its owning block and not yet taken, when its code is
the one given. -/
def State.dispatched (s : State) (code : Nat) : Option Packet :=
  match s.cu.cmd with
  | some c =>
    match c.stage, c.packet with
    | .dispatched, some p => if p.code = code then some p else none
    | _, _ => none
  | none => none

/-- The owning block takes a dispatched command of a code; otherwise the command's event cannot take place
(log entry 3). -/
def State.onCommand (s : State) (code : Nat) (next : Packet → State) : Out :=
  if s.awake then
    match s.dispatched code with
    | some p => .next (next p)
    | none => .next s
  else .next s

/-! ## The Store Controller (R105, R106) -/

/-- The size of the store (R99). -/
def State.storeSize (s : State) : Nat := s.store.limit - s.store.base

/-- A view context names a page at an offset of `p` or more (R106). -/
def ViewContext.pageFrom (c : ViewContext) (p : Nat) : Bool :=
  match c.source with
  | .page part => decide (p ≤ part.offset)
  | _ => false

/-- The composer latch names a page at an offset of `p` or more (R106). -/
def ViewLatch.pageFrom (l : ViewLatch) (p : Nat) : Bool :=
  match l.source with
  | .page o _ => decide (p ≤ o)
  | _ => false

/-- A page is in use at or after `p` (R106). -/
def State.pageInUse (s : State) (p : Nat) : Bool :=
  s.view.current.pageFrom p || s.comp.latch.pageFrom p

/-- The eight-word header read at a store offset (R109, R124). -/
def State.headerRead (s : State) (p : Nat) : Burst := ownRead (s.store.base + p) 8

end Sys2Proof.Machine
end

