-- ==== Sys2Proof/Machine/Enhance.lean ====
section
/-! DEFINITION. The Enhancement Unit: sharpening (R42, R49 to R52), the tone stage (R56, R57), the
histogram (R58) and the white tracker (R60 to R62). -/

namespace Sys2Proof.Machine

/-! ## Sharpening -/

/-- The raw 3 by 3 neighbourhood of a pixel: p(dx, dy) by compass names, `c` the pixel itself (R42). -/
structure Neigh where
  nw : Nat
  n : Nat
  ne : Nat
  w : Nat
  c : Nat
  e : Nat
  sw : Nat
  s : Nat
  se : Nat
deriving DecidableEq, Repr

/-- The raw luma at a column of a line. -/
def pixelAt (line : List Byte) (x : Nat) : Nat := (line.getD x 0).toNat

/-- The neighbourhood of the pixel at column `x`, with the left and right edges replicated (R42). -/
def neighAt (above mid below : List Byte) (wc x : Nat) : Neigh :=
  let l := x - 1
  let r := if x + 1 < wc then x + 1 else x
  { nw := pixelAt above l, n := pixelAt above x, ne := pixelAt above r,
    w := pixelAt mid l, c := pixelAt mid x, e := pixelAt mid r,
    sw := pixelAt below l, s := pixelAt below x, se := pixelAt below r }

/-- The blur b (R49). -/
def Neigh.blur (p : Neigh) : Nat :=
  (p.nw + p.ne + p.sw + p.se + 2 * (p.n + p.w + p.e + p.s) + 4 * p.c + 8) / 16

/-- The detail d (R50). -/
def Neigh.detail (p : Neigh) : Int := (p.c : Int) - (p.blur : Int)

/-- The cored detail c (R50). -/
def core (t : Nat) (d : Int) : Int :=
  if d > (t : Int) then d - t else if d < -(t : Int) then d + t else 0

/-- The boosted detail q (R51). -/
def boost (g : Nat) (c : Int) : Int :=
  let size := (g * c.natAbs + 8) / 16
  if c < 0 then -(size : Int) else (size : Int)

/-- A number clamped to [0, 255]. -/
def clampByte (x : Int) : Nat := if x < 0 then 0 else if 255 < x then 255 else x.toNat

/-- The sharpened value s (R49 to R52). -/
def sharpen (t g : Nat) (p : Neigh) : Nat := clampByte ((p.c : Int) + boost g (core t p.detail))

/-! ## Tone -/

/-- The tone slope K (R56). -/
def toneSlope (b wp : Nat) : Nat := (65280 + (wp - b) / 2) / (wp - b)

/-- The toned byte t (R57). -/
def tone (m : Params) (s : Nat) : Nat :=
  if s ≤ m.b then 0 else if m.wp ≤ s then 255 else ((s - m.b) * m.k + 128) / 256

/-- The sharpened values of a line (R41 step 1). -/
def sharpLine (m : Params) (wc : Nat) (above mid below : List Byte) : List Nat :=
  (List.range wc).map fun x => sharpen m.t m.g (neighAt above mid below wc x)

/-- The enhanced bytes of sharpened values (R57). -/
def toneLine (m : Params) (sharp : List Nat) : List Byte :=
  sharp.map fun s => BitVec.ofNat 8 (tone m s)

/-! ## Histogram and tracker -/

/-- One sharpened value counted in its bin, s div 4 (R58). -/
def countPixel (h : Vector Nat 64) (s : Nat) : Vector Nat 64 :=
  if bin : s / 4 < 64 then h.set (s / 4) (h[s / 4] + 1) else h

/-- The sharpened values of a line counted (R58). -/
def countLine (h : Vector Nat 64) (sharp : List Nat) : Vector Nat 64 := sharp.foldl countPixel h

/-- The tail count of bin i: the sum of bins i to 63; 0 for i = 64 (R61). -/
def tailCount (h : Vector Nat 64) (i : Nat) : Nat := (h.toList.drop i).sum

/-- The white bin: the smallest index from 0 to 64 whose tail count is at most the threshold (R61). -/
def whiteBin (h : Vector Nat 64) (threshold : Nat) : Nat :=
  ((List.range 65).find? fun i => decide (tailCount h i ≤ threshold)).getD 64

/-- The step toward the target: a quarter of the difference rounded toward zero, and at least one level
while any distance remains (R62 step 3). -/
def trackStep (diff : Int) : Int :=
  let q := diff.tdiv 4
  if q ≠ 0 then q else if diff > 0 then 1 else if diff < 0 then -1 else 0

/-- The new white point from the white bin and the latched B and Wp (R62). -/
def trackedWp (b wp j : Nat) : Nat :=
  let target := min (4 * j) 255
  let moved := (wp : Int) + trackStep ((target : Int) - (wp : Int))
  if moved < (b + 32 : Nat) then b + 32 else if 255 < moved then 255 else moved.toNat

/-- The white tracker on the frame's histogram, latch and geometry: the new Wp and K are put in force
(R60 to R62). -/
def Enhancer.track (e : Enhancer) (wc hc : Nat) : Enhancer :=
  let j := whiteBin e.hist (wc * hc * e.latch.a / 256)
  let wp := trackedWp e.latch.b e.latch.wp j
  { e with force := { e.force with wp := wp, k := toneSlope e.latch.b wp } }

/-- Enhancement values put in force with K computed (R53, R54). -/
def putInForce (t g b wp : Nat) (auto : Bool) (a : Nat) : Params :=
  { t := t, g := g, b := b, wp := wp, k := toneSlope b wp, auto := auto, a := a }

/-- The frame latch: the whole set in force is latched and the histogram cleared (R55). -/
def Enhancer.latchFrame (e : Enhancer) : Enhancer :=
  { e with latch := e.force, hist := Vector.replicate 64 0 }

end Sys2Proof.Machine
end

