-- ==== Sys2Proof/Machine/Pieces.lean ====
section
/-! DEFINITION. The pieces of the transaction in treatment: cutting by area (R5), the treatment of a piece
(R7 to R12), the pieces that end at once (R6, R11, R13), and the answer of the transaction (R6). -/

namespace Sys2Proof.Machine

/-- The treatments of R6 to R12. -/
inductive Treatment where
  /-- Beyond the top of memory (R6). -/
  | beyond
  /-- Discarded by the guard (R9, R11). -/
  | discard
  /-- Passes to the memory port unchanged (R7, R11, R12). -/
  | pass
  /-- A write in the control page (R8). -/
  | controlWrite
  /-- A read of the control page that contains the status word (R8). -/
  | statusRead
  /-- A luma write of the CAPTURE master in the aperture (R9). -/
  | captureLuma
  /-- A chroma write of the CAPTURE master in the aperture (R9). -/
  | captureChroma
  /-- A read in the aperture (R10). -/
  | apertureRead
  /-- A read of the DISPLAY master in the view window (R12). -/
  | displayRead
deriving DecidableEq, Repr

/-- The address of word `i` of a burst. -/
def wordAddr (b : Burst) (i : Nat) : Nat := b.addr + 4 * i

/-- Whether a transaction is a write. -/
def isWrite (b : Burst) : Bool :=
  match b.body with
  | .read _ => false
  | .write _ => true

/-- The written words of a piece; none of a read. -/
def pieceBeats (b : Burst) (p : Piece) : List Beat :=
  match b.body with
  | .read _ => []
  | .write beats => (beats.drop p.first).take p.len

/-- The memory transaction that carries a piece to an address: the piece's kind, length, data,
byte-enables and tag (R7, R14). -/
def pieceBurst (b : Burst) (p : Piece) (addr : Nat) : Burst :=
  { tag := b.tag, addr := addr,
    body := if isWrite b then .write (pieceBeats b p) else .read p.len }

/-- The `n` words of a burst from word `first`, cut wherever two neighbours lie in different areas
(R5). -/
def State.cut (s : State) (b : Burst) (first : Nat) : Nat → List Piece
  | 0 => []
  | n + 1 =>
    match s.cut b (first + 1) n with
    | [] => [{ first := first, len := 1 }]
    | p :: ps =>
      if s.areaOf (wordAddr b first) = s.areaOf (wordAddr b (first + 1))
      then { first := first, len := p.len + 1 } :: ps
      else { first := first, len := 1 } :: p :: ps

/-- The pieces cut again by the region map in force when they are treated (R1, R2, R5; log entry 7). The cuts of
the acceptance are kept: two untreated neighbours whose boundary has left the map by then are not joined. The
spec does not say whether they are still cut there: DESIGN CHOICE (log entry 7). -/
def State.recut (s : State) (b : Burst) (ps : List Piece) : List Piece :=
  ps.flatMap fun p => s.cut b p.first p.len

/-- The word index in the control page of an address (R8). -/
def State.pageIndex (s : State) (addr : Nat) : Nat := (addr - s.ctrlBase) / 4

/-- The treatment of a piece by the area of its first word, its kind and the class of its transaction
(R6 to R12). In BYPASS the region map makes every address outside the control page "elsewhere" (R7). -/
def State.treatment (s : State) (t : Txn) (p : Piece) : Treatment :=
  let addr := wordAddr t.burst p.first
  let write := isWrite t.burst
  match s.areaOf addr with
  | .beyond => .beyond
  | .control =>
    if write then .controlWrite
    else if s.pageIndex addr ≤ 2 ∧ 2 < s.pageIndex addr + p.len then .statusRead
    else .pass
  | .apertureLuma =>
    if write then (if t.cls = .capture then .captureLuma else .discard) else .apertureRead
  | .apertureChroma =>
    if write then (if t.cls = .capture then .captureChroma else .discard) else .apertureRead
  | .slot _ => if write then .discard else .pass
  | .viewLuma => if !write && t.cls == .display then .displayRead else .pass
  | .viewChroma => if !write && t.cls == .display then .displayRead else .pass
  | .store => if write && s.store.protect then .discard else .pass
  | .message => .pass
  | .elsewhere => .pass

/-- The transaction in treatment is replaced. -/
def State.setTxn (s : State) (t : Option Txn) : State := s.setBridge { s.bridge with txn := t }

/-- A discarded write is counted once a piece (R13). -/
def State.countDiscard (s : State) : State :=
  s.setBridge { s.bridge with guard := s.bridge.guard + 1 }

/-- The transaction is answered once, with the joined words and status, and the controller port is
released (R4, R6). -/
def State.answerTxn (s : State) (t : Txn) : State :=
  s.setBridge
    { s.bridge with
      txn := none,
      answer := some { tag := t.burst.tag, error := t.error, words := t.words } }

/-- The words with which a piece that ends at once is answered (R6: 0 for each word above the top). -/
def endWords (b : Burst) (p : Piece) : List Word := if isWrite b then [] else List.replicate p.len 0

/-- The pieces at the front that end at once are ended: beyond the top ERROR, discarded OK and counted.
The first other piece waits for its treatment; with none left the transaction is answered (R5, R6, R11,
R13). -/
def State.settlePieces (s : State) (t : Txn) : List Piece → State
  | [] => s.answerTxn t
  | p :: ps =>
    match s.treatment t p with
    | .beyond => s.settlePieces { t with words := t.words ++ endWords t.burst p, error := true } ps
    | .discard => s.countDiscard.settlePieces t ps
    | _ => s.setTxn (some { t with pieces := p :: ps, stage := .untreated })

/-- The treatment of the pieces left begins with the front one (R5). -/
def State.settle (s : State) (t : Txn) : State := s.settlePieces t (s.recut t.burst t.pieces)

/-- The front piece ends with these words and this status, and the next piece is treated
(R5, R6). -/
def State.finishPiece (s : State) (words : List Word) (error : Bool) : State :=
  match s.bridge.txn with
  | some t =>
    s.settle { t with pieces := t.pieces.tail, words := t.words ++ words, error := t.error || error }
  | none => s

/-- The front piece is discarded, counted and answered OK (R9, R13, R28). -/
def State.discardPiece (s : State) : State := s.countDiscard.finishPiece [] false

/-- The front piece, when its treatment has not begun, cut by the region map in force, with its transaction
and its treatment (R1, R5). -/
def State.front (s : State) : Option (Txn × Piece × Treatment) :=
  match s.bridge.txn with
  | some t =>
    match t.stage, s.recut t.burst t.pieces with
    | .untreated, p :: ps =>
      let t' := { t with pieces := p :: ps }
      some (t', p, s.treatment t' p)
    | _, _ => none
  | none => none

/-- A command that treats the front piece takes place when the piece has its treatment (log entry 3). -/
def State.onFront (s : State) (sel : Treatment → Bool) (next : Txn → Piece → State) : Out :=
  if s.awake then
    match s.front with
    | some (t, p, tr) => if sel tr then .next (next t p) else .next s
    | none => .next s
  else .next s

/-- The front piece becomes one pass-through transaction at an address (R7, R9, R10). -/
def State.passPiece (s : State) (t : Txn) (p : Piece) (addr : Nat) (chromaFinal : Bool) : State :=
  (s.setTxn (some { t with stage := .passing chromaFinal })).present .passThrough
    (pieceBurst t.burst p addr)

end Sys2Proof.Machine
end

