-- ==== Sys2Proof/Config.lean ====
section
/-! DEFINITION. What the spec leaves open: values with no body, so that nothing can be proved of them. -/

namespace Sys2Proof

/-- The argument of a MOVE's completion message when the command passed more than 65,535 records. R121
gives the argument as "the number of records the command passed ... from 0 to 65535" and states no value
for a larger number. DESIGN CHOICE (log entry 11): a free value of the number passed. -/
opaque Config.movePassedOver : Nat → Word

end Sys2Proof
end

