-- ==== Sys2Proof/Machine/View.lean ====
section
/-! DEFINITION. The View Controller: the view commands, the view stack, and the changes triggers make to
the current context (ch. 6). -/

namespace Sys2Proof.Machine

/-- The current view context is replaced. -/
def State.setCurrent (s : State) (c : ViewContext) : State := s.setView { s.view with current := c }

/-- The traversal engine becomes idle (R105). -/
def State.idleTrav (s : State) : State := s.setStore { s.store with trav := none }

/-- The traversal engine becomes in use for an operation (R105). -/
def State.useTrav (s : State) (op : TravOp) : State := s.setStore { s.store with trav := some op }

/-! ## Triggers' changes -/

/-- The zoom moved toward its target by at most `step` (R94). -/
def moveZoom (z zt step : Nat) : Nat :=
  if z < zt then z + min step (zt - z) else z - min step (z - zt)

/-- ZOOM_STEP (R94). -/
def State.zoomStep (s : State) (step : Nat) : State :=
  s.setCurrent { s.view.current with z := moveZoom s.view.current.z s.view.current.zt step }

/-- The source change of ADVANCE: the page becomes the source, zoom and pan are kept, and a FROZEN context
it replaces releases its hold (R96). -/
def State.advanceSource (s : State) (part : PagePart) : State :=
  (s.releaseOpt s.view.current.held).setCurrent { s.view.current with source := .page part }

/-- What a new capture geometry does to the view (R31, R97): a FROZEN current context becomes LIVE with its
zoom and pan, every STANDING hold on the stack becomes DROPPED. The slots have been emptied, so nothing
is released. -/
def ViewController.dropHolds (v : ViewController) : ViewController :=
  { current := if v.current.held.isSome then { v.current with source := .live } else v.current,
    stack := v.stack.map fun e => { e with standing := false } }

/-! ## VIEW and VIEW_PUSH -/

/-- The depth of the view stack, the argument of every view command's message (R85). -/
def State.depth (s : State) : Word := toWord s.view.stack.length

/-- The completion of a view command (R85). -/
def State.completeView (s : State) (cls : TermClass) (reason : Reason) : State :=
  s.complete { cls := cls, reason := reason, arg := s.depth, residual := 0 }

/-- The values of a view request that R85 check 1 allows. -/
def ViewRequest.valuesGood (q : ViewRequest) : Bool :=
  q.kind.isSome && decide (64 ≤ q.zoom) && decide (q.zoom ≤ 1024) && decide (q.cx ≤ 4095)
    && decide (q.cy ≤ 4095)

/-- The checks of VIEW, and of VIEW_PUSH with its own between checks 1 and 2 (R85, R89): the reason of
the first that fails. -/
def State.checkView (s : State) (q : ViewRequest) (push : Bool) : Option Reason :=
  if !q.valuesGood then some .badValue
  else if push && decide (4 ≤ s.view.stack.length) then some .stackFull
  else if q.kind = some .page ∧ !s.enginesIdle then some .storeBusy
  else if q.kind = some .page ∧ !s.store.formatted then some .notFormatted
  else if q.kind = some .page ∧ s.store.position = none then some .positionLost
  else if q.kind = some .frozen ∧ s.newest = none then some .noFrame
  else none

/-- The new current context from a request and its source, in place of an old one (R86). -/
def ViewRequest.context (q : ViewRequest) (old : ViewContext) (src : Source) : ViewContext :=
  { source := src, z := if q.ramp then old.z else q.zoom, zt := q.zoom, cx := q.cx, cy := q.cy }

/-- A number clamped to [lo, hi]. -/
def clampNat (lo hi x : Nat) : Nat := max lo (min hi x)

/-- The new current context of a PAGE request, from the note in the page's header when the request asks
for it and the header carries one (R88). -/
def ViewRequest.pageContext (q : ViewRequest) (old : ViewContext) (offset : Nat) (h : Header) :
    ViewContext :=
  let src := Source.page
    { offset := offset, serial := h.serial, format := h.format, w := h.w, h := h.h }
  if q.useNote && h.note then
    { source := src, z := clampNat 64 1024 h.z, zt := clampNat 64 1024 h.z,
      cx := clampNat 0 4095 h.cx, cy := clampNat 0 4095 h.cy }
  else q.context old src

/-- The replaced context is given up: pushed with its hold by transfer, or its hold released
(R20, R86, R89). -/
def State.giveUpCurrent (s : State) (push : Bool) : State :=
  if push then
    s.setView
      { s.view with
        stack := { ctx := s.view.current, standing := s.view.current.held.isSome } :: s.view.stack }
  else s.releaseOpt s.view.current.held

/-- The change of a request of kind LIVE, FROZEN or BLANK (R86, R89). With FROZEN the release and the take
are one exchange. -/
def State.changeView (s : State) (q : ViewRequest) (push : Bool) : State :=
  let s' := s.giveUpCurrent push
  match q.kind with
  | some .frozen =>
    match s'.newest with
    | some i =>
      (s'.takeHold i).setCurrent (q.context s.view.current (.frozen i (s'.slotRec i).gen))
    | none => s'.setCurrent (q.context s.view.current .live)
  | some .blank => s'.setCurrent (q.context s.view.current .blank)
  | _ => s'.setCurrent (q.context s.view.current .live)

/-- A view request is carried out (R85 to R87, R89): refused, changed at once, or its header read made. -/
def State.runView (s : State) (q : ViewRequest) (push : Bool) : State :=
  match s.checkView q push with
  | some r => s.completeView .refused r
  | none =>
    match q.kind, s.store.position with
    | some .page, some p =>
      ((s.useTrav (.viewHeader q push)).setCmdStage .engine).present .viewHeader (s.headerRead p)
    | _, _ => (s.changeView q push).completeView .done .none

/-- The outcome of a VIEW or VIEW_PUSH PAGE header read (R87, R88). -/
def State.viewHeaderRead (s : State) (a : Answer) : State :=
  match s.store.trav, s.store.position with
  | some (.viewHeader q push), some p =>
    let s' := s.idleTrav
    if a.error then s'.completeView .retry .memoryError
    else
      match judgeChain s.store.eod p a.words with
      | none => (s'.setStore { s'.store with position := none }).completeView .lost .headerBad
      | some h =>
        if h.kind = .page then
          ((s'.giveUpCurrent push).setCurrent
            (q.pageContext s.view.current p h)).completeView .done .none
        else s'.completeView .refused .notAPage
  | _, _ => s

/-! ## VIEW_POP -/

/-- A valid entry is removed and becomes the current context; the context it replaces releases its hold
(R92). -/
def State.restoreEntry (s : State) (e : StackEntry) (rest : List StackEntry) : State :=
  ((s.releaseOpt s.view.current.held).setView { current := e.ctx, stack := rest }).completeView .done
    .none

/-- An entry that fails is removed; its hold and that of a FROZEN current context are released, and the
view becomes the LIVE default (R93). -/
def State.discardEntry (s : State) (e : StackEntry) (rest : List StackEntry) : State :=
  (((s.releaseOpt e.held).releaseOpt s.view.current.held).setView
    { current := ViewContext.liveDefault, stack := rest }).completeView .alert .staleContext

/-- VIEW_POP up to the validation of its entry or the header read for it (R90, R91). -/
def State.runPop (s : State) : State :=
  match s.view.stack with
  | [] => s.completeView .refused .stackEmpty
  | e :: rest =>
    match e.ctx.source with
    | .live => s.restoreEntry e rest
    | .blank => s.restoreEntry e rest
    | .frozen i gen =>
      if e.standing && s.canTake i gen then s.restoreEntry e rest else s.discardEntry e rest
    | .page part =>
      if !s.enginesIdle then s.completeView .refused .storeBusy
      else if !s.store.formatted || decide (s.store.eod ≤ part.offset) then s.discardEntry e rest
      else ((s.useTrav .popHeader).setCmdStage .engine).present .popHeader (s.headerRead part.offset)

/-- The outcome of the header read that validates a popped PAGE entry (R91). -/
def State.popHeaderRead (s : State) (a : Answer) : State :=
  let s' := s.idleTrav
  match s.store.trav, s.view.stack with
  | some .popHeader, e :: rest =>
    match e.ctx.source with
    | .page part =>
      if a.error then s'.completeView .retry .memoryError
      else
        match judgeChain s.store.eod part.offset a.words with
        | some h =>
          if h.kind = .page ∧ h.serial = part.serial then s'.restoreEntry e rest
          else s'.discardEntry e rest
        | none => s'.discardEntry e rest
    | _ => s'
  | _, _ => s

/-! ## The meanings -/

/-- VIEW (R85, R86). -/
def execView (s : State) : Out := s.onCommand 3 fun p => s.runView p.viewRequest false

/-- VIEW_PUSH (R89). -/
def execViewPush (s : State) : Out := s.onCommand 4 fun p => s.runView p.viewRequest true

/-- VIEW_POP (R90). -/
def execViewPop (s : State) : Out := s.onCommand 5 fun _ => s.runPop

/-- VIEW_PAGE_HEADER_READ: the answer to the header read of VIEW or VIEW_PUSH PAGE (R87). -/
def execViewPageHeaderRead (a : Answer) (s : State) : Out :=
  s.onAnswer (· == .viewHeader) a fun _ s' => s'.viewHeaderRead a

/-- VIEW_POP_HEADER_READ: the answer to the header read of a popped PAGE entry (R91). -/
def execViewPopHeaderRead (a : Answer) (s : State) : Out :=
  s.onAnswer (· == .popHeader) a fun _ s' => s'.popHeaderRead a

end Sys2Proof.Machine
end

