-- ==== Sys2Proof/Machine/Store.lean ====
section
/-! DEFINITION. The Store Controller: records, the mount scan, RECORD, MARK, STORE_CLEAR, STORE_PROTECT
(ch. 7), MOVE and ADVANCE (ch. 8). -/

namespace Sys2Proof.Machine

/-- The position is replaced. -/
def State.setPosition (s : State) (p : Option Nat) : State := s.setStore { s.store with position := p }

/-- The trigger overrun counter is incremented (R149). -/
def State.overrun (s : State) : State := s.setTimer { s.timer with overruns := s.timer.overruns + 1 }

/-! ## The mount scan (R108 to R110) -/

/-- A mount scan starts: the region takes effect with its margin, the store state is reset, the traversal
engine is in use, and the header at offset 0 is read (R104, R108). -/
def State.startScan (s : State) (c : RegionChange) : State :=
  let s' := s.setStore
    { s.store with
      base := c.base, limit := c.limit, margin := c.margin, formatted := false, protect := false,
      position := some 0, eod := 0, serial := 0, lesson := 0, trav := some (.scan 0 none),
      deferred := none }
  s'.present .scanRead (s'.headerRead 0)

/-- The scan has ended: the traversal engine becomes idle, and the reload or the SETUP that started it
ends (R109, R160). A SETUP that RESTART has aborted writes nothing (R110). -/
def State.endScan (s : State) : State :=
  let s' := s.idleTrav
  if s'.cu.reload = some .scan then
    s'.setCu { s'.cu with reload := none, reloadResult := .loaded }
  else
    match s'.cu.cmd with
    | some c => if c.stage = .setupScan then s'.complete (Result.done 0) else s'
    | none => s'

/-- The outcome of a scan's header read (R109). -/
def State.scanRead (s : State) (a : Answer) : State :=
  match s.store.trav with
  | some (.scan p last) =>
    if a.error then s.endScan
    else
      match judgeScan s.storeSize p a.words with
      | none => s.endScan
      | some h =>
        if h.kind = .endRecord then
          (s.setStore
            { s.store with
              formatted := true, eod := p, position := some 0,
              serial := match last with | some n => n + 1 | none => 0 }).endScan
        else
          (s.useTrav (.scan (p + h.length) (some h.serial))).present .scanRead
            (s.headerRead (p + h.length))
  | _ => s

/-! ## Space and geometry of a page (R107, R112) -/

/-- Width or height of a page of a format made from a source dimension (R112). -/
def Format.scale (f : Format) (n : Nat) : Nat :=
  match f with
  | .full => n
  | .half => n / 2

/-- The length of the page record that a format makes of a slot's frame (R107, R112). -/
def pageLength (f : Format) (r : SlotRec) : Nat := 2 * f.scale r.wc * f.scale r.hc + 36

/-- A record of length L fits at position p (R107). -/
def State.fits (s : State) (p len : Nat) : Bool := decide (p + len + 32 ≤ s.storeSize)

/-- The space left after the end of data is below the low-space margin (R107). -/
def State.lowSpace (s : State) : Bool := decide (s.storeSize - s.store.eod - 32 < s.store.margin)

/-- The cycle count of a frame number (R135). -/
def cycleOf (frame : Word) : Nat := frame.toNat % 64

/-! ## The payload of a page (R113, R114) -/

/-- The width of the source frame of a page copy. -/
def Header.sourceW (h : Header) : Nat := match h.format with | .full => h.w | .half => 2 * h.w

/-- The height of the source frame of a page copy. -/
def Header.sourceH (h : Header) : Nat := match h.format with | .full => h.h | .half => 2 * h.h

/-- The bytes of a page's payload (R100). -/
def Header.payload (h : Header) : Nat := 2 * h.w * h.h

/-- The bytes of the payload chunk at byte `done`: up to 8 words, in a HALF page not past the end of the
page line (R113; log entry 10). -/
def Header.chunk (h : Header) (done : Nat) : Nat :=
  match h.format with
  | .full => min 32 (h.payload - done)
  | .half => min 32 (h.w - done % h.w)

/-- The slot reads, address and words, that the payload chunk at byte `done` is made from: for HALF luma
the two source lines of its blocks, for HALF chroma the even source line (R113, R114). -/
def Header.chunkReads (h : Header) (base done : Nat) : List (Nat × Nat) :=
  let n := h.chunk done
  match h.format with
  | .full => [(base + done, n / 4)]
  | .half =>
    let sw := h.sourceW
    if done < h.w * h.h then
      let row := base + 2 * (done / h.w) * sw + 2 * (done % h.w)
      chunks row (n / 2) ++ chunks (row + sw) (n / 2)
    else
      let d := done - h.w * h.h
      chunks (base + sw * h.sourceH + 2 * (d / h.w) * sw + 2 * (d % h.w)) (n / 2)

/-- The mean of each 2 by 2 block of two source lines, halves upward (R114). -/
def meanBlocks : List Byte → List Byte → List Byte
  | a :: b :: upper, c :: d :: lower =>
    BitVec.ofNat 8 ((a.toNat + b.toNat + c.toNat + d.toNat + 2) / 4) :: meanBlocks upper lower
  | _, _ => []

/-- The even chroma pairs of a source line (R114). -/
def evenPairs : List Byte → List Byte
  | cb :: cr :: _ :: _ :: rest => cb :: cr :: evenPairs rest
  | _ => []

/-- The payload words of the chunk at byte `done` from the words read for it (R113, R114). -/
def Header.chunkData (h : Header) (done : Nat) (got : List Word) : List Word :=
  match h.format with
  | .full => got
  | .half =>
    let bytes := bytesOfWords got
    let n := h.chunk done
    if done < h.w * h.h then
      wordsOfBytes (meanBlocks (bytes.take (2 * n)) (bytes.drop (2 * n)))
    else wordsOfBytes (evenPairs bytes)

/-! ## The copy engine (R112 to R117) -/

/-- The copy engine becomes in use, or goes on, with an operation (R105). -/
def State.useCopy (s : State) (c : CopyOp) : State := s.setStore { s.store with copy := some c }

/-- The copy engine goes on from the payload byte `done`: the first slot read of the next chunk, or after
the payload the trailer (R113, R115). -/
def State.copyFrom (s : State) (c : CopyOp) (done : Nat) : State :=
  let trailer :=
    (s.useCopy { c with stage := .trailer }).present .copy
      (ownWrite (s.store.base + c.offset + c.header.length - 4) [toWord c.header.length])
  match c.job with
  | .page i =>
    if done < c.header.payload then
      match c.header.chunkReads (s.slotBase i) done with
      | (addr, n) :: left =>
        (s.useCopy { c with stage := .read done [] left }).present .copy (ownRead addr n)
      | [] => trailer
    else trailer
  | _ => trailer

/-- The copy engine ends its operation: the pin is released and the engine becomes idle (R115, R116). -/
def State.endCopy (s : State) (c : CopyOp) : State :=
  let s' := s.releaseOpt c.pin
  s'.setStore { s'.store with copy := none }

/-- The report of a copy that an ERROR ended: RETRY MEMORY_ERROR for a command, a CAPTURE_FAILED notice for
a trigger action (R116, R147). -/
def State.copyFailed (s : State) (c : CopyOp) : State :=
  if c.trigger then s.post (.captureFailed .memoryError) else s.complete Result.retry

/-- The answer to a slot read, payload write, trailer or END write (R113, R115, R116). -/
def State.copyAnswer (s : State) (a : Answer) : State :=
  match s.store.copy with
  | none => s
  | some c =>
    if a.error then (s.endCopy c).copyFailed c
    else
      match c.stage with
      | .read done got left =>
        match left with
        | (addr, n) :: rest =>
          (s.useCopy { c with stage := .read done (got ++ a.words) rest }).present .copy (ownRead addr n)
        | [] =>
          (s.useCopy { c with stage := .write done }).present .copy
            (ownWrite (s.store.base + c.offset + 32 + done) (c.header.chunkData done (got ++ a.words)))
      | .write done => s.copyFrom c (done + c.header.chunk done)
      | .trailer =>
        (s.useCopy { c with stage := .endHeader }).present .copy
          (ownWrite (s.store.base + c.offset + c.header.length)
            (Header.ofEnd (s.store.serial + 1)).toWords)
      | .endHeader =>
        (s.useCopy { c with stage := .commit }).present .commit
          (ownWrite (s.store.base + c.offset) c.header.toWords)
      | _ => s

/-- What a commit does to the store: EOD and the position move past the record, the serial steps, a MARK
sets the lesson counter (R104, R115, R118). -/
def Store.committed (t : Store) (c : CopyOp) : Store :=
  { t with
    eod := c.offset + c.header.length, position := some (c.offset + c.header.length),
    serial := t.serial + 1,
    lesson := if c.header.kind = .mark then c.header.lesson else t.lesson }

/-- The answer to the header write, the commit (R107, R115, R116, R118, R147). -/
def State.commitAnswer (s : State) (a : Answer) : State :=
  match s.store.copy with
  | none => s
  | some c =>
    let s' := s.endCopy c
    if a.error then
      let s'' := (s'.setPosition none).copyFailed c
      if c.trigger then s''.post .positionLost else s''
    else
      let s'' := s'.setStore (s'.store.committed c)
      if c.trigger then (if s''.lowSpace then s''.post .lowSpace else s'')
      else
        s''.complete
          { cls := if s''.lowSpace then .alert else .done,
            reason := if s''.lowSpace then .lowSpace else .none,
            arg := toWord c.header.serial.toNat, residual := 0 }

/-! ## RECORD (R111, R112) -/

/-- The slot that a RECORD takes its frame from, when the take succeeds: the newest for LATEST and for a
LIVE view, the context's for a FROZEN view (R111). -/
def State.recordSlot (s : State) (fromView : Bool) : Option (Fin 3) :=
  if fromView then
    match s.view.current.source with
    | .live => s.newest
    | .frozen i gen => if s.canTake i gen then some i else none
    | .page _ => none
    | .blank => none
  else s.newest

/-- The outcome of the checks of RECORD: refused with a reason, or accepted with position, format and
slot. -/
inductive RecordCheck where
  | refused (r : Reason)
  | accepted (p : Nat) (f : Format) (slot : Fin 3)
deriving DecidableEq, Repr

/-- The source of a source code of RECORD: whether it is VIEW (R177). -/
def sourceOfCode : Nat → Option Bool
  | 0 => some false
  | 1 => some true
  | _ => none

/-- The checks of RECORD in the order of R111. -/
def State.checkRecord (s : State) (format : Nat) (source : Nat) : RecordCheck :=
  match Format.ofCode format, sourceOfCode source with
  | some f, some fromView =>
    if !s.enginesIdle then .refused .storeBusy
    else if !s.store.formatted then .refused .notFormatted
    else if s.store.protect then .refused .storeProtected
    else
      match s.store.position with
      | none => .refused .positionLost
      | some p =>
        if s.slots.staged.isSome then .refused .setupPending
        else
          match s.recordSlot fromView with
          | none => .refused .noFrame
          | some i =>
            if s.pageInUse p then .refused .pageInUse
            else if s.fits p (pageLength f (s.slotRec i)) then .accepted p f i
            else .refused .noSpace
  | _, _ => .refused .badValue

/-- The header of a page as it is fixed at acceptance (R112). -/
def State.pageHeader (s : State) (f : Format) (i : Fin 3) (fromView : Bool) : Header :=
  let r := s.slotRec i
  { kind := .page, format := f, broken := r.broken, note := fromView, cycle := cycleOf r.frame,
    serial := s.store.serial, length := pageLength f r, lesson := s.store.lesson,
    w := f.scale r.wc, h := f.scale r.hc,
    z := if fromView then s.view.current.z else 0,
    frame := r.frame, time := s.timer.localTime,
    cx := if fromView then s.view.current.cx else 0,
    cy := if fromView then s.view.current.cy else 0 }

/-- A page copy is accepted: the slot is pinned, the header fixed, and the first read presented
(R112, R113). -/
def State.acceptRecord (s : State) (p : Nat) (f : Format) (i : Fin 3) (fromView trigger : Bool) :
    State :=
  (s.takeHold i).copyFrom
    { job := .page i, trigger := trigger, offset := p, header := s.pageHeader f i fromView,
      stage := .trailer } 0

/-- RECORD carried out (R111, R112). -/
def State.runRecord (s : State) (pkt : Packet) : State :=
  match s.checkRecord (field pkt.p1 0 8) (field pkt.p1 8 8) with
  | .refused r => s.complete (Result.refuse r)
  | .accepted p f i =>
    (s.setCmdStage .engine).acceptRecord p f i (field pkt.p1 8 8 == 1) false

/-! ## MARK (R118) -/

/-- The outcome of the checks of MARK. -/
inductive MarkCheck where
  | refused (r : Reason)
  | accepted (p : Nat)
deriving DecidableEq, Repr

/-- The checks of MARK in the order of R118. -/
def State.checkMark (s : State) (lesson : Nat) : MarkCheck :=
  if 255 < lesson then .refused .badValue
  else if !s.enginesIdle then .refused .storeBusy
  else if !s.store.formatted then .refused .notFormatted
  else if s.store.protect then .refused .storeProtected
  else
    match s.store.position with
    | none => .refused .positionLost
    | some p =>
      if s.slots.staged.isSome then .refused .setupPending
      else if s.pageInUse p then .refused .pageInUse
      else if s.fits p 36 then .accepted p
      else .refused .noSpace

/-- The header of a MARK as it is fixed at acceptance (R118). -/
def State.markHeader (s : State) (lesson : Nat) : Header :=
  { kind := .mark, format := .full, broken := false, note := false,
    cycle := cycleOf s.timer.frameNumber, serial := s.store.serial, length := 36, lesson := lesson,
    w := 0, h := 0, z := 0, frame := s.timer.frameNumber, time := s.timer.localTime, cx := 0, cy := 0 }

/-- A MARK is accepted: no pin, the header fixed, and the trailer presented (R118). -/
def State.acceptMark (s : State) (p lesson : Nat) (trigger : Bool) : State :=
  s.copyFrom
    { job := .mark, trigger := trigger, offset := p, header := s.markHeader lesson, stage := .trailer } 0

/-- MARK carried out (R118). -/
def State.runMark (s : State) (pkt : Packet) : State :=
  match s.checkMark (field pkt.p1 0 16) with
  | .refused r => s.complete (Result.refuse r)
  | .accepted p => (s.setCmdStage .engine).acceptMark p (field pkt.p1 0 16) false

/-! ## The CAPTURE and MARK actions (R146, R147) -/

/-- The CAPTURE action: an overrun when an engine is in use, else a RECORD LATEST with the argument as its
format code (R146, R147). -/
def State.triggerCapture (s : State) (arg : Half) : State :=
  if !s.enginesIdle then s.overrun
  else
    match s.checkRecord arg.toNat 0 with
    | .refused r => s.post (.captureFailed r)
    | .accepted p f i => s.acceptRecord p f i false true

/-- The MARK action: an overrun when an engine is in use, else a MARK with the argument as its lesson
number (R146, R147). -/
def State.triggerMark (s : State) (arg : Half) : State :=
  if !s.enginesIdle then s.overrun
  else
    match s.checkMark arg.toNat with
    | .refused r => s.post (.captureFailed r)
    | .accepted p => s.acceptMark p arg.toNat true

/-! ## STORE_CLEAR and STORE_PROTECT (R119, R120) -/

/-- STORE_CLEAR carried out: refused, or its END header at offset 0 presented (R119). -/
def State.runClear (s : State) : State :=
  if !s.enginesIdle then s.complete (Result.refuse .storeBusy)
  else if s.view.current.pageFrom 0 then s.complete (Result.refuse .pageInUse)
  else
    ((s.useCopy
      { job := .clear, trigger := false, offset := 0, header := Header.ofEnd 0,
        stage := .clear }).setCmdStage .engine).present .clearWrite
      (ownWrite s.store.base (Header.ofEnd 0).toWords)

/-- The store after a clear that could not be made good: UNFORMATTED at 0 (R119). -/
def Store.clearFailed (t : Store) : Store :=
  { t with formatted := false, position := some 0, eod := 0 }

/-- The store after a clear: FORMATTED and empty, its serial and lesson counter 0, unprotected (R119). -/
def Store.cleared (t : Store) : Store :=
  { t with
    formatted := true, protect := false, position := some 0, eod := 0, serial := 0, lesson := 0 }

/-- The answer to the clear write (R119). It is the answer to no other operation of the copy engine. -/
def State.clearAnswer (s : State) (a : Answer) : State :=
  match s.store.copy with
  | none => s
  | some c =>
    if c.job = .clear then
      let s' := s.endCopy c
      if a.error then (s'.setStore s'.store.clearFailed).complete Result.retry
      else (s'.setStore s'.store.cleared).complete (Result.done 0)
    else s

/-! ## MOVE (R121 to R131) -/

/-- The argument of a MOVE that passed `n` records (R121). Beyond 65,535 the rule states no value: a free
value (log entry 11). -/
def moveArg (n : Nat) : Word := if n ≤ 65535 then toWord n else Config.movePassedOver n

/-- A traversal stops: the engine becomes idle and the command completes with the records passed and the
units left (R121, R123). -/
def State.moveStop (s : State) (cls : TermClass) (reason : Reason) (left passed : Nat) : State :=
  s.idleTrav.complete { cls := cls, reason := reason, arg := moveArg passed, residual := left }

/-- A traversal meets a bad header or trailer: the position becomes LOST (R124, R127, R129). -/
def State.moveLost (s : State) (left passed : Nat) : State :=
  (s.setPosition none).moveStop .lost .headerBad left passed

/-- Whether a mode travels forward. -/
def MoveMode.forward : MoveMode → Bool
  | .stepFwd => true
  | .skipFwd => true
  | _ => false

/-- Whether a mode counts marks. -/
def MoveMode.skips : MoveMode → Bool
  | .skipFwd => true
  | .skipRev => true
  | _ => false

/-- The next step of a traversal from the position (R124, R127): a stop at the end of data or the start of
the store, or the read of the header at the position, in reverse of the trailer before it. -/
def State.moveStep (s : State) (mode : MoveMode) (left passed : Nat) : State :=
  match s.store.position with
  | none => s.moveStop .refused .positionLost left passed
  | some p =>
    if mode.forward then
      if p = s.store.eod then s.moveStop .alert .endOfData left passed
      else (s.useTrav (.move mode left passed .header)).present .moveRead (s.headerRead p)
    else if p = 0 then s.moveStop .alert .startOfStore left passed
    else
      (s.useTrav (.move mode left passed .trailer)).present .moveRead
        (ownRead (s.store.base + p - 4) 1)

/-- A record is passed: the position moves to its far side, and the mode's rule decides the stop
(R123, R125, R126, R128). -/
def State.movePass (s : State) (mode : MoveMode) (left passed dest : Nat) (kind : Kind) : State :=
  let s' := s.setPosition (some dest)
  let counted := (kind == .mark) == mode.skips
  if counted then
    if left ≤ 1 then s'.moveStop .done .none 0 (passed + 1)
    else s'.moveStep mode (left - 1) (passed + 1)
  else if mode.skips then s'.moveStep mode left (passed + 1)
  else s'.moveStop .alert .markPassed left (passed + 1)

/-- The trailer check of a reverse step (R127 step 3). -/
def backLengthGood (len p : Nat) : Bool := len % 4 == 0 && decide (36 ≤ len) && decide (len ≤ p)

/-- The answer to a read of a MOVE (R124, R127, R130). -/
def State.moveRead (s : State) (a : Answer) : State :=
  match s.store.trav, s.store.position with
  | some (.move mode left passed stage), some p =>
    if a.error then s.moveStop .retry .memoryError left passed
    else
      match stage with
      | .header =>
        match judgeChain s.store.eod p a.words with
        | none => s.moveLost left passed
        | some h =>
          if h.kind = .endRecord then s.moveLost left passed
          else s.movePass mode left passed (p + h.length) h.kind
      | .trailer =>
        let len := (wordAt a.words 0).toNat
        if backLengthGood len p then
          (s.useTrav (.move mode left passed (.back len))).present .moveRead (s.headerRead (p - len))
        else s.moveLost left passed
      | .back len =>
        match judgeChain s.store.eod (p - len) a.words with
        | none => s.moveLost left passed
        | some h =>
          if h.length = len ∧ h.kind ≠ .endRecord then s.movePass mode left passed (p - len) h.kind
          else s.moveLost left passed
  | _, _ => s

/-- A STEP or SKIP carried out: its checks 3 to 6, then its first step (R121). -/
def State.runTraversal (s : State) (mode : MoveMode) (count : Nat) : State :=
  if !s.enginesIdle then s.complete (Result.refuse .storeBusy)
  else if !s.store.formatted then s.complete (Result.refuse .notFormatted)
  else if s.store.position = none then s.complete (Result.refuse .positionLost)
  else if count = 0 then s.complete (Result.done 0)
  else (s.setCmdStage .engine).moveStep mode count 0

/-- REWIND or TO_END carried out: its checks 3 and 4, then the change of R122. -/
def State.runReposition (s : State) (t : Store) : State :=
  if !s.enginesIdle then s.complete (Result.refuse .storeBusy)
  else if !s.store.formatted then s.complete (Result.refuse .notFormatted)
  else (s.setStore t).complete (Result.done 0)

/-- A MOVE of a mode is taken. A MOVE whose mode code is none of the six is completed REFUSED BAD_VALUE by
whichever of the six commands takes it (R121 check 2; log entry 9). -/
def State.onMove (s : State) (mode : MoveMode) (next : Nat → State) : Out :=
  if s.awake then
    match s.dispatched 8 with
    | some p =>
      match MoveMode.ofCode (field p.p1 0 8) with
      | some m => if m = mode then .next (next (field p.p1 16 16)) else .next s
      | none => .next (s.complete (Result.refuse .badValue))
    | none => .next s
  else .next s

/-! ## ADVANCE (R132 to R134) -/

/-- ADVANCE at offset p: at EOD the END is taken to be found, LESSON_END is posted and the action ends;
else the header at p is read (R133 steps 1 to 3). -/
def State.advanceAt (s : State) (p : Nat) (passed : Bool) : State :=
  if p = s.store.eod then s.idleTrav.post .lessonEnd
  else (s.useTrav (.advance passed)).present .advanceRead (s.headerRead p)

/-- The ADVANCE action: taken when the store is FORMATTED, the position is not LOST and both engines are
idle, else an overrun (R132). -/
def State.triggerAdvance (s : State) : State :=
  match s.store.position with
  | some p => if s.store.formatted && s.enginesIdle then s.advanceAt p false else s.overrun
  | none => s.overrun

/-- The context shows the page at offset p with this serial (R133 step 2). -/
def ViewContext.shows (c : ViewContext) (p : Nat) (serial : Half) : Bool :=
  match c.source with
  | .page part => part.offset == p && part.serial == serial
  | _ => false

/-- The outcome of an ADVANCE header read (R133). A good page makes no source change while a region change
waits for the ADVANCE (R132). -/
def State.advanceRead (s : State) (a : Answer) : State :=
  match s.store.trav, s.store.position with
  | some (.advance passed), some p =>
    if a.error then s.idleTrav.overrun
    else
      match judgeChain s.store.eod p a.words with
      | none => ((s.setPosition none).idleTrav).post .positionLost
      | some h =>
        match h.kind with
        | .endRecord => ((s.setPosition none).idleTrav).post .positionLost
        | .mark => s.idleTrav.post .lessonEnd
        | .page =>
          if !passed && s.view.current.shows p h.serial then
            (s.setPosition (some (p + h.length))).advanceAt (p + h.length) true
          else if s.store.deferred.isSome then s.idleTrav
          else
            s.idleTrav.advanceSource
              { offset := p, serial := h.serial, format := h.format, w := h.w, h := h.h }
  | _, _ => s

/-! ## RESTART (R117, R119, R131, R134) -/

/-- The transactions of the operations that RESTART aborts: all of the Store Controller's but the mount
scan's (R110, R117, R131). -/
def Purpose.storeAborted : Purpose → Bool
  | .viewHeader => true
  | .popHeader => true
  | .copy => true
  | .commit => true
  | .clearWrite => true
  | .moveRead => true
  | .advanceRead => true
  | _ => false

/-- RESTART on the Store Controller: a copy ends with its pin released, a traversal at the last boundary
reached, a mount scan goes on. A granted header write makes the position LOST, a granted clear write the
store UNFORMATTED (R110, R117, R119, R131). -/
def State.restartStore (s : State) : State :=
  let committing := s.port.grantedFor (· == .commit)
  let clearing := s.port.grantedFor (· == .clearWrite)
  let s1 := s.releaseOpt (s.store.copy.bind CopyOp.pin)
  let s2 := s1.setPort (s1.port.withdraw Purpose.storeAborted)
  let t := if clearing then s2.store.clearFailed else s2.store
  s2.setStore
    { t with
      position := if committing then none else t.position,
      copy := none,
      trav := match t.trav with | some (.scan p last) => some (.scan p last) | _ => none }

/-! ## The meanings -/

/-- MOUNT_SCAN_READ_ANSWER (R109). -/
def execMountScanReadAnswer (a : Answer) (s : State) : Out :=
  s.onAnswer (· == .scanRead) a fun _ s' => s'.scanRead a

/-- The SETUP whose region change has waited goes on with its scan (R159). -/
def State.setupScans (s : State) : State :=
  match s.cu.cmd with
  | some c => if c.stage = .setupWait then s.setCmdStage .setupScan else s
  | none => s

/-- DEFERRED_MOUNT_SCAN: the operation a region change waited for has ended; the new region, the new margin
and the new scan start together (R108, R159). -/
def execDeferredMountScan (s : State) : Out :=
  if s.resetN && s.mountDue then
    match s.store.deferred with
    | some c => .next (s.setupScans.startScan c)
    | none => .next s
  else .next s

/-- RECORD (R111). -/
def execRecord (s : State) : Out := s.onCommand 6 fun p => s.runRecord p

/-- MARK (R118). -/
def execMark (s : State) : Out := s.onCommand 7 fun p => s.runMark p

/-- COPY_TRANSACTION_ANSWER (R113, R115, R116). -/
def execCopyTransactionAnswer (a : Answer) (s : State) : Out :=
  s.onAnswer (· == .copy) a fun _ s' => s'.copyAnswer a

/-- COMMIT: the answer to the header write (R115, R116). -/
def execCommit (a : Answer) (s : State) : Out :=
  s.onAnswer (· == .commit) a fun _ s' => s'.commitAnswer a

/-- STORE_CLEAR (R119). -/
def execStoreClear (s : State) : Out := s.onCommand 9 fun _ => s.runClear

/-- STORE_CLEAR_WRITE_ANSWER (R119). -/
def execStoreClearWriteAnswer (a : Answer) (s : State) : Out :=
  s.onAnswer (· == .clearWrite) a fun _ s' => s'.clearAnswer a

/-- STORE_PROTECT (R120). -/
def execStoreProtect (s : State) : Out :=
  s.onCommand 10 fun _ => (s.setStore { s.store with protect := true }).complete (Result.done 0)

/-- MOVE STEP_FWD (R125). -/
def execStepFwd (s : State) : Out := s.onMove .stepFwd fun n => s.runTraversal .stepFwd n

/-- MOVE STEP_REV (R128). -/
def execStepRev (s : State) : Out := s.onMove .stepRev fun n => s.runTraversal .stepRev n

/-- MOVE SKIP_FWD (R126). -/
def execSkipFwd (s : State) : Out := s.onMove .skipFwd fun n => s.runTraversal .skipFwd n

/-- MOVE SKIP_REV (R128). -/
def execSkipRev (s : State) : Out := s.onMove .skipRev fun n => s.runTraversal .skipRev n

/-- MOVE REWIND (R122). -/
def execRewind (s : State) : Out :=
  s.onMove .rewind fun _ => s.runReposition { s.store with position := some 0, lesson := 0 }

/-- MOVE TO_END (R122). -/
def execToEnd (s : State) : Out :=
  s.onMove .toEnd fun _ => s.runReposition { s.store with position := some s.store.eod }

/-- TRAVERSAL_READ_ANSWER (R123, R124, R127). -/
def execTraversalReadAnswer (a : Answer) (s : State) : Out :=
  s.onAnswer (· == .moveRead) a fun _ s' => s'.moveRead a

/-- ADVANCE_READ_ANSWER (R133). -/
def execAdvanceReadAnswer (a : Answer) (s : State) : Out :=
  s.onAnswer (· == .advanceRead) a fun _ s' => s'.advanceRead a

end Sys2Proof.Machine
end

