-- ==== Sys2Proof/Machine/Timer.lean ====
section
/-! DEFINITION. The Frame Timer: frame and time counting, the signal watch, the trigger list and its
firing (ch. 9). -/

namespace Sys2Proof.Machine

/-! ## Frames, time and the watch -/

/-- What the Frame Timer does at a frame start: the frame number steps (R136), the watch reference is set,
the signal is found present (R141) and every fired flag is cleared (R145). -/
def Timer.startFrame (t : Timer) : Timer :=
  { t with
    frameNumber := t.frameNumber + 1, reference := t.localTime, signal := true,
    triggers := t.triggers.map fun e => { e with fired := false } }

/-- The frame start in the Frame Timer, with SIGNAL_BACK posted when the flag was false (R141). -/
def State.timerFrameStart (s : State) : State :=
  let s' := s.setTimer s.timer.startFrame
  if s.timer.signal then s' else s'.post .signalBack

/-- The microseconds since the watch reference, modulo 2^32 (R139). -/
def Timer.elapsed (t : Timer) : Nat := (t.localTime - t.reference).toNat

/-- The watch expires: it is on, the flag is true, and the elapsed time has reached the interval
(R139, R140). -/
def State.watchExpired (s : State) : Bool :=
  s.bridge.run == .run && decide (1 ≤ s.timer.interval) && s.timer.signal
    && decide (s.timer.interval * 1000 ≤ s.timer.elapsed)

/-- The expiry: the flag becomes false and SIGNAL_LOST is posted (R140). -/
def State.expireWatch (s : State) : State :=
  (s.setTimer { s.timer with signal := false }).post .signalLost

/-! ## Firing -/

/-- An action is handed to the block that carries it out (R146 to R148). -/
def State.runAction (s : State) (a : Action) (arg : Half) : State :=
  match a with
  | .capture => s.triggerCapture arg
  | .mark => s.triggerMark arg
  | .advance => s.triggerAdvance
  | .zoomStep => s.zoomStep arg.toNat
  | .notify => s.post (.triggerNote arg)

/-- An entry fires at the line event of its line in this frame (R145). -/
def Trigger.fires (e : Trigger) (line : Nat) (frame : Word) : Bool :=
  e.line == line && e.enabled && !e.fired && cycleOf frame % 2 ^ e.k == e.r

/-- The fired flag of the entry at a line mark is set (R145). -/
def Timer.setFired (t : Timer) (line : Nat) : Timer :=
  { t with triggers := t.triggers.map fun e => if e.line = line then { e with fired := true } else e }

/-- A line event of a line: the entry whose line mark it is fires when it may (R138, R145). -/
def State.lineEvent (s : State) (line : Nat) : State :=
  match s.timer.triggers.find? fun e => e.fires line s.timer.frameNumber with
  | some e => (s.setTimer (s.timer.setFired line)).runAction e.action e.arg
  | none => s

/-! ## TRIGGERS (R143, R144) -/

/-- The completion of a load: the list is validated and replaces the list in force with every fired flag
clear, or is refused (R143 step 4, R144). -/
def State.loadList (s : State) (ws : List Word) : State :=
  match checkEntries s.slots.hc none 0 ws with
  | .good ts =>
    (s.setTimer { s.timer with triggers := ts }).complete (Result.done (toWord ts.length))
  | .bad r i => s.complete { cls := .refused, reason := r, arg := toWord i, residual := 0 }

/-- The load goes on after the words read so far: validated when all are read, else the next read; a read
that would run above the top of memory is an ERROR (R143 step 3, R144). -/
def State.listFrom (s : State) (addr total : Nat) (got : List Word) : State :=
  let n := min 8 (total - got.length)
  let a := addr + 4 * got.length
  if n = 0 then s.loadList (got.take total)
  else if memoryTop < a + 4 * n then s.complete Result.retry
  else (s.setCmdStage (.listRead addr total got)).presentCommand .triggerList (ownRead a n)

/-- TRIGGERS carried out (R143 steps 2 and 3). -/
def State.runTriggers (s : State) (pkt : Packet) : State :=
  let count := field pkt.p1 0 16
  if 16 < count then s.complete (Result.refuse .badValue)
  else s.listFrom (wordAligned pkt.p2) (2 * count) []

/-- The answer to a trigger list read (R143, R144). -/
def State.listRead (s : State) (a : Answer) : State :=
  match s.cu.cmd with
  | some c =>
    match c.stage with
    | .listRead addr total got =>
      if a.error then s.complete Result.retry else s.listFrom addr total (got ++ a.words)
    | _ => s
  | none => s

/-! ## The meanings -/

/-- TRIGGERS (R143). -/
def execTriggers (s : State) : Out := s.onCommand 11 fun p => s.runTriggers p

/-- TRIGGER_LIST_READ_ANSWER (R143, R144). -/
def execTriggerListReadAnswer (a : Answer) (s : State) : Out :=
  s.onAnswer (· == .triggerList) a fun _ s' => s'.listRead a

/-- WATCH_EXPIRY (R140). -/
def execWatchExpiry (s : State) : Out := s.whenAwake (if s.watchExpired then s.expireWatch else s)

/-- LOCAL_TIME_ADVANCE: a microsecond passes, in BYPASS and in RUN alike, from the end of reset on
(R137). -/
def execLocalTimeAdvance (s : State) : Out :=
  if s.resetN then .next (s.setTimer { s.timer with localTime := s.timer.localTime + 1 }) else .next s

end Sys2Proof.Machine
end

