-- ==== Sys2Proof/Machine/Capture.lean ====
section
/-! DEFINITION. Capture frames: the frame start and the choice of a slot (R22 to R25), pending geometry
(R31), completion (R26, R27), the Capture Assembler (ch. 3) and the aperture's chroma writes and reads
(R9, R10, R29). -/

namespace Sys2Proof.Machine

/-- The Capture Assembler's state is replaced. -/
def State.mapAsm (s : State) (f : Assembler → Assembler) : State := s.setAsm (f s.asm)

/-! ## Frame start (R22) -/

/-- Step 1 of a frame start: a frame still FILLING is abandoned, its slot emptied and counted; its line
writes not granted are withdrawn and the answer of a granted one will be ignored (R22, R23). -/
def State.endFrame (s : State) : State :=
  let s1 := s.setPort (s.port.withdraw (· == .lineWrite))
  let s2 := s1.setAsm { s1.asm with frame := none, queue := [], running := none }
  match s.asm.frame with
  | some f =>
    match f.slot with
    | some i =>
      let s3 := s2.setRec i { s2.slotRec i with state := .empty }
      s3.setSlots { s3.slots with abandoned := s3.slots.abandoned + 1 }
    | none => s2
  | none => s2

/-- All slots emptied and all holds gone, generations kept (R31). -/
def SlotRec.emptied (r : SlotRec) : SlotRec := { r with state := .empty, hold := 0 }

/-- The composer latch released: UNLATCHED with source NONE; its view geometry, keys and border colour are
kept (R70). The source geometry, step and origin keep their numbers, which nothing reads before the next latch
replaces them: DESIGN CHOICE (log entry 15). -/
def ViewLatch.released (l : ViewLatch) : ViewLatch := { l with latched := false, source := .none }

/-- What a new Wc and Hc do to the slots and their holders (R31, R70, R97). -/
def State.newGeometry (s : State) : State :=
  let s1 := s.setSlots { s.slots with recs := s.slots.recs.map SlotRec.emptied }
  let s2 := s1.setComp { s1.comp with latch := s1.comp.latch.released }
  let s3 := s2.setView s2.view.dropHolds
  if s.view.current.held.isSome then s3.post .viewReset else s3

/-- The pending set put in force (R31, R54, R63). -/
def State.applyStaged (s : State) (g : StagedCapture) : State :=
  let s1 := s.setEnh { s.enh with force := putInForce g.t g.g g.b g.wp g.auto g.a }
  let s2 := s1.setSlots { s1.slots with wc := g.wc, hc := g.hc, staged := none }
  if s.slots.wc = g.wc ∧ s.slots.hc = g.hc then s2 else s2.newGeometry

/-- Step 2 of a frame start: a pending set is applied when the copy engine is idle (R22, R30). -/
def State.applyPending (s : State) : State :=
  match s.slots.staged with
  | some g => if s.store.copy.isNone then s.applyStaged g else s
  | none => s

/-- The slot a new frame takes: the EMPTY slot of lowest index, else the newest when its hold count is 0,
else none (R24). -/
def State.chooseSlot (s : State) : Option (Fin 3) :=
  match slotIndices.find? fun i => decide ((s.slotRec i).state = .empty) with
  | some i => some i
  | none =>
    match s.newest with
    | some i => if (s.slotRec i).hold = 0 then some i else none
    | none => none

/-- The record of a slot chosen for filling (R24). -/
def State.fillingRec (s : State) (i : Fin 3) : SlotRec :=
  { s.slotRec i with
    state := .filling, gen := (s.slotRec i).gen + 1, frame := s.timer.frameNumber, wc := s.slots.wc,
    hc := s.slots.hc, broken := false }

/-- Step 5 of a frame start: the chosen slot becomes FILLING, or the frame is DROPPED and counted
(R24, R25). -/
def State.fillSlot (s : State) (choice : Option (Fin 3)) : State :=
  match choice with
  | some i => s.setRec i (s.fillingRec i)
  | none => s.setSlots { s.slots with dropped := s.slots.dropped + 1 }

/-- Step 6 of a frame start in the Capture Assembler (R36). -/
def State.freshFrame (s : State) (choice : Option (Fin 3)) : State :=
  s.setAsm
    { frame := some { number := s.timer.frameNumber, slot := choice },
      mode := if choice.isSome then .normal else .dropped,
      wc := s.slots.wc, hc := s.slots.hc, ptr := 0, finalWord := false, lumaHalf := false,
      chromaHalf := false, ring := Vector.replicate 4 .free, queue := [], running := none }

/-- A frame start (R22, steps 1 to 6 in order; R141 at step 3, R55 at step 6). -/
def State.frameStart (s : State) : State :=
  let s3 := s.endFrame.applyPending.timerFrameStart
  let s4 := s3.setSlots { s3.slots with started := s3.slots.started + 1 }
  let choice := s4.chooseSlot
  let s6 := (s4.fillSlot choice).freshFrame choice
  s6.setEnh s6.enh.latchFrame

/-! ## Completion (R26, R27) -/

/-- The slots after the completion of the frame in slot `i`: it is COMPLETE, and every other COMPLETE slot
that no one holds is EMPTY (R27). -/
def SlotManager.completeFrame (m : SlotManager) (i : Fin 3) : SlotManager :=
  let others := m.recs.map fun r =>
    if r.state = .complete ∧ r.hold = 0 then { r with state := .empty } else r
  { m with
    recs := others.set i { m.recs[i] with state := .complete }, completed := m.completed + 1 }

/-- The completion of the frame in slot `i`, with the white tracker when the frame is unbroken and its
latched auto flag on (R27, R60). -/
def State.frameCompletes (s : State) (i : Fin 3) : State :=
  let s1 := s.setSlots (s.slots.completeFrame i)
  let s2 :=
    if !(s.slotRec i).broken && s.enh.latch.auto then s1.setEnh (s1.enh.track s.asm.wc s.asm.hc) else s1
  s2.setAsm { s2.asm with frame := none }

/-- The slot the frame in progress fills. -/
def Assembler.slot (a : Assembler) : Option (Fin 3) :=
  match a.frame with
  | some f => f.slot
  | none => none

/-- The event that supplies the second half is the completion (R26). -/
def State.completeIfBoth (s : State) : State :=
  match s.asm.slot with
  | some i => if s.asm.lumaHalf && s.asm.chromaHalf then s.frameCompletes i else s
  | none => s

/-- The luma half is recorded when the final-word flag is set and the line writer queue is empty
(R46). -/
def State.checkLumaHalf (s : State) : State :=
  if s.asm.finalWord && s.asm.queue.isEmpty then
    (s.setAsm { s.asm with lumaHalf := true }).completeIfBoth
  else s

/-- The chroma half is recorded, in a frame that fills a slot (R26). -/
def State.recordChroma (s : State) : State :=
  if s.asm.slot.isSome then (s.setAsm { s.asm with chromaHalf := true }).completeIfBoth else s

/-- The frame being filled is marked broken, and counted the first time (R43, R44). -/
def State.markBroken (s : State) : State :=
  match s.asm.slot with
  | some i =>
    if (s.slotRec i).broken then s
    else
      let s1 := s.setRec i { s.slotRec i with broken := true }
      s1.setSlots { s1.slots with broken := s1.slots.broken + 1 }
  | none => s

/-! ## The line ring and words in order (R38 to R40) -/

/-- The ring entry of line m (R39). -/
def ringIndex (m : Nat) : Fin 4 := ⟨m % 4, Nat.mod_lt _ (by decide)⟩

/-- The current line index (R35). -/
def Assembler.lineIndex (a : Assembler) : Nat := a.ptr / a.wc

/-- Whether an entry is in use for another line than `m` (R39). -/
def RingEntry.busyFor (e : RingEntry) (m : Nat) : Bool :=
  match e with
  | .free => false
  | .line j _ => j != m
  | .piece _ _ => true

/-- The next word finds the ring entry of its line in use (R39). -/
def Assembler.entryBusy (a : Assembler) : Bool :=
  a.ring[ringIndex a.lineIndex].busyFor a.lineIndex

/-- The raw bytes of a line in the ring. -/
def Assembler.lineBytes (a : Assembler) (m : Nat) : List Byte :=
  match a.ring[ringIndex m] with
  | .line j bytes => if j = m then bytes else []
  | _ => []

/-- A word placed in the entry of its line at the pointer, and the pointer advanced (R38 steps 2
and 3). -/
def Assembler.placeWord (a : Assembler) (w : Word) : Assembler :=
  let m := a.lineIndex
  { a with
    ring := a.ring.set (ringIndex m) (.line m (a.lineBytes m ++ bytesOfWord w)), ptr := a.ptr + 4 }

/-- The emissions that the completion of line m makes due (R40). -/
def dueItems (hc m : Nat) : List WorkItem :=
  (if 1 ≤ m then [WorkItem.emit (m - 1) (m - 2) m] else [])
    ++ (if m + 1 = hc then [WorkItem.emit m (m - 1) m] else [])

/-- The completion of line m of a NORMAL frame: the line event, then the emissions due (R38 step 4). -/
def State.lineCompleted (s : State) (m : Nat) : State :=
  let s1 := s.lineEvent m
  s1.setAsm { s1.asm with queue := s1.asm.queue ++ dueItems s1.asm.hc m }

/-- One in-order word is taken (R38). -/
def State.takeWord (s : State) (w : Word) : State :=
  let m := s.asm.lineIndex
  let s1 := s.setAsm (s.asm.placeWord w)
  let s2 := if s1.asm.ptr % s1.asm.wc = 0 then s1.lineCompleted m else s1
  if s2.asm.ptr = s2.asm.wc * s2.asm.hc then s2.setAsm { s2.asm with finalWord := true } else s2

/-- The words of an in-order piece taken one at a time; what is left when a word finds its entry in use
(R38, R39). -/
def State.takeInOrder (s : State) : List Beat → State × List Beat
  | [] => (s, [])
  | b :: bs => if s.asm.entryBusy then (s, b :: bs) else (s.takeWord b.data).takeInOrder bs

/-! ## Raw pieces, dropped pieces and breaks (R44 to R47) -/

/-- The line whose last word lies among `len` words from an aperture offset; a piece of at most 8 words
holds at most one (R35, R48). -/
def lineEndIn (wc offset len : Nat) : Option Nat :=
  let last := offset + 4 * len - 4
  let ends := (last + 4) / wc
  if offset / wc < ends then some (ends - 1) else none

/-- A line event for the line whose end the piece holds (R45, R47, R48). -/
def State.pieceLineEvent (s : State) (offset len : Nat) : State :=
  match lineEndIn s.asm.wc offset len with
  | some line => s.lineEvent line
  | none => s

/-- The free ring entry that a raw piece takes: the lowest (R45; log entry 18). -/
def Assembler.freeEntry (a : Assembler) : Option (Fin 4) :=
  ([0, 1, 2, 3] : List (Fin 4)).find? fun i => a.ring[i] == .free

/-- A raw piece is placed in an entry and its raw write queued; it withdraws a recorded luma half
(R45, R46). -/
def State.takeRaw (s : State) (i : Fin 4) (offset : Nat) (beats : List Beat) : State :=
  let s1 := s.setAsm
    { s.asm with
      ring := s.asm.ring.set i (.piece offset beats), queue := s.asm.queue ++ [.rawPiece i],
      lumaHalf := false }
  let s2 := s1.pieceLineEvent offset beats.length
  let final := s2.asm.wc * s2.asm.hc - 4
  if offset ≤ final ∧ final < offset + 4 * beats.length
  then s2.setAsm { s2.asm with finalWord := true } else s2

/-- A piece of a DROPPED frame is tracked (R47). -/
def State.trackDropped (s : State) (offset len : Nat) : State :=
  (s.setAsm { s.asm with ptr := offset + 4 * len }).pieceLineEvent offset len

/-- The items a break queues: the flush of the last complete line against itself, and the raw write of the
partial line (R44 steps 1 and 2). -/
def Assembler.breakItems (a : Assembler) : List WorkItem :=
  let m := a.lineIndex
  (if 1 ≤ m ∧ m < a.hc then [WorkItem.emit (m - 1) (m - 2) (m - 1)] else [])
    ++ (if a.ptr % a.wc = 0 then [] else [WorkItem.partialLine m])

/-- A sequence break, before any word of the breaking piece is taken (R44, R59). -/
def State.sequenceBreak (s : State) : State :=
  let s1 := s.setAsm { s.asm with queue := s.asm.queue ++ s.asm.breakItems }
  let s2 := s1.markBroken
  let s3 := s2.setEnh { s2.enh with hist := Vector.replicate 64 0 }
  s3.setAsm { s3.asm with mode := .raw }

/-- A piece is in order: its first word at the pointer, every byte-enable set (R37). -/
def Assembler.inOrder (a : Assembler) (offset : Nat) (beats : List Beat) : Bool :=
  offset == a.ptr && beats.all fun b => b.be == 0xF

/-! ## Luma pieces (R37) -/

/-- The aperture offset of the first word of a piece. -/
def State.apertureOffset (s : State) (t : Txn) (p : Piece) : Nat :=
  wordAddr t.burst p.first - s.bridge.regions.apertureBase

/-- A raw piece is taken and answered, or held while no entry is free (R45). -/
def State.rawLuma (s : State) (t : Txn) (p : Piece) : State :=
  match s.asm.freeEntry with
  | some i =>
    (s.takeRaw i (s.apertureOffset t p) (pieceBeats t.burst p)).finishPiece [] false
  | none => s.setTxn (some { t with stage := .held 0 })

/-- The words of an in-order piece from word `taken` on are taken; the piece is answered, or held at the
first word that finds its entry in use (R38, R39). -/
def State.orderedLuma (s : State) (t : Txn) (p : Piece) (taken : Nat) : State :=
  let r := s.takeInOrder ((pieceBeats t.burst p).drop taken)
  if r.2.isEmpty then r.1.finishPiece [] false
  else r.1.setTxn (some { t with stage := .held (p.len - r.2.length) })

/-- A luma piece is judged by the mode of the frame in progress and taken (R28, R37). -/
def State.judgeLuma (s : State) (t : Txn) (p : Piece) : State :=
  match s.asm.frame with
  | none => s.discardPiece
  | some _ =>
    match s.asm.mode with
    | .normal =>
      if s.asm.inOrder (s.apertureOffset t p) (pieceBeats t.burst p) then s.orderedLuma t p 0
      else s.sequenceBreak.rawLuma t p
    | .raw => s.rawLuma t p
    | .dropped => (s.trackDropped (s.apertureOffset t p) p.len).finishPiece [] false

/-- A capture luma piece: a frame start when its first word is at aperture offset 0, then judged
(R22, R37). The pieces of the transaction stand as cut by the region map in force. -/
def State.lumaPiece (s : State) (t : Txn) (p : Piece) : State :=
  let s1 := s.setTxn (some t)
  if s1.apertureOffset t p = 0 then s1.frameStart.judgeLuma t p else s1.judgeLuma t p

/-- A held piece goes on: a raw piece when an entry is free, an in-order piece when the entry of its next
word is (R39, R45). While neither is, it goes on waiting. -/
def State.resumeHeld (s : State) (t : Txn) (p : Piece) (taken : Nat) : State :=
  match s.asm.mode with
  | .normal => if s.asm.entryBusy then s else s.orderedLuma t p taken
  | .raw => if s.asm.freeEntry.isSome then s.rawLuma t p else s
  | .dropped => s

/-- The piece that back-pressure holds, if one is held, goes on (R39, R45). -/
def State.resume (s : State) : State :=
  match s.bridge.txn with
  | some t =>
    match t.stage, t.pieces with
    | .held taken, p :: _ => s.resumeHeld t p taken
    | _, _ => s
  | none => s

/-- In a RAW frame a held piece is taken as soon as an item's finish frees an entry (R45; log entry 28). -/
def State.takeHeldRaw (s : State) : State := if s.asm.mode = .raw then s.resume else s

/-! ## Emission and the line writer (R41, R43) -/

/-- The slot base that the line writer writes to (R29). With no frame that fills a slot, in which no item is
queued in any run, 0 stands for it: DESIGN CHOICE (log entry 27). -/
def State.fillBase (s : State) : Nat :=
  match s.asm.slot with
  | some i => s.slotBase i
  | none => 0

/-- The sharpened values of the line an emission emits (R41 step 1). -/
def State.emitSharp (s : State) (n above below : Nat) : List Nat :=
  sharpLine s.enh.latch s.asm.wc (s.asm.lineBytes above) (s.asm.lineBytes n) (s.asm.lineBytes below)

/-- The writes of an item of the line writer queue (R41, R44, R45). -/
def State.itemWrites (s : State) (item : WorkItem) : List Burst :=
  match item with
  | .emit n above below =>
    writeChunks (s.fillBase + n * s.asm.wc)
      (wordsOfBytes (toneLine s.enh.latch (s.emitSharp n above below)))
  | .partialLine n => writeChunks (s.fillBase + n * s.asm.wc) (wordsOfBytes (s.asm.lineBytes n))
  | .rawPiece i =>
    match s.asm.ring[i] with
    | .piece offset beats => [{ tag := 0, addr := s.fillBase + offset, body := .write beats }]
    | _ => []

/-- The pixels of an emission of a NORMAL frame are counted in the histogram (R58). -/
def State.itemCounts (s : State) (item : WorkItem) : State :=
  match item with
  | .emit n above below =>
    if s.asm.mode = .normal then
      s.setEnh { s.enh with hist := countLine s.enh.hist (s.emitSharp n above below) }
    else s
  | _ => s

/-- The ring entries that an item still reads. -/
def WorkItem.reads (item : WorkItem) : List (Fin 4) :=
  match item with
  | .emit n above below => [ringIndex above, ringIndex n, ringIndex below]
  | .partialLine n => [ringIndex n]
  | .rawPiece i => [i]

/-- The entries that a finished item frees in a NORMAL frame: that of line n − 1, and after the last line
those of the last two (R41 step 3). -/
def freedLines (hc : Nat) (item : WorkItem) : List Nat :=
  match item with
  | .emit n _ _ => (if 1 ≤ n then [n - 1] else []) ++ (if n + 1 = hc then [n - 1, n] else [])
  | _ => []

/-- An entry that holds one of these lines becomes free. -/
def RingEntry.freeLines (lines : List Nat) (e : RingEntry) : RingEntry :=
  match e with
  | .line j _ => if lines.contains j then .free else e
  | _ => e

/-- The ring after an item has finished: in a NORMAL frame by R41; in a RAW frame an entry is free when no
item left in the queue reads it (R45). -/
def Assembler.ringAfter (a : Assembler) (item : WorkItem) (queue : List WorkItem) : Vector RingEntry 4 :=
  match a.mode with
  | .raw =>
    Vector.ofFn fun i => if (queue.flatMap WorkItem.reads).contains i then a.ring[i] else .free
  | _ => a.ring.map (RingEntry.freeLines (freedLines a.hc item))

/-- The item at the head of the queue has finished: its entries are freed, a held raw piece is taken when
one is free, and the luma half is recorded when nothing is left (R41 step 3, R45, R46). -/
def State.finishItem (s : State) : State :=
  match s.asm.queue with
  | item :: rest =>
    (s.setAsm
      { s.asm with
        ring := s.asm.ringAfter item rest, queue := rest, running := none }).takeHeldRaw.checkLumaHalf
  | [] => s

/-- The line writer goes on with the writes left of its item, or has finished it (R41). -/
def State.lineWrites (s : State) (ws : List Burst) : State :=
  match ws with
  | b :: rest => (s.setAsm { s.asm with running := some rest }).present .lineWrite b
  | [] => s.finishItem

/-- The line writer has no write waiting or granted, and no item running (R23, R41). -/
def State.lineWriterIdle (s : State) : Bool :=
  s.asm.running.isNone
    && (match s.port.granted with | some g => g.request.purpose != .lineWrite | none => true)

/-- The item at the head of the queue begins: its pixels are computed and counted and its first write is
presented (R41). -/
def State.beginItem (s : State) (item : WorkItem) : State :=
  (s.itemCounts item).lineWrites (s.itemWrites item)

/-- The answer to a line write: ERROR marks the frame broken; the next write follows or the item finishes
(R41, R43). -/
def State.lineAnswer (s : State) (a : Answer) : State :=
  let s' := if a.error then s.markBroken else s
  match s'.asm.running with
  | some rest => s'.lineWrites rest
  | none => s'

/-! ## Chroma writes and aperture reads (R9, R10, R29) -/

/-- The piece of a chroma write holds the final chroma word, at aperture offset 2·Wc·Hc − 4 (R26). -/
def State.chromaFinal (s : State) (t : Txn) (p : Piece) : Bool :=
  let o := s.apertureOffset t p
  let final := 2 * s.asm.wc * s.asm.hc - 4
  decide (o ≤ final) && decide (final < o + 4 * p.len)

/-- A chroma write of the CAPTURE master: remapped into the FILLING slot, or discarded (R9, R28). -/
def State.chromaPiece (s : State) (t : Txn) (p : Piece) : State :=
  let s1 := s.setTxn (some t)
  match s1.asm.slot with
  | some i =>
    s1.passPiece t p (s1.slotBase i + s1.apertureOffset t p) (s1.chromaFinal t p)
  | none => s1.discardPiece

/-- A read in the aperture: remapped to the newest slot, or answered with zeros (R10). -/
def State.apertureRead (s : State) (t : Txn) (p : Piece) : State :=
  let s1 := s.setTxn (some t)
  match s1.newest with
  | some i => s1.passPiece t p (s1.slotBase i + s1.apertureOffset t p) false
  | none => s1.finishPiece (List.replicate p.len 0) false

/-! ## The meanings -/

/-- CAPTURE_LUMA_PIECE (R37, and R22 for a frame start). -/
def execCaptureLumaPiece (s : State) : Out := s.onFront (· == .captureLuma) fun t p => s.lumaPiece t p

/-- HELD_PIECE_RESUME (R39, R45). -/
def execHeldPieceResume (s : State) : Out := s.whenAwake s.resume

/-- CAPTURE_CHROMA_PIECE (R9). -/
def execCaptureChromaPiece (s : State) : Out :=
  s.onFront (· == .captureChroma) fun t p => s.chromaPiece t p

/-- APERTURE_READ_PIECE (R10). -/
def execApertureReadPiece (s : State) : Out :=
  s.onFront (· == .apertureRead) fun t p => s.apertureRead t p

/-- EMISSION: the item at the head of the line writer queue begins (R41). -/
def execEmission (s : State) : Out :=
  s.whenAwake
    (match s.asm.queue with
    | item :: _ => if s.lineWriterIdle then s.beginItem item else s
    | [] => s)

/-- LINE_WRITE_ANSWER (R41, R43). -/
def execLineWriteAnswer (a : Answer) (s : State) : Out :=
  s.onAnswer (· == .lineWrite) a fun _ s' => s'.lineAnswer a

end Sys2Proof.Machine
end

