-- ==== Sys2Proof/Machine/Control.lean ====
section
/-! DEFINITION. The Command Unit: the control page (R150 to R154), RESTART (R161), packets and STATUS
(R163, R173), and the writing of messages and notices (R165, R170). -/

namespace Sys2Proof.Machine

/-! ## Control-page writes (R150 to R153) -/

/-- What a control-page write report asks of the Command Unit (R150 to R153). -/
inductive Report where
  /-- The control word, interpreted, value OPEN. -/
  | openWord
  /-- The control word, interpreted, value RESTART. -/
  | restartWord
  /-- The control word, interpreted, CLOSE or any other value. -/
  | closeWord
  /-- The command pointer, interpreted. -/
  | pointer (w : Word)
  /-- A report that is not interpreted. -/
  | plain
deriving DecidableEq, Repr

/-- The report of a written word by its index, the class of the transaction and the word
(R8, R150, R152). -/
def reportOf (index : Nat) (cls : MasterClass) (b : Beat) : Report :=
  if cls = .control ∧ b.be = 0xF then
    if index = 0 then
      if b.data = 1 then .openWord else if b.data = 3 then .restartWord else .closeWord
    else if index = 1 then .pointer b.data
    else .plain
  else .plain

/-- The control-page write whose words are being reported: transaction, piece and the words already
reported (R8). -/
def State.reporting (s : State) : Option (Txn × Piece × Nat) :=
  match s.bridge.txn with
  | some t =>
    match t.stage, t.pieces with
    | .reporting k, p :: _ => some (t, p, k)
    | .untreated, _ =>
      match s.front with
      | some (t', p, .controlWrite) => some (t', p, 0)
      | _ => none
    | _, _ => none
  | none => none

/-- The report of word `k` of a control-page write piece. -/
def State.reportAt (s : State) (t : Txn) (p : Piece) (k : Nat) : Report :=
  reportOf (s.pageIndex (wordAddr t.burst p.first) + k) t.cls
    ((pieceBeats t.burst p).getD k { data := 0, be := 0 })

/-- After the report of word `k` the next word is reported, or the piece passes whole to the memory port
(R8). -/
def State.endReport (s : State) (t : Txn) (p : Piece) (k : Nat) : State :=
  if k + 1 < p.len then s.setTxn (some { t with stage := .reporting (k + 1) })
  else s.passPiece t p (wordAddr t.burst p.first) false

/-- The next report of a control-page write is treated when it is of the kind asked for; the effect of the
report comes before the next one and before the memory request (R8). -/
def State.onReport (s : State) (sel : Report → Bool) (effect : Report → State → State) : Out :=
  if s.awake then
    match s.reporting with
    | some (t, p, k) =>
      let r := s.reportAt t p k
      if sel r then .next ((effect r s).endReport t p k) else .next s
    | none => .next s
  else .next s

/-- The open sequence and control-open state are set (R151). -/
def State.setControl (s : State) (opened armed : Bool) : State :=
  s.setCu { s.cu with opened := opened, armed := armed }

/-! ## The command pointer (R153, R154) -/

/-- The checks of a pointer: a multiple of 16, a packet within the memory, and all its bytes in the region
"elsewhere" (R154). -/
def State.pointerGood (s : State) (w : Word) : Bool :=
  let p := w.toNat
  p % 16 == 0 && decide (p ≤ 0x1FFFFF0)
    && [p, p + 4, p + 8, p + 12].all fun a => s.areaOf a == .elsewhere

/-- A pointer is taken: busy, the refused-while-busy flag clear, ownership HOST; then it is checked, and
its packet fetched or the command refused (R153, R154, R164). -/
def State.takePointer (s : State) (w : Word) : State :=
  let s1 := s.setCu
    { s.cu with
      cmd := some { packet := none, stage := .fetch }, refusedBusy := false, owner := .host }
  if s.pointerGood w then s1.presentCommand .packet (ownRead w.toNat 4)
  else s1.complete (Result.refuse .badPointer)

/-- An interpreted write of the command pointer: ignored while control is CLOSED, ignored and flagged
while a command or the reload is in progress, and otherwise taken (R153). -/
def State.writePointer (s : State) (w : Word) : State :=
  if !s.cu.opened then s
  else if s.cu.cmd.isSome || s.cu.reloadResult == .none then s.setCu { s.cu with refusedBusy := true }
  else s.takePointer w

/-! ## RESTART (R161) -/

/-- The transactions of the Command Unit that RESTART aborts: all but the reload's (R160, R161, R170). -/
def Purpose.commandAborted : Purpose → Bool
  | .packet => true
  | .setupBlock => true
  | .triggerList => true
  | .message => true
  | .notice => true
  | _ => false

/-- RESTART on the View Controller: the stack is emptied, the view becomes the LIVE default, and the
STANDING entries and a FROZEN context release their holds (R98). -/
def State.restartView (s : State) : State :=
  let s1 := s.view.stack.foldl (fun t e => t.releaseOpt e.held) s
  (s1.releaseOpt s.view.current.held).setView { current := ViewContext.liveDefault, stack := [] }

/-- RESTART on the Command Unit (R161). -/
def State.restartCommand (s : State) : State :=
  let s1 := s.setPort (s.port.withdraw Purpose.commandAborted)
  s1.setCu
    { s1.cu with
      opened := false, armed := false, cmd := none, refusedBusy := false, owner := .host,
      notices := Notices.empty, notice := none, held := none, attn := false }

/-- RESTART on the Frame Timer: the fired flags are cleared (R135, R145). -/
def State.restartTimer (s : State) : State :=
  s.setTimer
    { s.timer with triggers := s.timer.triggers.map fun e => { e with fired := false } }

/-- RESTART while control is OPEN, in every block (R161 and the table after it). -/
def State.restart (s : State) : State := s.restartStore.restartView.restartTimer.restartCommand

/-! ## Packets (R163) -/

/-- A fetched packet is judged: refused BAD_COMMAND or NOT_RUNNING, or handed to its owning block
(R163). -/
def State.judgePacket (s : State) (pkt : Packet) : State :=
  let s1 := s.setCu { s.cu with cmd := some { packet := some pkt, stage := .dispatched } }
  if pkt.code < 1 ∨ 11 < pkt.code then s1.complete (Result.refuse .badCommand)
  else if s.bridge.run = .bypass ∧ pkt.code ≠ 1 ∧ pkt.code ≠ 2 then
    s1.complete (Result.refuse .notRunning)
  else s1

/-- The answer to a packet fetch (R154, R163). -/
def State.packetAnswer (s : State) (a : Answer) : State :=
  match s.cu.cmd with
  | some c =>
    if c.stage = .fetch then
      if a.error then s.complete (Result.refuse .badPointer)
      else s.judgePacket (Packet.ofWords a.words)
    else s
  | none => s

/-! ## STATUS (R173) -/

/-- The report of STATUS: DONE with the frame number as argument (R166, R173). -/
def State.statusResult (s : State) : Result := Result.done s.timer.frameNumber

/-- The eight counters are set to 0 (R173). -/
def State.clearCounters (s : State) : State :=
  let s1 := s.setSlots
    { s.slots with started := 0, completed := 0, abandoned := 0, dropped := 0, broken := 0 }
  let s2 := s1.setTimer { s1.timer with overruns := 0 }
  let s3 := s2.setBridge { s2.bridge with guard := 0 }
  s3.setComp { s3.comp with errors := 0 }

/-! ## Messages and notices (R165, R170) -/

/-- The last steps of a completion, one change: the status word takes class and reason, busy clears, ATTN
rises if IE was set, the part becomes owner if RELEASE was set, and a NOTICE that is due follows
(R165 steps 2 to 4). -/
def State.finishCommand (s : State) (c : Command) (cls : TermClass) (reason : Reason) : State :=
  let ie := match c.packet with | some p => p.ie | none => false
  let release := match c.packet with | some p => p.release | none => false
  (s.setCu
    { s.cu with
      cmd := none, lastClass := some cls, lastReason := reason, attn := s.cu.attn || ie,
      owner := if release then .part else s.cu.owner }).deliver

/-- The answer to a half of a completion message, whatever its status (R15, R165). -/
def State.messageAnswer (s : State) : State :=
  match s.cu.cmd with
  | some c =>
    match c.stage with
    | .message w cls reason =>
      if w.second then s.finishCommand c cls reason
      else
        (s.setCmdStage (.message { w with second := true } cls reason)).presentCommand .message w.lower
    | _ => s
  | none => s

/-- The answer to a half of a NOTICE, whatever its status; after the second ATTN rises, and a transaction
of the command in progress that waited behind the NOTICE is presented (R15, R170, R171). -/
def State.noticeAnswer (s : State) : State :=
  match s.cu.notice with
  | some w =>
    if w.second then
      let s1 := s.setCu { s.cu with notice := none, attn := true, held := none }
      match s.cu.held with
      | some r => s1.present r.purpose r.burst
      | none => s1
    else
      (s.setCu { s.cu with notice := some { w with second := true } }).present .notice w.lower
  | none => s

/-! ## The meanings -/

/-- OPEN: the sequence is armed, or control opens when it is armed already (R151). -/
def execOpenControl (s : State) : Out :=
  s.onReport (· == .openWord) fun _ s =>
    if s.cu.armed then s.setControl true false else s.setControl s.cu.opened true

/-- CLOSE, or any control word value without its own meaning: control is CLOSED (R152). -/
def execCloseControl (s : State) : Out :=
  s.onReport (· == .closeWord) fun _ s => s.setControl false false

/-- RESTART: carried out at once while control is OPEN; while it is CLOSED nothing is restarted (R152,
R161). -/
def execRestart (s : State) : Out :=
  s.onReport (· == .restartWord) fun _ s =>
    if s.cu.opened then s.restart else s.setControl false false

/-- COMMAND_POINTER (R153); the open sequence ends (R151). -/
def execCommandPointer (s : State) : Out :=
  s.onReport (fun r => match r with | .pointer _ => true | _ => false) fun r s =>
    match r with
    | .pointer w => (s.setControl s.cu.opened false).writePointer w
    | _ => s

/-- CONTROL_PAGE_WRITE: a report that is not interpreted ends an armed open sequence (R150, R151). -/
def execControlPageWrite (s : State) : Out :=
  s.onReport (· == .plain) fun _ s => s.setControl s.cu.opened false

/-- PACKET_FETCH: the answer to the fetch of the packet (R154, R163). -/
def execPacketFetch (a : Answer) (s : State) : Out :=
  s.onAnswer (· == .packet) a fun _ s' => s'.packetAnswer a

/-- STATUS: a plain report, or REFUSED BAD_VALUE for a modifier that is neither 0 nor 1 (R173; log entries
9 and 13). Modifier 1 is STATUS_CLEAR. -/
def execStatus (s : State) : Out :=
  s.onCommand 2 fun p =>
    if p.modifier = 0 then s.completeWith s.statusResult true
    else if p.modifier = 1 then s
    else s.complete (Result.refuse .badValue)

/-- STATUS_CLEAR: the report, and the eight counters to 0 in the same change (R173). -/
def execStatusClear (s : State) : Out :=
  s.onCommand 2 fun p =>
    if p.modifier = 1 then (s.completeWith s.statusResult true).clearCounters else s

/-- MESSAGE_WRITE_ANSWER (R165). -/
def execMessageWriteAnswer (a : Answer) (s : State) : Out :=
  s.onAnswer (· == .message) a fun _ s' => s'.messageAnswer

/-- NOTICE_WRITE_ANSWER (R170). -/
def execNoticeWriteAnswer (a : Answer) (s : State) : Out :=
  s.onAnswer (· == .notice) a fun _ s' => s'.noticeAnswer

/-- The memory reads around the status word: a read of the piece's words from its word `from_`, `n` of
them (R8). -/
def sideRead (t : Txn) (p : Piece) (from_ n : Nat) : Burst :=
  { tag := t.burst.tag, addr := wordAddr t.burst (p.first + from_), body := .read n }

/-- The part of a status-word read above the status word is read, or the piece ends (R8). -/
def State.statusUpper (s : State) (t : Txn) (p : Piece) (got : List Word) (error : Bool) : State :=
  if got.length < p.len then
    (s.setTxn (some { t with stage := .statusAbove got error })).present .passThrough
      (sideRead t p got.length (p.len - got.length))
  else s.finishPiece got error

/-- A read piece with the status word: the word is taken from the live state, ATTN falls for a CONTROL
master, and the words around it are read from memory (R8, R171, R172): those below first, and those above after
whatever the status of the first read: DESIGN CHOICE (log entry 25). -/
def State.statusPiece (s : State) (t : Txn) (p : Piece) : State :=
  let sw := s.statusWord
  let s1 := if t.cls = .control then s.setCu { s.cu with attn := false } else s
  let below := 2 - s.pageIndex (wordAddr t.burst p.first)
  let s2 := s1.setTxn (some t)
  if below = 0 then s2.statusUpper t p [sw] false
  else
    (s2.setTxn (some { t with stage := .statusBelow sw })).present .passThrough (sideRead t p 0 below)

/-- STATUS_WORD (R8, R172). -/
def execStatusWord (s : State) : Out := s.onFront (· == .statusRead) fun t p => s.statusPiece t p

end Sys2Proof.Machine
end

