-- ==== Sys2Proof/Machine/Bridge.lean ====
section
/-! DEFINITION. The Port Bridge: acceptance, pass-through and the arbiter (ch. 1). -/

namespace Sys2Proof.Machine

/-- A transaction is accepted: its class is looked up once, and the treatment of its pieces begins
(R3, R4, R5). -/
def State.accept (s : State) (b : Burst) : State :=
  s.settle
    { burst := b, cls := s.bridge.classes[b.tag], pieces := s.cut b 0 b.len, stage := .untreated,
      words := [], error := false }

/-- TRANSACTION_ACCEPT: taken when no transaction is in treatment; else it is the port stall (R4). A term
that is no burst of the port's form is refused (log entry 14). -/
def execTransactionAccept (b : Burst) (s : State) : Out :=
  if b.wf then s.whenAwake (if s.bridge.txn.isNone then s.accept b else s) else .refused .notABurst

/-- A piece that passes is presented; a piece that the guard discards by now is discarded (R7, R11). -/
def State.passOrEnd (s : State) (t : Txn) (p : Piece) : State :=
  if s.treatment t p = .pass then s.passPiece t p (wordAddr t.burst p.first) false
  else s.settle t

/-- PASS_THROUGH_PIECE (R7, R11, R12). -/
def execPassThroughPiece (s : State) : Out :=
  s.onFront (fun tr => tr == .pass || tr == .discard || tr == .beyond) fun t p => s.passOrEnd t p

/-- The answer to a pass-through transaction: it becomes the piece's answer, or the answer of one side of
the status word, after the lower of which the upper is read in any case (log entry 25); a written-through final
chroma word records the chroma half (R8, R15, R26). -/
def State.passAnswer (s : State) (a : Answer) : State :=
  match s.bridge.txn with
  | some t =>
    match t.stage, t.pieces with
    | .passing chromaFinal, _ =>
      (if chromaFinal then s.recordChroma else s).finishPiece a.words a.error
    | .statusBelow sw, p :: _ => s.statusUpper t p (a.words ++ [sw]) a.error
    | .statusAbove got error, _ => s.finishPiece (got ++ a.words) (error || a.error)
    | _, _ => s
  | none => s

/-- PASS_THROUGH_ANSWER (R15). -/
def execPassThroughAnswer (a : Answer) (s : State) : Out :=
  s.onAnswer (· == .passThrough) a fun _ s' => s'.passAnswer a

/-- The port is granted to a requester with its request (R14). -/
def MemoryPort.grant (p : MemoryPort) (q : Requester) (r : Request) : MemoryPort :=
  { p.put q none with granted := some { request := r, live := true } }

/-- MEMORY_PORT_GRANT: a free port goes to the first waiting requester in the fixed order (R14). -/
def execMemoryPortGrant (s : State) : Out :=
  s.whenAwake
    (if s.port.granted.isNone then
      match s.port.firstWaiting with
      | some (q, r) => s.setPort (s.port.grant q r)
      | none => s
    else s)

end Sys2Proof.Machine
end

