-- ==== Sys2Proof/Machine/Composer.lean ====
section
/-! DEFINITION. The View Composer: the view latch (R64 to R73), the composed pixels (R74 to R78) and the
answering of a display piece (R79 to R81). -/

namespace Sys2Proof.Machine

/-! ## Fitting the source to the view (R71 to R73) -/

/-- The fit step σ0 (R72). -/
def fitStep (ws hs : Nat) (v : ViewSet) : Nat := max (ws * 65536 / v.wv) (hs * 65536 / v.hv)

/-- The zoom step σ (R72). -/
def zoomStepOf (fit z : Nat) : Nat := fit * 64 / z

/-- The origin along one axis: pan centre, step, view size, source size (R73). -/
def originOf (centre step view source : Nat) : Int :=
  if step * view ≤ source * 65536 then
    let room : Int := ((source * 65536 : Nat) : Int) - ((step * view : Nat) : Int)
    let o : Int := ((min centre (source - 1) * 65536 : Nat) : Int) - ((step * view / 2 : Nat) : Int)
    if o < 0 then 0 else if room < o then room else o
  else (((source * 65536 : Nat) : Int) - ((step * view : Nat) : Int)).fdiv 2

/-! ## The latch (R66 to R69) -/

/-- The view set a latch takes: everything from the staged set at a frame-start latch, all but the view
geometry at a catch-up latch (R66). -/
def latchSet (old staged : ViewSet) (frameStart : Bool) : ViewSet :=
  if frameStart then staged else { staged with wv := old.wv, hv := old.hv }

/-- The latch of a source of this geometry under a context (R67 steps 4 to 6). -/
def latchOf (v : ViewSet) (c : ViewContext) (src : LatchSource) (ws hs : Nat) : ViewLatch :=
  let step := zoomStepOf (fitStep ws hs v) c.z
  { latched := true, source := src, ws := ws, hs := hs, step := step,
    ox := originOf c.cx step v.wv ws, oy := originOf c.cy step v.hv hs, set := v }

/-- The latch of source NONE; its unused numbers are 0 (R71; log entry 15). -/
def latchNone (v : ViewSet) : ViewLatch :=
  { latched := true, source := .none, ws := 0, hs := 0, step := 0, ox := 0, oy := 0, set := v }

/-- The latch is replaced. -/
def State.setLatch (s : State) (l : ViewLatch) : State := s.setComp { s.comp with latch := l }

/-- The latch on a slot just taken, with its hold (R68). -/
def State.latchSlot (s : State) (v : ViewSet) (c : ViewContext) (i : Fin 3) : State :=
  (s.takeHold i).setLatch
    (latchOf v c (.slot i (s.slotRec i).gen (s.slotBase i)) (s.slotRec i).wc (s.slotRec i).hc)

/-- A latch is taken: the old hold is released and the new source taken in one exchange, and the source
resolved (R67 to R69). -/
def State.takeLatch (s : State) (frameStart : Bool) : State :=
  let v := latchSet s.comp.latch.set s.comp.staged frameStart
  let c := s.view.current
  let s1 := s.releaseOpt s.comp.latch.held
  match c.source with
  | .live =>
    match s1.newest with
    | some i => s1.latchSlot v c i
    | none => s1.setLatch (latchNone v)
  | .frozen i gen => if s1.canTake i gen then s1.latchSlot v c i else s1.setLatch (latchNone v)
  | .page part =>
    s1.setLatch
      (latchOf v c (.page part.offset (s1.store.base + part.offset + 32)) part.w part.h)
  | .blank => s1.setLatch (latchNone v)

/-! ## Composed pixels (R74 to R78) -/

/-- The source base of a latch (R71). -/
def ViewLatch.base (l : ViewLatch) : Nat :=
  match l.source with
  | .slot _ _ b => b
  | .page _ payload => payload
  | .none => 0

/-- Where view column `x` lies in the source, in 16.16 (ch. 5.2). -/
def ViewLatch.sx (l : ViewLatch) (x : Nat) : Int := l.ox + ((x * l.step : Nat) : Int)

/-- Where view row `y` lies in the source, in 16.16 (ch. 5.2). -/
def ViewLatch.sy (l : ViewLatch) (y : Nat) : Int := l.oy + ((y * l.step : Nat) : Int)

/-- A view pixel is a border pixel (R75). -/
def ViewLatch.isBorder (l : ViewLatch) (x y : Nat) : Bool :=
  l.source == .none || decide (l.sx x < 0) || decide (l.sy y < 0)
    || decide (l.ws ≤ (l.sx x).toNat / 65536) || decide (l.hs ≤ (l.sy y).toNat / 65536)

/-- The mix of two neighbours by a fraction of 256, halves upward (R76). -/
def mix (a b f : Nat) : Nat := (a * (256 - f) + b * f + 128) / 256

/-- The four source columns and rows and the fractions of a luma pixel (R76 steps 1 and 2). -/
structure LumaPoint where
  i : Nat
  i1 : Nat
  j : Nat
  j1 : Nat
  fx : Nat
  fy : Nat
deriving DecidableEq, Repr

/-- The luma point of a view pixel that is not a border pixel (R76). -/
def ViewLatch.lumaPoint (l : ViewLatch) (x y : Nat) : LumaPoint :=
  let sx := (l.sx x).toNat
  let sy := (l.sy y).toNat
  { i := sx / 65536, i1 := min (sx / 65536 + 1) (l.ws - 1), j := sy / 65536,
    j1 := min (sy / 65536 + 1) (l.hs - 1), fx := sx % 65536 / 256, fy := sy % 65536 / 256 }

/-- The composed luma of a pixel from its four source bytes: upper left, upper right, lower left, lower
right (R76 steps 3 to 5). -/
def bilinear (q : LumaPoint) (p00 p10 p01 p11 : Nat) : Nat :=
  mix (mix p00 p10 q.fx) (mix p01 p11 q.fx) q.fy

/-- A source byte that a view byte needs: the address of the source row it lies in, and its own
address. -/
structure NeedByte where
  row : Nat
  addr : Nat
deriving DecidableEq, Repr

/-- The source luma byte P(i, j) (R71). -/
def ViewLatch.lumaByte (l : ViewLatch) (i j : Nat) : NeedByte :=
  let row := l.base + j * l.ws
  { row := row, addr := row + i }

/-- The nearest source column or row of a coordinate, halves upward, clamped (R77). -/
def nearest (c : Int) (size : Nat) : Nat := min ((c + 32768).toNat / 65536) (size - 1)

/-- The Cb (`odd` false) or Cr byte of the nearest source pair of view pair n of line y (R71, R77). -/
def ViewLatch.chromaByte (l : ViewLatch) (n y : Nat) (odd : Bool) : NeedByte :=
  let pair := nearest (l.sx (2 * n)) l.ws / 2
  let row := l.base + l.ws * l.hs + nearest (l.sy y) l.hs * l.ws
  { row := row, addr := row + 2 * pair + (if odd then 1 else 0) }

/-- What a byte of the view window shows: a luma pixel, or the Cb or Cr of a pair (R74). -/
inductive ViewByte where
  | luma (x y : Nat)
  | chroma (n y : Nat) (odd : Bool)
deriving DecidableEq, Repr

/-- The view position of the byte at offset `o` of the view window (R74). -/
def ViewLatch.viewByte (l : ViewLatch) (o : Nat) : ViewByte :=
  let plane := l.set.wv * l.set.hv
  if o < plane then .luma (o % l.set.wv) (o / l.set.wv)
  else
    let c := o - plane
    .chroma (c % l.set.wv / 2) (c / l.set.wv) (c % 2 == 1)

/-- The key of a view byte's plane (R78). -/
def ViewLatch.key (l : ViewLatch) : ViewByte → Byte
  | .luma _ _ => l.set.kl
  | .chroma _ _ _ => l.set.kc

/-- The border component of a view byte (R75, R78). -/
def ViewLatch.border (l : ViewLatch) : ViewByte → Byte
  | .luma _ _ => l.set.borderY
  | .chroma _ _ odd => if odd then l.set.borderCr else l.set.borderCb

/-- Whether a view byte is of a border pixel or of a pair whose left pixel is one (R75, R77). -/
def ViewLatch.borderByte (l : ViewLatch) : ViewByte → Bool
  | .luma x y => l.isBorder x y
  | .chroma n y _ => l.isBorder (2 * n) y

/-- The source bytes that a view byte which is not border needs (R76, R77). -/
def ViewLatch.needs (l : ViewLatch) : ViewByte → List NeedByte
  | .luma x y =>
    let q := l.lumaPoint x y
    [l.lumaByte q.i q.j, l.lumaByte q.i1 q.j, l.lumaByte q.i q.j1, l.lumaByte q.i1 q.j1]
  | .chroma n y odd => [l.chromaByte n y odd]

/-- The composed byte from the source bytes in the order of `needs` (R76, R77). -/
def ViewLatch.compose (l : ViewLatch) (v : ViewByte) (src : List Byte) : Byte :=
  match v with
  | .luma x y =>
    BitVec.ofNat 8
      (bilinear (l.lumaPoint x y) (src.getD 0 0).toNat (src.getD 1 0).toNat (src.getD 2 0).toNat
        (src.getD 3 0).toNat)
  | .chroma _ _ _ => src.getD 0 0

/-! ## The source fetches (R79, R80) -/

/-- A stored byte with the view position it stands at. -/
structure Placed where
  byte : Byte
  pos : ViewByte
deriving DecidableEq, Repr

/-- The stored bytes of a piece at window offset `o` with their view positions (R74). -/
def ViewLatch.placed (l : ViewLatch) (o : Nat) (stored : List Word) : List Placed :=
  (bytesOfWords stored).zipIdx.map fun bi => { byte := bi.1, pos := l.viewByte (o + bi.2) }

/-- A stored byte is keyed (R78). -/
def ViewLatch.keyed (l : ViewLatch) (p : Placed) : Bool := p.byte == l.key p.pos

/-- The source bytes a piece needs (R79 step 3). -/
def ViewLatch.pieceNeeds (l : ViewLatch) (ps : List Placed) : List NeedByte :=
  ps.flatMap fun p => if l.keyed p && !l.borderByte p.pos then l.needs p.pos else []

/-- The lowest and highest needed address of a source row. -/
structure RowSpan where
  row : Nat
  lo : Nat
  hi : Nat
deriving DecidableEq, Repr

/-- A needed byte added to the spans of its rows, which are kept in ascending order (R80). -/
def addNeed (b : NeedByte) : List RowSpan → List RowSpan
  | [] => [{ row := b.row, lo := b.addr, hi := b.addr }]
  | r :: rs =>
    if b.row = r.row then { r with lo := min r.lo b.addr, hi := max r.hi b.addr } :: rs
    else if b.row < r.row then { row := b.row, lo := b.addr, hi := b.addr } :: r :: rs
    else r :: addNeed b rs

/-- The fetches of a row span: from the word of its lowest byte to the word of its highest (R80). -/
def RowSpan.fetches (r : RowSpan) : List (Nat × Nat) :=
  chunks (r.lo / 4 * 4) (r.hi / 4 - r.lo / 4 + 1)

/-- The source fetches of the needed bytes, row by row in ascending order (R80). -/
def fetchList (needs : List NeedByte) : List (Nat × Nat) :=
  (needs.foldl (fun rs b => addNeed b rs) []).flatMap RowSpan.fetches

/-- The words of an answered fetch by address; none for each word of a failed one (R81). -/
def gotWords (addr n : Nat) (a : Answer) : List (Nat × Option Word) :=
  (List.range n).map fun i => (addr + 4 * i, if a.error then none else some (wordAt a.words i))

/-- A fetched byte, none when its word failed or was not fetched. -/
def fetchedByte (got : List (Nat × Option Word)) (addr : Nat) : Option Byte :=
  match got.lookup (addr / 4 * 4) with
  | some (some w) => some (byteAt w (addr % 4))
  | _ => none

/-- All the source bytes of a view byte, none when one of them failed. -/
def fetchedAll (got : List (Nat × Option Word)) : List NeedByte → Option (List Byte)
  | [] => some []
  | n :: ns =>
    match fetchedByte got n.addr, fetchedAll got ns with
    | some b, some bs => some (b :: bs)
    | _, _ => none

/-- A byte of the answer (R78, R81): the stored byte where it is not keyed; else border or composed, with
border where a needed byte failed. -/
def ViewLatch.answerByte (l : ViewLatch) (got : List (Nat × Option Word)) (p : Placed) : Byte :=
  if l.keyed p then
    if l.borderByte p.pos then l.border p.pos
    else
      match fetchedAll got (l.needs p.pos) with
      | some bs => l.compose p.pos bs
      | none => l.border p.pos
  else p.byte

/-- The words of a piece's answer (R79 step 5). -/
def ViewLatch.answerWords (l : ViewLatch) (o : Nat) (stored : List Word)
    (got : List (Nat × Option Word)) : List Word :=
  wordsOfBytes ((l.placed o stored).map (l.answerByte got))

/-! ## A display piece (R79) -/

/-- A piece starts a view frame: its first word is the first word of the view luma plane (R66). -/
def State.startsViewFrame (s : State) (t : Txn) (p : Piece) : Bool :=
  wordAddr t.burst p.first == s.bridge.regions.viewBase

/-- Steps 1 and 2 of R79: the latch when one is due, then the read of the stored bytes. -/
def State.displayPiece (s : State) (t : Txn) (p : Piece) : State :=
  let start := s.startsViewFrame t p
  let s1 := if start || !s.comp.latch.latched then s.takeLatch start else s
  (s1.setTxn (some { t with stage := .stored })).present .composerStored
    (ownRead (wordAddr t.burst p.first) p.len)

/-- The window offset of a piece. -/
def State.windowOffset (s : State) (t : Txn) (p : Piece) : Nat :=
  wordAddr t.burst p.first - s.bridge.regions.viewBase

/-- The source fetches left go on, or the piece is answered (R79 steps 4 and 5). -/
def State.fetchFrom (s : State) (t : Txn) (p : Piece) (stored : List Word) (todo : List (Nat × Nat))
    (got : List (Nat × Option Word)) : State :=
  match todo with
  | (addr, n) :: _ =>
    (s.setTxn (some { t with stage := .fetching stored todo got })).present .composerSource
      (ownRead addr n)
  | [] => s.finishPiece (s.comp.latch.answerWords (s.windowOffset t p) stored got) false

/-- The answer to the read of the stored bytes (R79 steps 2 to 4). -/
def State.storedAnswer (s : State) (t : Txn) (p : Piece) (a : Answer) : State :=
  if a.error then s.finishPiece a.words true
  else
    let l := s.comp.latch
    s.fetchFrom t p a.words
      (fetchList (l.pieceNeeds (l.placed (s.windowOffset t p) a.words))) []

/-- The answer to a source fetch: a failed one is counted once and its words are not used (R81). -/
def State.sourceAnswer (s : State) (t : Txn) (p : Piece) (stored : List Word)
    (todo : List (Nat × Nat)) (got : List (Nat × Option Word)) (a : Answer) : State :=
  match todo with
  | (addr, n) :: rest =>
    let s1 := if a.error then s.setComp { s.comp with errors := s.comp.errors + 1 } else s
    s1.fetchFrom t p stored rest (got ++ gotWords addr n a)
  | [] => s

/-- The answer to a composer fetch, stored bytes or source bytes (R79, R81). -/
def State.composerAnswer (s : State) (a : Answer) : State :=
  match s.bridge.txn with
  | some t =>
    match t.stage, t.pieces with
    | .stored, p :: _ => s.storedAnswer t p a
    | .fetching stored todo got, p :: _ => s.sourceAnswer t p stored todo got a
    | _, _ => s
  | none => s

/-! ## The meanings -/

/-- DISPLAY_READ_PIECE (R79). -/
def execDisplayReadPiece (s : State) : Out :=
  s.onFront (· == .displayRead) fun t p => s.displayPiece t p

/-- COMPOSER_FETCH_ANSWER (R79 to R81). -/
def execComposerFetchAnswer (a : Answer) (s : State) : Out :=
  s.onAnswer (fun p => p == .composerStored || p == .composerSource) a fun _ s' => s'.composerAnswer a

end Sys2Proof.Machine
end

