-- ==== Sys2Proof/Machine/Setup.lean ====
section
/-! DEFINITION. Setup: the SETUP command in BYPASS and in RUN (R157 to R159), the reload after reset
(R160), and reset (R162). -/

namespace Sys2Proof.Machine

/-! ## Applying a block -/

/-- The view set of a block (R65). -/
def SetupBlock.viewSet (b : SetupBlock) : ViewSet :=
  { wv := b.wv, hv := b.hv, kl := b.kl, kc := b.kc, borderY := b.borderY, borderCb := b.borderCb,
    borderCr := b.borderCr }

/-- The store region and margin of a block (R99, R104). -/
def SetupBlock.regionChange (b : SetupBlock) : RegionChange :=
  { base := b.storeBase, limit := b.storeLimit, margin := b.margin }

/-- The fixed regions of a block (R2). -/
def SetupBlock.regions (b : SetupBlock) : Regions :=
  { apertureBase := b.apertureBase, slotSize := b.slotSize, slotBase := b.slotBase,
    viewBase := b.viewBase }

/-- A valid block applied in BYPASS, in one change: the part enters RUN and the mount scan of the store
starts (R1, R54, R65, R139, R157). -/
def State.applyBypass (s : State) (b : SetupBlock) : State :=
  let s1 := s.setBridge
    { s.bridge with run := .run, regions := b.regions, classes := b.classes }
  let s2 := s1.setSlots { s1.slots with wc := b.wc, hc := b.hc }
  let s3 := s2.setEnh { s2.enh with force := putInForce b.t b.g b.b b.wp b.auto b.a }
  let s4 := s3.setComp
    { s3.comp with staged := b.viewSet, latch := { s3.comp.latch with set := b.viewSet } }
  let s5 := s4.setTimer
    { s4.timer with interval := b.interval, reference := s4.timer.localTime, signal := true }
  let s6 := s5.setCu { s5.cu with msgAddr := b.msgAddr }
  s6.startScan b.regionChange

/-- The first of the locked fields 4, 5, 6, 7, 8 and 11 that differs from the value in force (R158). -/
def State.lockedField (s : State) (b : SetupBlock) : Option Nat :=
  let r := s.bridge.regions
  if b.slotSize ≠ r.slotSize then some 4
  else if b.apertureBase ≠ r.apertureBase then some 5
  else if b.slotBase[0] ≠ r.slotBase[0] then some 6
  else if b.slotBase[1] ≠ r.slotBase[1] then some 7
  else if b.slotBase[2] ≠ r.slotBase[2] then some 8
  else if b.viewBase ≠ r.viewBase then some 11
  else none

/-- The store region that a block's is compared with: the waiting change's, else the one in force
(R158, R159). -/
def State.storeTarget (s : State) : Nat × Nat :=
  match s.store.deferred with
  | some c => (c.base, c.limit)
  | none => (s.store.base, s.store.limit)

/-- A block changes the store region (R158, R159). -/
def State.storeChanged (s : State) (b : SetupBlock) : Bool :=
  (b.storeBase, b.storeLimit) != s.storeTarget

/-- The first of the fields 5, 11, 13 and 15 whose region overlaps a region in force that stands beside it
for a time (R158). -/
def State.clashField (s : State) (b : SetupBlock) : Option Nat :=
  if b.aperture.overlaps s.storeSpan then some 5
  else if b.window.overlaps s.storeSpan then some 11
  else if s.storeChanged b && (b.store.overlaps s.apertureSpan || b.store.overlaps s.windowSpan) then
    some 13
  else if b.message.overlaps s.apertureSpan || b.message.overlaps s.windowSpan
      || b.message.overlaps s.storeSpan then some 15
  else none

/-- The values of a block that R158 takes without waiting for the store: the pending set, the staged view
set, the class table, the watch interval and the message buffer address. -/
def State.takeRun (s : State) (b : SetupBlock) : State :=
  let s1 := s.setSlots
    { s.slots with
      staged := some
        { wc := b.wc, hc := b.hc, t := b.t, g := b.g, b := b.b, wp := b.wp, auto := b.auto, a := b.a } }
  let s2 := s1.setComp { s1.comp with staged := b.viewSet }
  let s3 := s2.setBridge { s2.bridge with classes := b.classes }
  let s4 := s3.setTimer { s3.timer with interval := b.interval }
  s4.setCu { s4.cu with msgAddr := b.msgAddr }

/-- The margin of a block that changes no region: in force at once, or the waiting change's
(R158, R159). -/
def Store.takeMargin (t : Store) (m : Nat) : Store :=
  match t.deferred with
  | some c => { t with deferred := some { c with margin := m } }
  | none => { t with margin := m }

/-- A valid block in RUN: refused, or applied in one change; a new store region starts its scan when the
engines are idle and waits otherwise (R158, R159). -/
def State.applyRun (s : State) (b : SetupBlock) : State :=
  match s.lockedField b with
  | some n => s.complete { cls := .refused, reason := .regionsLocked, arg := toWord n, residual := 0 }
  | none =>
    match s.clashField b with
    | some n => s.complete { cls := .refused, reason := .regionsLocked, arg := toWord n, residual := 0 }
    | none =>
      if s.storeChanged b && s.view.current.pageFrom 0 then s.complete (Result.refuse .pageInUse)
      else
        let s1 := s.takeRun b
        if !s.storeChanged b then
          (s1.setStore (s1.store.takeMargin b.margin)).complete (Result.done 0)
        else if s.enginesIdle then (s1.setCmdStage .setupScan).startScan b.regionChange
        else
          (s1.setStore { s1.store with deferred := some b.regionChange }).setCmdStage .setupWait

/-- A block read whole is validated and applied by the run state (R156 to R158). -/
def State.judgeSetup (s : State) (ws : List Word) : State :=
  match validateSetup (ctrlSpan s.bridge.straps) ws with
  | some n => s.complete { cls := .refused, reason := .setupInvalid, arg := toWord n, residual := 0 }
  | none =>
    match s.bridge.run with
    | .bypass => (s.setCmdStage .setupScan).applyBypass (SetupBlock.ofWords ws)
    | .run => s.applyRun (SetupBlock.ofWords ws)

/-! ## The SETUP command -/

/-- A block at an address would run above the top of memory (R157). -/
def blockBeyond (addr : Nat) : Bool := decide (memoryTop < addr + 64)

/-- SETUP carried out: the first half of its block is read (R157). A block that would run above the top
is not read (log entry 8). -/
def State.runSetup (s : State) (pkt : Packet) : State :=
  let addr := wordAligned pkt.p1
  if blockBeyond addr then s.complete Result.retry
  else (s.setCmdStage (.setupRead addr [])).presentCommand .setupBlock (ownRead addr 8)

/-- The answer to a setup block read (R157). -/
def State.setupRead (s : State) (a : Answer) : State :=
  match s.cu.cmd with
  | some c =>
    match c.stage with
    | .setupRead addr got =>
      if a.error then s.complete Result.retry
      else if got.isEmpty then
        (s.setCmdStage (.setupRead addr a.words)).presentCommand .setupBlock (ownRead (addr + 32) 8)
      else s.judgeSetup (got ++ a.words)
    | _ => s
  | none => s

/-! ## Reload and reset -/

/-- The reload ends INVALID (R160). -/
def State.reloadInvalid (s : State) : State :=
  s.setCu { s.cu with reload := none, reloadResult := .invalid }

/-- The reload goes on with a read of 8 words (R160 step 2). -/
def State.reloadBlock (s : State) (addr : Nat) (got : List Word) (from_ : Nat) : State :=
  (s.setCu { s.cu with reload := some (.block addr got) }).present .reloadRead (ownRead from_ 8)

/-- The answer to a reload read (R160). -/
def State.reloadRead (s : State) (a : Answer) : State :=
  match s.cu.reload with
  | some .pointer =>
    if a.error then s.reloadInvalid
    else
      let addr := wordAligned (wordAt a.words 0)
      if blockBeyond addr then s.reloadInvalid else s.reloadBlock addr [] addr
  | some (.block addr got) =>
    if a.error then s.reloadInvalid
    else if got.isEmpty then s.reloadBlock addr a.words (addr + 32)
    else
      let ws := got ++ a.words
      match validateSetup (ctrlSpan s.bridge.straps) ws with
      | some _ => s.reloadInvalid
      | none =>
        (s.setCu { s.cu with reload := some .scan }).applyBypass (SetupBlock.ofWords ws)
  | _ => s

/-- The rise of RESET_N: the straps are sampled, the control page and the message buffer take their places,
and the reload reads the setup pointer, word 3 of the control page (R2, R160, R162). -/
def State.riseReset (s : State) (straps : BitVec 2) : State :=
  let s1 := (s.setResetN true).setBridge { s.bridge with straps := straps }
  let s2 := s1.setCu
    { s1.cu with msgAddr := resetMsgAddr straps, reloadResult := .none, reload := some .pointer }
  s2.present .reloadRead (ownRead (ctrlBaseOf straps + 12) 1)

/-! ## The meanings -/

/-- RESET_N_FALL: every block drops its work, transactions in flight are dropped and all state returns to
its reset values (R4, R34, R162). The queue of waiting commands is the world's, not the part's. -/
def execResetNFall (s : State) : Out :=
  if s.resetN then .next (State.reset.setPending s.pending) else .next s

/-- RESET_N_RISE (R160). -/
def execResetNRise (straps : BitVec 2) (s : State) : Out :=
  if s.resetN then .next s else .next (s.riseReset straps)

/-- RELOAD_READ_ANSWER (R160). -/
def execReloadReadAnswer (a : Answer) (s : State) : Out :=
  s.onAnswer (· == .reloadRead) a fun _ s' => s'.reloadRead a

/-- SETUP (R157). -/
def execSetup (s : State) : Out := s.onCommand 1 fun p => s.runSetup p

/-- SETUP_BLOCK_READ_ANSWER (R156 to R158). -/
def execSetupBlockReadAnswer (a : Answer) (s : State) : Out :=
  s.onAnswer (· == .setupBlock) a fun _ s' => s'.setupRead a

end Sys2Proof.Machine
end

