-- ==== Sys2Proof/Machine/Dispatch.lean ====
section
/-! DEFINITION. The meaning of every command, one arm a row of spec/opcode_table.json. -/

namespace Sys2Proof.Machine

def exec (i : Instr) (s : State) : Host.Outcome State Fault Refusal :=
  match i with
  | .resetNFall => Sys2Proof.Machine.execResetNFall s
  | .resetNRise straps => Sys2Proof.Machine.execResetNRise straps s
  | .reloadReadAnswer a => Sys2Proof.Machine.execReloadReadAnswer a s
  | .transactionAccept b => Sys2Proof.Machine.execTransactionAccept b s
  | .passThroughPiece => Sys2Proof.Machine.execPassThroughPiece s
  | .passThroughAnswer a => Sys2Proof.Machine.execPassThroughAnswer a s
  | .controlPageWrite => Sys2Proof.Machine.execControlPageWrite s
  | .openControl => Sys2Proof.Machine.execOpenControl s
  | .closeControl => Sys2Proof.Machine.execCloseControl s
  | .restart => Sys2Proof.Machine.execRestart s
  | .commandPointer => Sys2Proof.Machine.execCommandPointer s
  | .statusWord => Sys2Proof.Machine.execStatusWord s
  | .captureLumaPiece => Sys2Proof.Machine.execCaptureLumaPiece s
  | .heldPieceResume => Sys2Proof.Machine.execHeldPieceResume s
  | .captureChromaPiece => Sys2Proof.Machine.execCaptureChromaPiece s
  | .apertureReadPiece => Sys2Proof.Machine.execApertureReadPiece s
  | .displayReadPiece => Sys2Proof.Machine.execDisplayReadPiece s
  | .composerFetchAnswer a => Sys2Proof.Machine.execComposerFetchAnswer a s
  | .memoryPortGrant => Sys2Proof.Machine.execMemoryPortGrant s
  | .emission => Sys2Proof.Machine.execEmission s
  | .lineWriteAnswer a => Sys2Proof.Machine.execLineWriteAnswer a s
  | .packetFetch a => Sys2Proof.Machine.execPacketFetch a s
  | .setup => Sys2Proof.Machine.execSetup s
  | .setupBlockReadAnswer a => Sys2Proof.Machine.execSetupBlockReadAnswer a s
  | .mountScanReadAnswer a => Sys2Proof.Machine.execMountScanReadAnswer a s
  | .deferredMountScan => Sys2Proof.Machine.execDeferredMountScan s
  | .status => Sys2Proof.Machine.execStatus s
  | .statusClear => Sys2Proof.Machine.execStatusClear s
  | .view => Sys2Proof.Machine.execView s
  | .viewPush => Sys2Proof.Machine.execViewPush s
  | .viewPop => Sys2Proof.Machine.execViewPop s
  | .viewPageHeaderRead a => Sys2Proof.Machine.execViewPageHeaderRead a s
  | .viewPopHeaderRead a => Sys2Proof.Machine.execViewPopHeaderRead a s
  | .record => Sys2Proof.Machine.execRecord s
  | .mark => Sys2Proof.Machine.execMark s
  | .copyTransactionAnswer a => Sys2Proof.Machine.execCopyTransactionAnswer a s
  | .commit a => Sys2Proof.Machine.execCommit a s
  | .storeClear => Sys2Proof.Machine.execStoreClear s
  | .storeClearWriteAnswer a => Sys2Proof.Machine.execStoreClearWriteAnswer a s
  | .storeProtect => Sys2Proof.Machine.execStoreProtect s
  | .stepFwd => Sys2Proof.Machine.execStepFwd s
  | .stepRev => Sys2Proof.Machine.execStepRev s
  | .skipFwd => Sys2Proof.Machine.execSkipFwd s
  | .skipRev => Sys2Proof.Machine.execSkipRev s
  | .rewind => Sys2Proof.Machine.execRewind s
  | .toEnd => Sys2Proof.Machine.execToEnd s
  | .traversalReadAnswer a => Sys2Proof.Machine.execTraversalReadAnswer a s
  | .advanceReadAnswer a => Sys2Proof.Machine.execAdvanceReadAnswer a s
  | .triggers => Sys2Proof.Machine.execTriggers s
  | .triggerListReadAnswer a => Sys2Proof.Machine.execTriggerListReadAnswer a s
  | .watchExpiry => Sys2Proof.Machine.execWatchExpiry s
  | .messageWriteAnswer a => Sys2Proof.Machine.execMessageWriteAnswer a s
  | .noticeWriteAnswer a => Sys2Proof.Machine.execNoticeWriteAnswer a s
  | .localTimeAdvance => Sys2Proof.Machine.execLocalTimeAdvance s

end Sys2Proof.Machine
end

