-- ==== Sys2Proof/Safety.lean ====
section
/-! DEFINITION. The terms that claims are stated in: frames, the reporting of an outcome, and the invariants
of the part. -/

namespace Sys2Proof.Machine

/-! ## Frames -/

/-- The parts of the state, one a block, with the level of RESET_N and the queue. -/
inductive Block where
  | resetN
  | bridge
  | port
  | asm
  | slots
  | enh
  | comp
  | view
  | store
  | timer
  | cu
  | pending
deriving DecidableEq, Repr

/-- A block is the same in two states. -/
def Block.same (b : Block) (s t : State) : Prop :=
  match b with
  | .resetN => t.resetN = s.resetN
  | .bridge => t.bridge = s.bridge
  | .port => t.port = s.port
  | .asm => t.asm = s.asm
  | .slots => t.slots = s.slots
  | .enh => t.enh = s.enh
  | .comp => t.comp = s.comp
  | .view => t.view = s.view
  | .store => t.store = s.store
  | .timer => t.timer = s.timer
  | .cu => t.cu = s.cu
  | .pending => t.pending = s.pending

/-- No block outside the list differs: the frame of a command. -/
def OnlyChanges (bs : List Block) (s t : State) : Prop := ∀ b, b ∉ bs → b.same s t

/-! ## Transactions and outcomes -/

/-- A transaction is newly presented by its requester, and nothing else at the memory port differs
(R14). -/
def Presents (s t : State) (p : Purpose) (b : Burst) : Prop :=
  t.port = s.port.put p.requester (some { purpose := p, burst := b })

/-- A transaction of the command in progress is presented, or waits behind the NOTICE write in flight; no
other item of the Command Unit differs but the command (R14, R170). -/
def CommandPresents (s t : State) (p : Purpose) (b : Burst) : Prop :=
  if s.cu.notice.isSome then
    t.port = s.port
      ∧ t.cu = { s.cu with cmd := t.cu.cmd, held := some { purpose := p, burst := b } }
  else Presents s t p b ∧ t.cu = { s.cu with cmd := t.cu.cmd }

/-- The message of an outcome of a command whose packet was read, from the state `t` as it stands
(R165 step 1, R166). -/
def replyOf (t : State) (p : Packet) (o : Result) (report : Bool) : MessageWrite :=
  { addr := t.cu.msgAddr, words := t.messageWords o p.code p.ie p.release report, second := false }

/-- The command in progress, of packet `p`, has reached its completion event with an outcome: its message
is assembled from the state as the command leaves it, and its upper half is presented (R164, R165). -/
def Completed (s t : State) (p : Packet) (o : Result) : Prop :=
  t.cu.cmd = some { packet := some p, stage := .message (replyOf t p o false) o.cls o.reason }
    ∧ CommandPresents s t .message (replyOf t p o false).upper

/-- The same for a command whose packet was not read: code echo 0 and both flags clear (R165). -/
def CompletedUnread (s t : State) (o : Result) : Prop :=
  let w : MessageWrite :=
    { addr := t.cu.msgAddr, words := t.messageWords o 0 false false false, second := false }
  t.cu.cmd = some { packet := none, stage := .message w o.cls o.reason }
    ∧ CommandPresents s t .message w.upper

/-- An answer of the granted transaction of a purpose, which its requester still wants (R14). -/
def State.answerable (s : State) (p : Purpose) (a : Answer) : Prop :=
  ∃ b, s.port.granted = some { request := { purpose := p, burst := b }, live := true }
    ∧ answerFits a b = true

/-- The memory port with nothing granted. -/
def State.portFreed (s : State) : State := s.setPort { s.port with granted := none }

/-! ## Setup and reload (R1, R30, R160) -/

/-- The reload is reading the setup pointer or the setup block (R160 steps 1 and 2). -/
def State.reloadReads (s : State) : Bool :=
  match s.cu.reload with
  | some .pointer => true
  | some (.block _ _) => true
  | _ => false

/-- While RESET_N is low the part is in BYPASS with no command in progress; while the reload is in progress its
result is NONE and no command is taken; while it reads, the part is in BYPASS; and in BYPASS no capture set is
pending (R1, R30, R153, R160, R162). -/
def SetupInv (s : State) : Prop :=
  (s.resetN = false → s.bridge.run = .bypass ∧ s.cu.cmd = none)
    ∧ (s.cu.reload ≠ none → s.cu.reloadResult = .none ∧ s.cu.cmd = none)
    ∧ (s.reloadReads = true → s.bridge.run = .bypass)
    ∧ (s.bridge.run = .bypass → s.slots.staged = none)

/-! ## Holds (R16, R17, R19) -/

/-- One if the holder holds the slot. -/
def holdsSlot (h : Option (Fin 3)) (i : Fin 3) : Nat := if h = some i then 1 else 0

/-- The pin of the copy engine. -/
def State.pin (s : State) : Option (Fin 3) := s.store.copy.bind CopyOp.pin

/-- The number of holders of a slot: the composer latch, the current view context, the stack entries and
the copy pin (R19, ch. 2.2). -/
def State.holders (s : State) (i : Fin 3) : Nat :=
  holdsSlot s.comp.latch.held i + holdsSlot s.view.current.held i
    + (s.view.stack.map fun e => holdsSlot e.held i).sum + holdsSlot s.pin i

/-- The hold count of each slot is the number of its holders; holders hold COMPLETE slots alone; and a slot
is FILLING exactly when the frame in progress fills it (R17, R19). -/
def HoldsInv (s : State) : Prop :=
  ∀ i : Fin 3,
    (s.slotRec i).hold = s.holders i
      ∧ ((s.slotRec i).state ≠ .complete → (s.slotRec i).hold = 0)
      ∧ ((s.slotRec i).state = .filling ↔ s.asm.slot = some i)

/-! ## View contexts (R83) -/

/-- The ranges of a view context (R83). -/
def ViewContext.inRange (c : ViewContext) : Prop :=
  64 ≤ c.z ∧ c.z ≤ 1024 ∧ 64 ≤ c.zt ∧ c.zt ≤ 1024 ∧ c.cx ≤ 4095 ∧ c.cy ≤ 4095

/-- Every view context is within its ranges, and a PAGE request whose header is being read has passed the
value check (R83, R85). -/
def ContextInv (s : State) : Prop :=
  s.view.current.inRange
    ∧ (∀ e ∈ s.view.stack, e.ctx.inRange)
    ∧ (∀ q push, s.store.trav = some (.viewHeader q push) → q.valuesGood = true)

/-! ## Enhancement parameters (R53) -/

/-- The bounds of a set of parameters, and its K (R53, R56). -/
def Params.inBounds (m : Params) : Prop :=
  m.t ≤ 31 ∧ m.g ≤ 63 ∧ m.b ≤ 223 ∧ m.b + 32 ≤ m.wp ∧ m.wp ≤ 255 ∧ m.k = toneSlope m.b m.wp
    ∧ 1 ≤ m.a ∧ m.a ≤ 128

/-- The bounds of the pending set (R30, R155). -/
def StagedCapture.inBounds (g : StagedCapture) : Prop :=
  g.t ≤ 31 ∧ g.g ≤ 63 ∧ g.b ≤ 223 ∧ g.b + 32 ≤ g.wp ∧ g.wp ≤ 255 ∧ 1 ≤ g.a ∧ g.a ≤ 128

/-- The set in force, the latch and the pending set are within bounds; while a frame is in progress the part
is in RUN and the set in force is the latched one (R53, R55). -/
def EnhanceInv (s : State) : Prop :=
  s.enh.force.inBounds ∧ s.enh.latch.inBounds ∧ (∀ g, s.slots.staged = some g → g.inBounds)
    ∧ (s.asm.frame.isSome → s.bridge.run = .run ∧ s.enh.force = s.enh.latch)

/-! ## The engines of the Store Controller (R105) -/

/-- An operation of the traversal engine that a command waits for. -/
def TravOp.ofCommand : TravOp → Bool
  | .scan _ _ => false
  | .move _ _ _ _ => true
  | .viewHeader _ _ => true
  | .popHeader => true
  | .advance _ => false

/-- The stage of the command in progress. -/
def State.cmdStage (s : State) : Option CmdStage := s.cu.cmd.map Command.stage

/-- A luma piece is held by back-pressure. -/
def State.holdsPiece (s : State) : Bool :=
  match s.bridge.txn with
  | some { stage := .held _, .. } => true
  | _ => false

/-- At most one store operation is in flight; an operation of a command has its command in progress, and no
region change waits while it uses the traversal engine; a mount scan runs over an UNFORMATTED, empty store; and
in BYPASS neither engine is in use, no region change waits, no capture piece is held, and only SETUP and
STATUS reach their owning block (R105, R108, R159, R163). -/
def EngineInv (s : State) : Prop :=
  (s.store.copy = none ∨ s.store.trav = none)
    ∧ (∀ op, s.store.trav = some op → op.ofCommand = true →
        s.cmdStage = some .engine ∧ s.store.deferred = none)
    ∧ (∀ p last, s.store.trav = some (.scan p last) → s.store.formatted = false ∧ s.store.eod = 0)
    ∧ (∀ c, s.store.copy = some c → c.trigger = false → s.cmdStage = some .engine)
    ∧ (s.bridge.run = .bypass →
        s.enginesIdle = true ∧ s.store.deferred = none ∧ s.holdsPiece = false
          ∧ ∀ n p, s.dispatched n = some p → n = 1 ∨ n = 2)

/-- The view stack holds at most four entries, and room is left for the entry of a VIEW_PUSH PAGE whose
header is being read (R84, R89). -/
def StackInv (s : State) : Prop :=
  EngineInv s ∧ s.view.stack.length ≤ 4
    ∧ ∀ q, s.store.trav = some (.viewHeader q true) → s.view.stack.length ≤ 3

/-- The store offset of the page that the current view context names (R83). -/
def State.currentPage (s : State) : Option Nat :=
  match s.view.current.source with
  | .page part => some part.offset
  | _ => none

/-- The page named by the current view context lies below EOD: below the write offset of a copy in progress,
and with none named while a clear runs, while a region change waits, and in BYPASS (R83, R106). -/
def PageInv (s : State) : Prop :=
  EngineInv s
    ∧ ∀ p, s.currentPage = some p →
        p < s.store.eod ∧ s.bridge.run = .run ∧ s.store.deferred = none
          ∧ ∀ c, s.store.copy = some c → c.job ≠ .clear ∧ p < c.offset

/-- The position lies in the chain, and in RUN the END header after EOD and the record of a copy in progress
lie within the store, whose size is at least 65,536 bytes (R99, R103, R107). -/
def StoreInv (s : State) : Prop :=
  EngineInv s ∧ (∀ p, s.store.position = some p → p ≤ s.store.eod)
    ∧ (s.bridge.run = .run →
        65536 ≤ s.storeSize ∧ s.store.eod + 32 ≤ s.storeSize
          ∧ (∀ d, s.store.deferred = some d → d.base + 65536 ≤ d.limit)
          ∧ ∀ c, s.store.copy = some c → c.offset + c.header.length + 32 ≤ s.storeSize)

/-! ## The region map (R2) -/

/-- Two spans share no byte. -/
def Span.apart (x y : Span) : Prop := x.overlaps y = false

/-- A span of bytes that is not empty and lies within memory. -/
def Span.proper (x : Span) : Prop := 0 < x.size ∧ x.base + x.size ≤ memoryTop

/-- The apertures that a capture geometry in force or pending gives (R2, R30). -/
def State.apertures (s : State) : List Span :=
  s.apertureSpan ::
    match s.slots.staged with
    | some g => [{ base := s.bridge.regions.apertureBase, size := 2 * g.wc * g.hc }]
    | none => []

/-- The view windows that the view geometry in the latch and the staged one give (R2, R65). -/
def State.windows (s : State) : List Span :=
  [s.windowSpan,
    { base := s.bridge.regions.viewBase, size := 2 * s.comp.staged.wv * s.comp.staged.hv }]

/-- The store regions in force and waiting (R99, R159). -/
def State.storeRegions (s : State) : List Span :=
  s.storeSpan ::
    match s.store.deferred with
    | some d => [{ base := d.base, size := d.limit - d.base }]
    | none => []

/-- The regions that a setup fixes: control page and slots (R2). -/
def State.fixedRegions (s : State) : List Span :=
  [ctrlSpan s.bridge.straps, s.slotSpan 0, s.slotSpan 1, s.slotSpan 2]

/-- Every span of one list is apart from every span of another. -/
def allApart (xs ys : List Span) : Prop := ∀ x ∈ xs, ∀ y ∈ ys, x.apart y

/-- In RUN the regions lie within memory and none shares a byte with another, whichever of the extents in
force and to come each has (R2, R155, R158). -/
def RegionsInv (s : State) : Prop :=
  s.bridge.run = .run →
    (∀ x ∈ s.fixedRegions ++ s.apertures ++ s.windows ++ s.storeRegions ++ [s.messageSpan], x.proper)
      ∧ s.fixedRegions.Pairwise Span.apart
      ∧ allApart s.fixedRegions (s.apertures ++ s.windows ++ s.storeRegions ++ [s.messageSpan])
      ∧ allApart s.apertures (s.windows ++ s.storeRegions ++ [s.messageSpan])
      ∧ allApart s.windows (s.storeRegions ++ [s.messageSpan])
      ∧ allApart s.storeRegions [s.messageSpan]

/-! ## The trigger list (R142) -/

/-- The ranges of an entry (R142). -/
def Trigger.inRange (e : Trigger) : Prop := e.line ≤ 2047 ∧ e.k ≤ 6 ∧ e.r < 2 ^ e.k

/-- At most 16 entries, their line marks strictly ascending, each within its ranges; a load in progress is
of at most 16 entries (R142, R143). -/
def TriggerInv (s : State) : Prop :=
  s.timer.triggers.length ≤ 16
    ∧ s.timer.triggers.Pairwise (fun x y => x.line < y.line)
    ∧ (∀ e ∈ s.timer.triggers, e.inRange)
    ∧ ∀ addr total got, s.cmdStage = some (.listRead addr total got) → total ≤ 32

/-! ## Commands that answer the memory port -/

/-- The place of a requester in the fixed order of the arbiter (R14). -/
def Requester.rank : Requester → Nat
  | .composer => 0
  | .passThrough => 1
  | .lineWriter => 2
  | .store => 3
  | .command => 4

/-- The answer to a transaction of a purpose, as a command. -/
def Purpose.answeredBy (p : Purpose) (a : Answer) : Instr :=
  match p with
  | .composerStored => .composerFetchAnswer a
  | .composerSource => .composerFetchAnswer a
  | .passThrough => .passThroughAnswer a
  | .lineWrite => .lineWriteAnswer a
  | .scanRead => .mountScanReadAnswer a
  | .viewHeader => .viewPageHeaderRead a
  | .popHeader => .viewPopHeaderRead a
  | .copy => .copyTransactionAnswer a
  | .commit => .commit a
  | .clearWrite => .storeClearWriteAnswer a
  | .moveRead => .traversalReadAnswer a
  | .advanceRead => .advanceReadAnswer a
  | .reloadRead => .reloadReadAnswer a
  | .packet => .packetFetch a
  | .setupBlock => .setupBlockReadAnswer a
  | .triggerList => .triggerListReadAnswer a
  | .message => .messageWriteAnswer a
  | .notice => .noticeWriteAnswer a

/-! ## When a command takes place -/

/-- The owning block has a dispatched command of code `n` and packet `p` to take (R163). -/
def State.hands (s : State) (n : Nat) (p : Packet) : Prop :=
  s.awake = true ∧ s.dispatched n = some p

/-- The granted transaction is of a purpose, its requester wants its answer, and `a` fits it (R14). -/
def State.replied (s : State) (p : Purpose) (a : Answer) : Prop :=
  s.awake = true ∧ s.answerable p a

/-- The piece `p` of transaction `x` is at the front, its treatment is `tr` and has not begun (R5). -/
def State.faces (s : State) (x : Txn) (p : Piece) (tr : Treatment) : Prop :=
  s.awake = true ∧ s.front = some (x, p, tr)

/-- Word `k` of the control-page write piece `p` of transaction `x` is the next to be reported; it is word
`i` of the control page and carries `b` (R8, R150). -/
def State.reports (s : State) (x : Txn) (p : Piece) (k i : Nat) (b : Beat) : Prop :=
  s.awake = true ∧ s.reporting = some (x, p, k)
    ∧ i = (wordAddr x.burst p.first - s.ctrlBase) / 4 + k
    ∧ b = (pieceBeats x.burst p).getD k { data := 0, be := 0 }

/-! ## What the end of a piece does (R5, R6, R13) -/

/-- A piece of this treatment ends as soon as it is reached (R6, R11). -/
def Treatment.atOnce : Treatment → Bool
  | .beyond => true
  | .discard => true
  | _ => false

/-- The bridge after the pieces `ended` of a transaction have ended at once, with `rest` left: a discard is
counted for each discarded piece, a piece beyond the top answers zeros and ERROR, and with nothing left the
transaction is answered and the controller port released (R4, R6, R13). -/
def State.bridgeAfter (s : State) (x : Txn) (ended rest : List Piece) : Bridge :=
  let beyond := ended.filter fun p => s.treatment x p == .beyond
  let discarded := ended.filter fun p => s.treatment x p == .discard
  let words := x.words ++ beyond.flatMap fun p => if isWrite x.burst then [] else List.replicate p.len 0
  let error := x.error || !beyond.isEmpty
  { s.bridge with
    guard := s.bridge.guard + BitVec.ofNat 16 discarded.length,
    txn :=
      if rest = [] then none
      else some { x with pieces := rest, stage := .untreated, words := words, error := error },
    answer :=
      if rest = [] then some { tag := x.burst.tag, error := error, words := words }
      else s.bridge.answer }

/-- The pieces `ps` of a transaction are treated in order up to the first that does not end at once
(R5). -/
def Settles (s t : State) (x : Txn) (ps : List Piece) : Prop :=
  ∃ ended rest, ps = ended ++ rest
    ∧ (∀ p ∈ ended, (s.treatment x p).atOnce = true)
    ∧ (∀ p, rest.head? = some p → (s.treatment x p).atOnce = false)
    ∧ t.bridge = s.bridgeAfter x ended rest

/-- The front piece of a transaction has ended with these words and this status; the pieces behind it, as
the region map in force cuts them, follow (R5, R6). -/
def PieceEnds (s t : State) (x : Txn) (words : List Word) (error : Bool) : Prop :=
  Settles s t { x with words := x.words ++ words, error := x.error || error }
    (s.recut x.burst x.pieces.tail)

/-- The transaction in treatment is at a stage. -/
def State.bridgeAt (s : State) (x : Txn) (st : Stage) : Bridge :=
  { s.bridge with txn := some { x with stage := st } }

/-- The pass-through request of a piece at an address: the piece's kind, length, data, byte-enables and
tag (R7, R14). -/
def passRequest (x : Txn) (p : Piece) (addr : Nat) : Request :=
  { purpose := .passThrough, burst := pieceBurst x.burst p addr }

/-- After the report of word `k` of a control-page write the next word is reported, or the piece is sent to
memory; `m` is the memory port after the report's effect (R8). -/
def ReportEnds (s : State) (m : MemoryPort) (t : State) (x : Txn) (p : Piece) (k : Nat) : Prop :=
  if k + 1 < p.len then t.bridge = s.bridgeAt x (.reporting (k + 1)) ∧ t.port = m
  else
    t.bridge = s.bridgeAt x (.passing false)
      ∧ t.port = m.put .passThrough (some (passRequest x p (wordAddr x.burst p.first)))

/-! ## Transactions of the command in progress -/

/-- The memory port once a transaction of the command in progress has been presented, unless a NOTICE is in
flight (R14, R170). -/
def State.cmdPort (s : State) (p : Purpose) (b : Burst) : MemoryPort :=
  if s.cu.notice.isSome then s.port else s.port.put p.requester (some { purpose := p, burst := b })

/-- The transaction of the command in progress that waits behind a NOTICE in flight (R170). -/
def State.cmdHeld (s : State) (p : Purpose) (b : Burst) : Option Request :=
  if s.cu.notice.isSome then some { purpose := p, burst := b } else s.cu.held

/-- A stage of the command in progress with packet `p` is reached, and its transaction presented: the
Command Unit and the memory port. -/
def CommandReads (s t : State) (p : Option Packet) (st : CmdStage) (q : Purpose) (b : Burst) : Prop :=
  t.port = s.cmdPort q b
    ∧ t.cu = { s.cu with cmd := some { packet := p, stage := st }, held := s.cmdHeld q b }

/-- The NOTICE that the pending set of the state gives (R166, R170). -/
def State.noticeOf (s : State) : MessageWrite :=
  { addr := s.cu.msgAddr,
    words :=
      s.messageWords { cls := .notice, reason := .none, arg := 0, residual := 0 } 0 false false false,
    second := false }

/-- The Command Unit `u` of a state and its memory port, after the NOTICE that is due, if one is
(R170). -/
def NoticeDue (s : State) (u : CommandUnit) (t : State) : Prop :=
  if u.owner = .part ∧ u.notices ≠ Notices.empty then
    t.cu = { u with notices := Notices.empty, owner := .host, notice := some (s.setCu u).noticeOf }
      ∧ t.port = s.port.put .command
          (some { purpose := .notice, burst := (s.setCu u).noticeOf.upper })
  else t.cu = u ∧ t.port = s.port

/-! ## First of a list of checks -/

/-- `n` is the first number of a list for which a check fails (R156, R158). -/
def IsFirst (ns : List Nat) (fails : Nat → Prop) (n : Nat) : Prop :=
  ∃ before after, ns = before ++ n :: after ∧ fails n ∧ ∀ m ∈ before, ¬ fails m

/-! ## Frames and pieces of capture -/

/-- The command starts a frame: it treats a luma write piece of the CAPTURE master whose first word is at
aperture offset 0 (R22). -/
def State.startsFrame (s : State) (c : Instr) : Bool :=
  c == .captureLumaPiece && s.awake
    && match s.front with
      | some (x, p, .captureLuma) => wordAddr x.burst p.first == s.bridge.regions.apertureBase
      | _ => false

/-- The bytes that a write lays down with every byte-enable set. -/
def bytesOfBurst (b : Burst) : List Byte :=
  match b.body with
  | .read _ => []
  | .write beats => bytesOfWords (beats.map Beat.data)

/-- The words of a luma piece from word `from_` on are taken one at a time from state `u`; the piece ends with
the last of them, or is held by the first whose ring entry is in use (R38, R39). -/
def TakesWords (u t : State) (x : Txn) (p : Piece) (from_ : Nat) : Prop :=
  ∃ taken left, (pieceBeats x.burst p).drop from_ = taken ++ left
    ∧ (∀ k < taken.length,
        ((taken.take k).foldl (fun v b => v.takeWord b.data) u).asm.entryBusy = false)
    ∧ (left = [] → PieceEnds (taken.foldl (fun v b => v.takeWord b.data) u) t x [] false
        ∧ OnlyChanges [.bridge] (taken.foldl (fun v b => v.takeWord b.data) u) t)
    ∧ (left ≠ [] → (taken.foldl (fun v b => v.takeWord b.data) u).asm.entryBusy = true
        ∧ t = (taken.foldl (fun v b => v.takeWord b.data) u).setTxn
            (some { x with stage := .held (p.len - left.length) }))

/-- A luma piece at aperture offset `o` is taken raw into the lowest free ring entry and ends, or is held while
none is free (R45; log entry 18). -/
def TakesRaw (u t : State) (x : Txn) (o : Nat) (beats : List Beat) : Prop :=
  (∀ i : Fin 4, u.asm.ring[i] = .free → (∀ j : Fin 4, j < i → u.asm.ring[j] ≠ .free) →
      PieceEnds (u.takeRaw i o beats) t x [] false ∧ OnlyChanges [.bridge] (u.takeRaw i o beats) t)
    ∧ ((∀ i : Fin 4, u.asm.ring[i] ≠ .free) → t = u.setTxn (some { x with stage := .held 0 }))

end Sys2Proof.Machine
end

