-- ==== Sys2Proof/Certificates/Slice0/Obligations.lean ====
section
/-! DEFINITION. The statements about the part, for the provers (OBLIGATIONS.json lists them). Each docstring
names the rules of spec/ that the statement comes from. -/

section

open Sys2Proof Sys2Proof.Machine

/-! ## Steps, reset and the memory port -/

/-- A step carries out the command at the front of the queue on the state with the queue's rest; with an
empty queue the part idles. The queue is the model's own (log entry 2). -/
def Obligations.StepRunsFrontCommand : Prop :=
  ∀ s : State,
    (∀ (c : Instr) (rest : List Instr), s.pending = c :: rest → step s = exec c (s.setPending rest))
      ∧ (s.pending = [] → step s = .next s)

/-- Every command of the port's form answers a next state with the same queue: "completes" says no more here. That
a command whose event cannot take place answers next too is the model's choice (log entry 3), and so is that a
burst which the port cannot carry is refused (00_scope.md, Signals; log entry 14). -/
def Obligations.EveryCommandCompletes : Prop :=
  (∀ (c : Instr) (s : State), c.wf = true → ∃ t, exec c s = .next t ∧ t.pending = s.pending)
    ∧ ∀ (b : Burst) (s : State), b.wf = false → exec (.transactionAccept b) s = .refused .notABurst

/-- The fall of RESET_N gives every item its reset value (R1, R3, R13, R16, R30, R32, R34, R35, R53, R58,
R64, R83, R84, R103, R135, R162). The values that the spec leaves to the setup are not stated. -/
def Obligations.ResetFallGivesResetValues : Prop :=
  ∀ s : State, s.resetN = true → ∃ t, exec .resetNFall s = .next t
    ∧ t.resetN = false ∧ t.pending = s.pending
    ∧ t.bridge.run = .bypass ∧ t.bridge.guard = 0 ∧ t.bridge.txn = none
    ∧ (∀ i : Fin 8, t.bridge.classes[i] = if i = 0 then .control else .plain)
    ∧ (∀ q, t.port.waiting q = none) ∧ t.port.granted = none
    ∧ t.asm.frame = none ∧ t.asm.queue = [] ∧ t.asm.running = none ∧ t.asm.mode = .normal
    ∧ t.asm.wc = 0 ∧ t.asm.hc = 0 ∧ t.asm.ptr = 0 ∧ t.asm.finalWord = false ∧ t.asm.lumaHalf = false
    ∧ t.asm.chromaHalf = false ∧ (∀ i : Fin 4, t.asm.ring[i] = .free)
    ∧ (∀ i, t.slotRec i =
        { state := .empty, gen := 0, frame := 0, wc := 0, hc := 0, broken := false, hold := 0 })
    ∧ t.slots.staged = none ∧ t.slots.started = 0 ∧ t.slots.completed = 0 ∧ t.slots.abandoned = 0
    ∧ t.slots.dropped = 0 ∧ t.slots.broken = 0
    ∧ t.enh.force = { t := 4, g := 16, b := 16, wp := 235, k := 298, auto := false, a := 16 }
    ∧ t.enh.latch = t.enh.force ∧ (∀ i : Fin 64, t.enh.hist[i] = 0)
    ∧ t.comp.latch =
        { latched := false, source := .none, ws := 0, hs := 0, step := 0, ox := 0, oy := 0,
          set := { wv := 0, hv := 0, kl := 0, kc := 0, borderY := 0, borderCb := 0, borderCr := 0 } }
    ∧ t.comp.staged = { wv := 0, hv := 0, kl := 0, kc := 0, borderY := 0, borderCb := 0, borderCr := 0 }
    ∧ t.comp.errors = 0
    ∧ t.view.current = { source := .live, z := 64, zt := 64, cx := 0, cy := 0 } ∧ t.view.stack = []
    ∧ t.store.formatted = false ∧ t.store.protect = false ∧ t.store.position = some 0
    ∧ t.store.eod = 0 ∧ t.store.serial = 0 ∧ t.store.lesson = 0 ∧ t.store.margin = 0
    ∧ t.store.copy = none ∧ t.store.trav = none ∧ t.store.deferred = none
    ∧ t.timer.frameNumber = 0xFFFFFFFF ∧ t.timer.localTime = 0 ∧ t.timer.signal = false
    ∧ t.timer.interval = 0 ∧ t.timer.reference = 0 ∧ t.timer.triggers = [] ∧ t.timer.overruns = 0
    ∧ t.cu.opened = false ∧ t.cu.armed = false ∧ t.cu.cmd = none ∧ t.cu.refusedBusy = false
    ∧ t.cu.lastClass = none ∧ t.cu.lastReason = .none ∧ t.cu.owner = .host
    ∧ t.cu.notices = Notices.empty ∧ t.cu.notice = none ∧ t.cu.attn = false
    ∧ t.cu.reloadResult = .none ∧ t.cu.reload = none

/-- At the rise of RESET_N the straps are sampled, they place the control page and the message buffer, and
the reload reads the setup pointer, word 3 of the control page; nothing else differs. Until the rise no
other command acts (R2, R160, R162; log entry 1). -/
def Obligations.ResetRiseStartsReload : Prop :=
  (∀ (s : State) (straps : BitVec 2), s.resetN = false → ∃ t, exec (.resetNRise straps) s = .next t
    ∧ t.resetN = true ∧ t.bridge = { s.bridge with straps := straps }
    ∧ (straps = 0 → t.ctrlBase = 0x0000000 ∧ t.cu.msgAddr = 0x0000040)
    ∧ (straps = 1 → t.ctrlBase = 0x07FFFC0 ∧ t.cu.msgAddr = 0x0800000)
    ∧ (straps = 2 → t.ctrlBase = 0x0FFFFC0 ∧ t.cu.msgAddr = 0x1000000)
    ∧ (straps = 3 → t.ctrlBase = 0x1FFFFC0 ∧ t.cu.msgAddr = 0x1FFFF80)
    ∧ t.cu = { s.cu with
        msgAddr := t.cu.msgAddr, reloadResult := .none, reload := some .pointer }
    ∧ Presents s t .reloadRead { tag := 0, addr := t.ctrlBase + 12, body := .read 1 }
    ∧ OnlyChanges [.resetN, .bridge, .port, .cu] s t)
  ∧ ∀ (s : State) (c : Instr), s.resetN = false → (∀ straps, c ≠ .resetNRise straps) → c.wf = true →
      exec c s = .next s

/-- A free memory port goes to the waiting requester that stands first in the fixed order composer,
pass-through, line writer, store, command; a port that is not free goes to no one (R14). The answer to a
transaction whose operation has been aborted frees the port and does nothing else (R14, R23, R161); an answer
that is not of the granted transaction leaves the state as it is (log entry 6). -/
def Obligations.MemoryPortServed : Prop :=
  (∀ (s : State) (q : Requester) (r : Request), s.awake = true → s.port.waiting q = some r →
     (s.port.granted = none → (∀ q', q'.rank < q.rank → s.port.waiting q' = none) →
       ∃ t, exec .memoryPortGrant s = .next t
         ∧ t.port.granted = some { request := r, live := true } ∧ t.port.waiting q = none
         ∧ (∀ q', q' ≠ q → t.port.waiting q' = s.port.waiting q') ∧ OnlyChanges [.port] s t)
     ∧ (s.port.granted ≠ none → exec .memoryPortGrant s = .next s))
  ∧ (∀ (s : State) (p : Purpose) (a : Answer), s.awake = true →
     (∀ r, s.port.granted = some { request := r, live := false } → r.purpose = p →
         answerFits a r.burst = true →
         exec (p.answeredBy a) s = .next (s.setPort { s.port with granted := none }))
     ∧ ((∀ g, s.port.granted = some g →
           g.request.purpose.answeredBy a ≠ p.answeredBy a ∨ answerFits a g.request.burst = false) →
         exec (p.answeredBy a) s = .next s))

/-! ## Who changes what -/

/-- Which commands can change what. The run state leaves BYPASS at the last answer of a setup block, of a
command or of the reload, and returns at reset alone; the fixed regions change with it; the straps are those
of the last rise of RESET_N (R1, R2, R158). ATTN rises at the answer to a message or NOTICE write and falls at
a status-word read, RESTART or reset (R171). Each item of R103 and R105 changes at the commands named for it alone:
where a scan begins or ends, a commit, a clear, a move or an ADVANCE, STORE_PROTECT and reset; at a RESTART only
where the write it aborts is a granted commit, for the position, or a granted clear (R87, R104, R108, R109, R115 to
R120, R122 to R124, R133). The store region and a region change that waits change with a scan, in which they are
set, and at reset (R99, R158, R159). An engine is taken and given up by the commands that it works for, its
answers, RESTART, which leaves a mount scan, and the commands that report a line event, whose trigger can take it
(R105, R110, R131, R146). Of these EMISSION reports one only where its item has no byte to write, in states that
no run reaches. -/
def Obligations.RegistersChangeOnlyBy : Prop :=
  ∀ (c : Instr) (s t : State), SetupInv s → exec c s = .next t →
    let commits := c = .restart ∧ s.port.grantedFor (· == .commit) = true
    let clears := c = .restart ∧ s.port.grantedFor (· == .clearWrite) = true
    let scans := c = .deferredMountScan ∨ ∃ a, c = .setupBlockReadAnswer a ∨ c = .reloadReadAnswer a
    let lines := c = .captureLumaPiece ∨ c = .heldPieceResume ∨ c = .emission ∨ ∃ a, c = .lineWriteAnswer a
    (t.bridge.run = s.bridge.run ∧ t.bridge.regions = s.bridge.regions
      ∨ c = .resetNFall ∧ t.bridge.run = .bypass
      ∨ s.bridge.run = .bypass ∧ t.bridge.run = .run
          ∧ ∃ a, c = .setupBlockReadAnswer a ∨ c = .reloadReadAnswer a)
    ∧ (t.bridge.straps = s.bridge.straps ∨ c = .resetNFall ∨ c = .resetNRise t.bridge.straps)
    ∧ (t.cu.attn = true → s.cu.attn = true ∨ ∃ a, c = .messageWriteAnswer a ∨ c = .noticeWriteAnswer a)
    ∧ (t.cu.attn = false → s.cu.attn = false ∨ c = .statusWord ∨ c = .restart ∨ c = .resetNFall)
    ∧ (t.store.eod = s.store.eod ∨ clears ∧ t.store.eod = 0 ∨ c = .resetNFall ∨ scans
      ∨ ∃ a, c = .commit a ∨ c = .storeClearWriteAnswer a ∨ c = .mountScanReadAnswer a)
    ∧ (t.store.position = s.store.position ∨ commits ∧ t.store.position = none
      ∨ clears ∧ t.store.position = some 0 ∨ c = .resetNFall ∨ scans ∨ c = .rewind ∨ c = .toEnd
      ∨ ∃ a, c = .commit a ∨ c = .storeClearWriteAnswer a ∨ c = .mountScanReadAnswer a
          ∨ c = .traversalReadAnswer a ∨ c = .advanceReadAnswer a
          ∨ c = .viewPageHeaderRead a ∧ t.store.position = none)
    ∧ (t.store.serial = s.store.serial ∨ c = .resetNFall ∨ scans
      ∨ ∃ a, c = .commit a ∧ t.store.serial = s.store.serial + 1 ∨ c = .storeClearWriteAnswer a
          ∨ c = .mountScanReadAnswer a)
    ∧ (t.store.lesson = s.store.lesson ∨ c = .resetNFall ∨ scans ∨ c = .rewind ∧ t.store.lesson = 0
      ∨ ∃ a, c = .commit a ∨ c = .storeClearWriteAnswer a)
    ∧ (t.store.margin = s.store.margin ∨ c = .resetNFall ∨ scans)
    ∧ (t.store.formatted = true → s.store.formatted = true
      ∨ ∃ a, c = .storeClearWriteAnswer a ∨ c = .mountScanReadAnswer a)
    ∧ (t.store.formatted = false → s.store.formatted = false ∨ clears ∨ c = .resetNFall ∨ scans
      ∨ ∃ a, c = .storeClearWriteAnswer a)
    ∧ (t.store.protect = true → s.store.protect = true ∨ c = .storeProtect)
    ∧ (t.store.protect = false → s.store.protect = false ∨ c = .resetNFall ∨ scans
      ∨ ∃ a, c = .storeClearWriteAnswer a)
    ∧ (t.store.base = s.store.base ∧ t.store.limit = s.store.limit ∨ c = .resetNFall ∨ scans)
    ∧ (t.store.deferred = s.store.deferred ∨ c = .resetNFall ∨ scans)
    ∧ (t.store.copy = s.store.copy ∨ (c = .resetNFall ∨ c = .restart) ∧ t.store.copy = none
      ∨ c = .record ∨ c = .mark ∨ c = .storeClear ∨ lines
      ∨ ∃ a, c = .copyTransactionAnswer a ∨ c = .commit a ∨ c = .storeClearWriteAnswer a)
    ∧ (t.store.trav = s.store.trav ∨ (c = .resetNFall ∨ c = .restart) ∧ t.store.trav = none ∨ scans
      ∨ c = .view ∨ c = .viewPush ∨ c = .viewPop ∨ c = .stepFwd ∨ c = .stepRev ∨ c = .skipFwd
      ∨ c = .skipRev ∨ lines
      ∨ ∃ a, c = .mountScanReadAnswer a ∨ c = .viewPageHeaderRead a ∨ c = .viewPopHeaderRead a
          ∨ c = .traversalReadAnswer a ∨ c = .advanceReadAnswer a)

/-- The local time advances by one at each microsecond, in BYPASS and in RUN alike, wraps, and is 0 at
reset; no other command touches it (R137). -/
def Obligations.LocalTimeRuns : Prop :=
  (∀ s : State, s.resetN = true →
      exec .localTimeAdvance s =
        .next { s with timer := { s.timer with localTime := s.timer.localTime + 1 } })
    ∧ (∀ t : Timer, t.localTime.toNat = 4294967295 → (t.localTime + 1).toNat = 0)
    ∧ State.reset.timer.localTime = 0
    ∧ ∀ (c : Instr) (s t : State), exec c s = .next t → c ≠ .localTimeAdvance → c ≠ .resetNFall →
        t.timer.localTime = s.timer.localTime

/-- The frame number steps at every frame start, whatever becomes of the frame, wraps, is 0 at the first
frame start after reset, and is changed by nothing else (R136). -/
def Obligations.FrameNumberSteps : Prop :=
  (∀ s : State, s.frameStart.timer.frameNumber = s.timer.frameNumber + 1)
    ∧ State.reset.timer.frameNumber + 1 = 0
    ∧ ∀ (c : Instr) (s t : State), exec c s = .next t → c ≠ .resetNFall →
        t.timer.frameNumber =
          if s.startsFrame c then s.timer.frameNumber + 1 else s.timer.frameNumber

/-! ## Invariants -/

/-- The hold count of a slot is the number of its holders, holders hold COMPLETE slots, and the FILLING slot
is the frame's, at every step (R17, R19). -/
def Obligations.HoldsInvKept : Prop :=
  ∀ s t : State, HoldsInv s → step s = .next t → HoldsInv t

/-- While RESET_N is low the part is in BYPASS with no command; no command is taken while the reload is in
progress; the reload reads its block in BYPASS; and in BYPASS no capture set is pending, at every step (R1, R30,
R153, R160, R162). -/
def Obligations.SetupInvKept : Prop :=
  ∀ s t : State, SetupInv s → step s = .next t → SetupInv t

/-- View contexts stay within their ranges and the view stack within four entries (R83, R84). -/
def Obligations.ViewInvKept : Prop :=
  ∀ s t : State, SetupInv s → ContextInv s → StackInv s → step s = .next t → ContextInv t ∧ StackInv t

/-- The enhancement parameters stay within their bounds, and the set in force while a frame is in progress
is the latched one (R53, R55). The trigger list stays of at most 16 entries within their ranges, with strictly
ascending line marks (R142, R143). -/
def Obligations.EnhanceAndTriggerInvKept : Prop :=
  (∀ s t : State, SetupInv s → EnhanceInv s → step s = .next t → EnhanceInv t)
  ∧ (∀ s t : State, TriggerInv s → step s = .next t → TriggerInv t)

/-- The page that the current view names begins below the end of data, and below the write offset of a copy in
progress; none is named while a clear runs or a region change waits (R83, R106). -/
def Obligations.PageInvKept : Prop :=
  ∀ s t : State, SetupInv s → PageInv s → step s = .next t → PageInv t

/-- The position stays in [0, EOD] or LOST, and the record being written and the END stay within the store
(R103, R107). -/
def Obligations.StoreInvKept : Prop :=
  ∀ s t : State, SetupInv s → StoreInv s → step s = .next t → StoreInv t

/-- The regions of the region map stay within memory and apart from each other (R2, R155, R158). -/
def Obligations.RegionsInvKept : Prop :=
  ∀ s t : State, SetupInv s → RegionsInv s → step s = .next t → RegionsInv t

/-- The invariants hold right after reset. -/
def Obligations.InvariantsAtReset : Prop :=
  SetupInv State.reset ∧ HoldsInv State.reset ∧ ContextInv State.reset ∧ StackInv State.reset
    ∧ EnhanceInv State.reset ∧ PageInv State.reset ∧ StoreInv State.reset ∧ RegionsInv State.reset
    ∧ TriggerInv State.reset

/-! ## Enhancement arithmetic -/

/-- The sharpened value: the blur is the weighted mean rounded halves upward, the detail is cored by T, the
cored detail is boosted by G/16 rounded halves away from zero and with its sign, and the sum with the raw
pixel is clamped to a byte (R49 to R52). -/
def Obligations.SharpeningArithmetic : Prop :=
  ∀ (t g : Nat) (p : Neigh), t ≤ 31 → g ≤ 63 →
    p.nw ≤ 255 → p.n ≤ 255 → p.ne ≤ 255 → p.w ≤ 255 → p.c ≤ 255 → p.e ≤ 255 → p.sw ≤ 255 →
    p.s ≤ 255 → p.se ≤ 255 →
    ∃ (b : Nat) (d c q : Int),
      (b = (4 * p.c + 2 * (p.n + p.w + p.e + p.s) + (p.nw + p.ne + p.sw + p.se) + 8) / 16
        ∧ 4 * p.c + 2 * (p.n + p.w + p.e + p.s) + (p.nw + p.ne + p.sw + p.se) ≤ 4080 ∧ b ≤ 255
        ∧ ((p.n = p.c ∧ p.w = p.c ∧ p.e = p.c ∧ p.s = p.c ∧ p.nw = p.c ∧ p.ne = p.c ∧ p.sw = p.c
            ∧ p.se = p.c) → b = p.c))
      ∧ (d = (p.c : Int) - b ∧ -255 ≤ d ∧ d ≤ 255
        ∧ (-(t : Int) ≤ d ∧ d ≤ t → c = 0) ∧ (d > t → c = d - t) ∧ (d < -(t : Int) → c = d + t)
        ∧ c.natAbs ≤ 255 - t ∧ (t = 0 → c = d))
      ∧ (q.natAbs = (g * c.natAbs + 8) / 16 ∧ g * c.natAbs ≤ 16065
        ∧ q.natAbs ≤ 1004 ∧ (0 ≤ c → 0 ≤ q) ∧ (c ≤ 0 → q ≤ 0) ∧ (g = 16 → q = c)
        ∧ (g = 32 → q = 2 * c) ∧ (g = 0 → q = 0 ∧ sharpen t g p = p.c))
      ∧ ((p.c : Int) + q < 0 → sharpen t g p = 0) ∧ (255 < (p.c : Int) + q → sharpen t g p = 255)
      ∧ (0 ≤ (p.c : Int) + q → (p.c : Int) + q ≤ 255 → (sharpen t g p : Int) = p.c + q)

/-- The tone slope is 65280 divided by the width of the tone range, rounded halves upward; the tone stage
sends s at or below B to 0, at or above Wp to 255, and between them to a byte from 1 to 254 by the slope; it
never falls (R56, R57). -/
def Obligations.ToneStage : Prop :=
  (∀ b wp : Nat, b + 32 ≤ wp → wp ≤ 255 →
      toneSlope b wp = (65280 + (wp - b) / 2) / (wp - b)
        ∧ 256 ≤ toneSlope b wp ∧ toneSlope b wp ≤ 2040)
    ∧ ∀ (m : Params) (s : Nat), m.inBounds → s ≤ 255 →
      (s ≤ m.b → tone m s = 0) ∧ (m.wp ≤ s → tone m s = 255)
        ∧ (m.b < s → s < m.wp →
            tone m s = ((s - m.b) * m.k + 128) / 256 ∧ 1 ≤ tone m s ∧ tone m s ≤ 254)
        ∧ ∀ s', s' ≤ s → tone m s' ≤ tone m s

/-- The white tracker: the white bin is the smallest index whose tail count is at most the threshold; the
white point moves a quarter of the way to four times the bin, toward zero and by at least one level, within
[B + 32, 255]; the new Wp and its slope are put in force, and nothing else of the set changes (R61, R62). -/
def Obligations.WhiteTracker : Prop :=
  ∀ (e : Enhancer) (wc hc : Nat), e.latch.inBounds →
    ∃ (j wt : Nat) (diff step : Int) (wp : Nat),
      (tailCount e.hist 64 = 0 ∧ (∀ i : Fin 64, tailCount e.hist i = e.hist[i] + tailCount e.hist (i + 1)))
      ∧ (j ≤ 64 ∧ tailCount e.hist j ≤ wc * hc * e.latch.a / 256
        ∧ (∀ i < j, wc * hc * e.latch.a / 256 < tailCount e.hist i)
        ∧ (tailCount e.hist 0 = wc * hc → 0 < wc * hc → 1 ≤ j))
      ∧ wt = min (4 * j) 255 ∧ diff = (wt : Int) - e.latch.wp
      ∧ (1 ≤ j → -251 ≤ diff ∧ diff ≤ 251)
      ∧ (4 ≤ diff.natAbs → step.natAbs = diff.natAbs / 4 ∧ step * diff > 0)
      ∧ (0 < diff → diff < 4 → step = 1) ∧ (diff < 0 → -4 < diff → step = -1) ∧ (diff = 0 → step = 0)
      ∧ (wp : Int) = max ((e.latch.b : Int) + 32) (min 255 ((e.latch.wp : Int) + step))
      ∧ (e.track wc hc).force =
          { e.force with wp := wp, k := (65280 + (wp - e.latch.b) / 2) / (wp - e.latch.b) }
      ∧ (e.track wc hc).latch = e.latch ∧ (e.track wc hc).hist = e.hist

/-! ## Composition arithmetic -/

/-- The fit step is the larger of the two axes' steps and the zoom step scales it by 64/z; for the geometries
allowed the step lies in 68 to 419,430 and its product with the view size is at most 805,305,600 (R72). The
origin along an axis: with a view no wider than the source it is the pan centre's, clamped between 0 and the
room left; with a wider view it is half the difference rounded toward minus infinity, negative, and does not
depend on the centre (R73). -/
def Obligations.FitAndOrigin : Prop :=
  ∀ (v : ViewSet) (c : ViewContext) (src : LatchSource) (ws hs : Nat),
    320 ≤ v.wv → v.wv ≤ 1920 → 240 ≤ v.hv → v.hv ≤ 1200 → 32 ≤ ws → ws ≤ 2048 → 8 ≤ hs → hs ≤ 1536 →
    64 ≤ c.z → c.z ≤ 1024 →
    let l := latchOf v c src ws hs
    let axis := fun (o : Int) (centre view source : Nat) =>
      (l.step * view ≤ source * 65536 →
        o = max 0 (min ((source * 65536 : Int) - l.step * view)
              (((min centre (source - 1) * 65536 : Nat) : Int) - (l.step * view / 2 : Nat))))
      ∧ (source * 65536 < l.step * view →
        o < 0 ∧ 2 * o ≤ (source * 65536 : Int) - l.step * view
          ∧ (source * 65536 : Int) - l.step * view < 2 * o + 2)
      ∧ (l.step * view = source * 65536 → o = 0)
    (∃ fit : Nat, fit = max (ws * 65536 / v.wv) (hs * 65536 / v.hv)
        ∧ l.step = fit * 64 / c.z ∧ (c.z = 64 → l.step = fit) ∧ (c.z = 1024 → l.step = fit / 16)
        ∧ 1092 ≤ fit ∧ fit ≤ 419430)
      ∧ 68 ≤ l.step ∧ l.step ≤ 419430 ∧ l.step * v.wv ≤ 805305600
      ∧ axis l.ox c.cx v.wv ws ∧ axis l.oy c.cy v.hv hs

/-- A composed luma pixel: its source point is taken from the latched origin and step, its neighbours are
clamped to the last column and row, and the mix of the four lies between the least and the greatest of them
(R76). A pixel is border when the source is NONE or its point lies outside the source (R75). -/
def Obligations.ComposedLuma : Prop :=
  ∀ (l : ViewLatch) (x y : Nat) (src : List Byte), 1 ≤ l.ws → 1 ≤ l.hs →
    (l.isBorder x y = true ↔
      l.source = .none ∨ l.ox + x * l.step < 0 ∨ l.oy + y * l.step < 0
        ∨ (l.ws : Int) * 65536 ≤ l.ox + x * l.step ∨ (l.hs : Int) * 65536 ≤ l.oy + y * l.step)
    ∧ (l.isBorder x y = false →
      ∃ i j fx fy : Nat, i < l.ws ∧ j < l.hs ∧ fx ≤ 255 ∧ fy ≤ 255
        ∧ (65536 * i + 256 * fx : Int) ≤ l.ox + x * l.step
        ∧ l.ox + x * l.step < (65536 * i + 256 * fx + 256 : Int)
        ∧ (65536 * j + 256 * fy : Int) ≤ l.oy + y * l.step
        ∧ l.oy + y * l.step < (65536 * j + 256 * fy + 256 : Int)
        ∧ (l.needs (.luma x y)).map (fun n => n.addr) =
            [l.base + j * l.ws + i, l.base + j * l.ws + min (i + 1) (l.ws - 1),
             l.base + min (j + 1) (l.hs - 1) * l.ws + i,
             l.base + min (j + 1) (l.hs - 1) * l.ws + min (i + 1) (l.ws - 1)]
        ∧ (∀ p00 p10 p01 p11 : Byte, src = [p00, p10, p01, p11] →
            let top := (p00.toNat * (256 - fx) + p10.toNat * fx + 128) / 256
            let bottom := (p01.toNat * (256 - fx) + p11.toNat * fx + 128) / 256
            (l.compose (.luma x y) src).toNat = (top * (256 - fy) + bottom * fy + 128) / 256
              ∧ (∀ m : Nat, m ≤ p00.toNat → m ≤ p10.toNat → m ≤ p01.toNat → m ≤ p11.toNat →
                  m ≤ (l.compose (.luma x y) src).toNat)
              ∧ ∀ m : Nat, p00.toNat ≤ m → p10.toNat ≤ m → p01.toNat ≤ m → p11.toNat ≤ m →
                  (l.compose (.luma x y) src).toNat ≤ m))

/-- ZOOM_STEP moves the zoom of the current context toward its target by the step or the distance, whichever
is smaller, and changes nothing else; a step of 960 reaches the target within the range of zooms (R94). -/
def Obligations.ZoomStepMoves : Prop :=
  ∀ (s : State) (n : Nat), ∃ t, s.zoomStep n = t
    ∧ (s.view.current.z ≤ s.view.current.zt →
        t.view.current.z = min (s.view.current.z + n) s.view.current.zt)
    ∧ (s.view.current.zt ≤ s.view.current.z →
        t.view.current.z = max (s.view.current.z - n) s.view.current.zt)
    ∧ (s.view.current.inRange → 960 ≤ n → t.view.current.z = s.view.current.zt)
    ∧ t.view = { s.view with current := { s.view.current with z := t.view.current.z } }
    ∧ OnlyChanges [.view] s t

/-! ## Formats in memory -/

/-- A header that the Store Controller writes is read back as it was: its halfwords sum to 0xFFFF and its
fields decode, each at every value of its width (R101, R174, R180). -/
def Obligations.HeaderRoundTrip : Prop :=
  ∀ h : Header, h.cycle < 64 → h.length < 4294967296 → h.lesson < 256 → h.w < 65536 → h.h < 65536 →
    h.z < 65536 → h.cx < 65536 → h.cy < 65536 →
    h.toWords.length = 8 ∧ checkGood h.toWords = true ∧ Header.ofWords h.toWords = some h

/-- The header check: the halfword sum, a known kind and format, the shape of the kind, and the bound of the
reader: the mount scan's leaves room for an END, every other reader's lies below the end of data, where an
END has none (R102). The sum is over the two halfwords of each word (R174); a kind code of 0 or 4 to 15 or a
format code of 2 to 15 gives no header (for every kind: log entry 21), and else each field stands at its bits;
in a header that is written the bits of no field are 0, and of an END every field but kind, serial and check is
(R175, R180). -/
def Obligations.HeaderJudged : Prop :=
  (∀ (ws : List Word) (h : Header) (size eod p : Nat),
    let good := halfSum ws = 0xFFFF ∧ Header.ofWords ws = some h
      ∧ (h.kind = .page → h.length = 2 * h.w * h.h + 36 ∧ h.w % 8 = 0 ∧ 32 ≤ h.w ∧ h.w ≤ 2048
          ∧ 8 ≤ h.h ∧ h.h ≤ 1536)
      ∧ (h.kind = .mark → h.length = 36) ∧ (h.kind = .endRecord → h.length = 0)
    (judgeScan size p ws = some h ↔ good ∧ p + h.length + 32 ≤ size)
      ∧ (judgeChain eod p ws = some h ↔ good ∧ (h.kind = .endRecord ∨ p + h.length ≤ eod)))
  ∧ (∀ (ws : List Word),
    let w := fun i : Nat => ws.getD i 0
    let bits := fun i lo width : Nat => ((w i).extractLsb' lo width).toNat
    halfSum ws = (ws.map fun x => x.toNat % 65536 + x.toNat / 65536).sum % 65536
      ∧ (Header.ofWords ws = none ↔ bits 0 0 4 = 0 ∨ 4 ≤ bits 0 0 4 ∨ 2 ≤ bits 0 4 4)
      ∧ ∀ h, Header.ofWords ws = some h ↔
          (match h.kind with
            | .page => bits 0 0 4 = 1 | .mark => bits 0 0 4 = 2 | .endRecord => bits 0 0 4 = 3)
          ∧ (match h.format with | .full => bits 0 4 4 = 0 | .half => bits 0 4 4 = 1)
          ∧ h =
            { kind := h.kind, format := h.format, broken := (w 0).getLsbD 8, note := (w 0).getLsbD 9,
              cycle := bits 0 10 6, serial := (w 0).extractLsb' 16 16, length := (w 1).toNat,
              lesson := bits 2 0 8, w := bits 2 16 16, h := bits 3 0 16, z := bits 3 16 16, frame := w 4,
              time := w 5, cx := bits 6 0 16, cy := bits 6 16 16 })
  ∧ (∀ h : Header, h.lesson < 256 →
    (h.toWords.getD 2 0).extractLsb' 8 8 = 0 ∧ (h.toWords.getD 7 0).extractLsb' 0 16 = 0)
  ∧ ∀ serial : BitVec 16, Header.ofEnd serial =
    { kind := .endRecord, format := .full, broken := false, note := false, cycle := 0, serial := serial,
      length := 0, lesson := 0, w := 0, h := 0, z := 0, frame := 0, time := 0, cx := 0, cy := 0 }

/-- A read of the status word alone answers the word assembled from the live state: each field at its place,
and every other bit 0 (R179). A CONTROL master's read drops ATTN (R8, R171). In a longer piece the words beside
it are read from memory and join it in address order (R8); that those below are read first, and those above after,
also when the first read fails, is the model's choice (log entry 25). -/
def Obligations.StatusWordRead : Prop :=
  (∀ s : State,
    let w := s.statusWord
    let flag := fun (i : Nat) (b : Bool) => w.getLsbD i = b
    flag 0 (decide (s.bridge.run = .run)) ∧ flag 1 s.cu.opened ∧ flag 2 s.cu.cmd.isSome ∧ flag 3 false
      ∧ w.extractLsb' 4 3 =
          (match s.cu.lastClass with
            | none => 7#3 | some .done => 0#3 | some .alert => 1#3 | some .refused => 2#3
            | some .retry => 3#3 | some .lost => 4#3 | some .notice => 5#3)
      ∧ flag 7 false ∧ (w.extractLsb' 8 8).toNat = s.cu.lastReason.code
      ∧ flag 16 s.cu.refusedBusy ∧ flag 17 (decide (s.cu.notices ≠ Notices.empty))
      ∧ flag 18 (decide (s.cu.owner = .part)) ∧ flag 19 s.timer.signal
      ∧ w.extractLsb' 20 2 =
          (match s.cu.reloadResult with | .none => 0#2 | .loaded => 1#2 | .invalid => 2#2)
      ∧ flag 22 s.store.formatted ∧ flag 23 s.store.protect ∧ flag 24 s.store.position.isNone
      ∧ ∀ i, 25 ≤ i → flag i false)
  ∧ (∀ (s : State) (x : Txn) (p : Piece), s.faces x p .statusRead →
      let first := (wordAddr x.burst p.first - s.ctrlBase) / 4
      ∃ t, exec .statusWord s = .next t
        ∧ t.cu = (if x.cls = .control then { s.cu with attn := false } else s.cu)
        ∧ (first = 2 → p.len = 1 → PieceEnds s t x [s.statusWord] false ∧ t.port = s.port)
        ∧ (first = 2 → 1 < p.len →
            t.bridge = s.bridgeAt x (.statusAbove [s.statusWord] false)
              ∧ Presents s t .passThrough
                  { tag := x.burst.tag, addr := wordAddr x.burst (p.first + 1), body := .read (p.len - 1) })
        ∧ (first < 2 →
            t.bridge = s.bridgeAt x (.statusBelow s.statusWord)
              ∧ Presents s t .passThrough
                  { tag := x.burst.tag, addr := wordAddr x.burst p.first, body := .read (2 - first) })
        ∧ OnlyChanges [.bridge, .port, .cu] s t)
  ∧ (∀ (s : State) (a : Answer) (x : Txn) (p : Piece) (ps : List Piece) (sw : Word),
      s.replied .passThrough a → s.bridge.txn = some x → x.pieces = p :: ps → x.stage = .statusBelow sw →
      ∃ t, exec (.passThroughAnswer a) s = .next t
        ∧ (a.words.length + 1 < p.len →
            t.bridge = s.bridgeAt x (.statusAbove (a.words ++ [sw]) a.error)
              ∧ Presents s.portFreed t .passThrough
                  { tag := x.burst.tag, addr := wordAddr x.burst (p.first + a.words.length + 1),
                    body := .read (p.len - (a.words.length + 1)) })
        ∧ (p.len ≤ a.words.length + 1 →
            PieceEnds s t x (a.words ++ [sw]) a.error ∧ t.port = s.portFreed.port)
        ∧ OnlyChanges [.bridge, .port] s t)
  ∧ ∀ (s : State) (a : Answer) (x : Txn) (got : List Word) (error : Bool),
      s.replied .passThrough a → s.bridge.txn = some x → x.stage = .statusAbove got error →
      ∃ t, exec (.passThroughAnswer a) s = .next t
        ∧ PieceEnds s t x (got ++ a.words) (error || a.error) ∧ t.port = s.portFreed.port
        ∧ OnlyChanges [.bridge, .port] s t

/-- A setup block is valid exactly when every requirement of the table holds: the ranges of its fields, its
regions within memory and aligned, and no two of them, and none of them and the control page, sharing a byte
(R155). Validation names the check halfword's field first, and else the first field in ascending number whose
requirement, by its number in the table, fails (R156). The fields are read from their bits of the 16 words
(R176). -/
def Obligations.SetupBlockValid : Prop :=
  (∀ (straps : BitVec 2) (ws : List Word),
     let b := SetupBlock.ofWords ws
     validateSetup (ctrlSpan straps) ws = none ↔
       halfSum ws = 0xFFFF ∧ b.formatNumber = 1
         ∧ 64 ≤ b.wc ∧ b.wc ≤ 2048 ∧ b.wc % 16 = 0 ∧ 16 ≤ b.hc ∧ b.hc ≤ 1536 ∧ b.hc % 2 = 0
         ∧ b.slotSize % 64 = 0 ∧ 2 * b.wc * b.hc ≤ b.slotSize
         ∧ 320 ≤ b.wv ∧ b.wv ≤ 1920 ∧ b.wv % 16 = 0 ∧ 240 ≤ b.hv ∧ b.hv ≤ 1200 ∧ b.hv % 2 = 0
         ∧ 65536 ≤ b.storeLimit - b.storeBase ∧ b.storeLimit - b.storeBase ≤ 16777216
         ∧ (b.storeLimit - b.storeBase) % 4 = 0 ∧ b.margin ≤ 16777216
         ∧ b.classes.toList.count .capture ≤ 1 ∧ b.classes.toList.count .display ≤ 1
         ∧ b.t ≤ 31 ∧ b.g ≤ 63 ∧ b.b ≤ 223 ∧ b.b + 32 ≤ b.wp ∧ b.wp ≤ 255 ∧ 1 ≤ b.a ∧ b.a ≤ 128
         ∧ b.interval ≤ 2000
         ∧ (∀ r ∈ [b.aperture, b.slot 0, b.slot 1, b.slot 2, b.window, b.store, b.message],
             r.base % 64 = 0 ∧ r.base + r.size ≤ 0x2000000)
         ∧ [ctrlSpan straps, b.aperture, b.slot 0, b.slot 1, b.slot 2, b.window, b.store,
             b.message].Pairwise fun x y => ∀ addr : Nat, ¬ (x.has addr = true ∧ y.has addr = true))
  ∧ (∀ (straps : BitVec 2) (ws : List Word) (n : Nat),
     let b := SetupBlock.ofWords ws
     let apart := fun (x : Span) (ys : List Span) =>
       ∀ y ∈ ys, ∀ addr : Nat, ¬ (x.has addr = true ∧ y.has addr = true)
     let region := fun (x : Span) (ys : List Span) =>
       x.base % 64 = 0 ∧ x.base + x.size ≤ 0x2000000 ∧ apart x ys
     let page : Span := ctrlSpan straps
     let slots := [b.slot 0, b.slot 1, b.slot 2]
     let required : Nat → Prop := fun m =>
       match m with
       | 1 => b.formatNumber = 1
       | 2 => 64 ≤ b.wc ∧ b.wc ≤ 2048 ∧ b.wc % 16 = 0
       | 3 => 16 ≤ b.hc ∧ b.hc ≤ 1536 ∧ b.hc % 2 = 0
       | 4 => b.slotSize % 64 = 0 ∧ 2 * b.wc * b.hc ≤ b.slotSize
       | 5 => region b.aperture [page]
       | 6 => region (b.slot 0) [page, b.aperture]
       | 7 => region (b.slot 1) [page, b.aperture, b.slot 0]
       | 8 => region (b.slot 2) [page, b.aperture, b.slot 0, b.slot 1]
       | 9 => 320 ≤ b.wv ∧ b.wv ≤ 1920 ∧ b.wv % 16 = 0
       | 10 => 240 ≤ b.hv ∧ b.hv ≤ 1200 ∧ b.hv % 2 = 0
       | 11 => region b.window ([page, b.aperture] ++ slots)
       | 12 => b.storeBase % 64 = 0
       | 13 => b.storeBase + 65536 ≤ b.storeLimit ∧ b.storeLimit ≤ b.storeBase + 16777216
           ∧ (b.storeLimit - b.storeBase) % 4 = 0 ∧ b.storeLimit ≤ 0x2000000
           ∧ apart b.store ([page, b.aperture] ++ slots ++ [b.window])
       | 14 => b.margin ≤ 16777216
       | 15 => region b.message ([page, b.aperture] ++ slots ++ [b.window, b.store])
       | 16 => b.classes.toList.count .capture ≤ 1 ∧ b.classes.toList.count .display ≤ 1
       | 17 => b.t ≤ 31
       | 18 => b.g ≤ 63
       | 19 => b.b ≤ 223
       | 20 => b.b + 32 ≤ b.wp ∧ b.wp ≤ 255
       | 22 => 1 ≤ b.a ∧ b.a ≤ 128
       | 28 => b.interval ≤ 2000
       | _ => True
     validateSetup (ctrlSpan straps) ws = some n ↔
       (halfSum ws ≠ 0xFFFF ∧ n = 29)
         ∨ (halfSum ws = 0xFFFF ∧ IsFirst (List.range' 1 28) (fun m => ¬ required m) n))
  ∧ (∀ ws : List Word,
     let w := fun i : Nat => ws.getD i 0
     let bits := fun i lo width : Nat => ((w i).extractLsb' lo width).toNat
     let b := SetupBlock.ofWords ws
     b =
       { wc := bits 0 0 12, formatNumber := bits 0 12 4, hc := bits 0 16 16, wv := bits 1 0 16,
         hv := bits 1 16 16, slotSize := (w 2).toNat, apertureBase := (w 3).toNat,
         slotBase := #v[(w 4).toNat, (w 5).toNat, (w 6).toNat], viewBase := (w 7).toNat,
         storeBase := (w 8).toNat, storeLimit := (w 9).toNat, margin := (w 10).toNat,
         msgAddr := (w 11).toNat, classes := b.classes, interval := bits 12 16 15,
         auto := (w 12).getLsbD 31, t := bits 13 0 8, g := bits 13 8 8, b := bits 13 16 8,
         wp := bits 13 24 8, a := bits 14 0 8, kl := (w 14).extractLsb' 8 8,
         kc := (w 14).extractLsb' 16 8, borderY := (w 14).extractLsb' 24 8,
         borderCb := (w 15).extractLsb' 0 8, borderCr := (w 15).extractLsb' 8 8 }
     ∧ (∀ tag : Fin 8, b.classes[tag] =
         match bits 12 (2 * tag) 2 with | 0 => .plain | 1 => .control | 2 => .capture | _ => .display)
     ∧ b.aperture = { base := b.apertureBase, size := 2 * b.wc * b.hc }
     ∧ (∀ i : Fin 3, b.slot i = { base := b.slotBase[i], size := b.slotSize })
     ∧ b.window = { base := b.viewBase, size := 2 * b.wv * b.hv }
     ∧ b.store = { base := b.storeBase, size := b.storeLimit - b.storeBase }
     ∧ b.message = { base := b.msgAddr, size := 64 })
  ∧ (∀ straps : BitVec 2, ctrlSpan straps =
       { base :=
           match straps.toNat with
           | 0 => 0x0000000 | 1 => 0x07FFFC0 | 2 => 0x0FFFFC0 | _ => 0x1FFFFC0,
         size := 64 })
  ∧ ∀ (x : Span) (addr : Nat), x.has addr = true ↔ x.base ≤ addr ∧ addr < x.base + x.size

/-! ## Transactions of the controller port -/

/-- A transaction is accepted when none is in treatment: it keeps the class of its tag at that moment, it is
cut wherever two consecutive words lie in different areas and nowhere else, and its pieces are treated in
order up to the first that waits (R3 to R6). A write that lies wholly in slots is discarded: each piece counts
once, the answer is OK, and memory is not touched (R11, R13). While a transaction is in treatment the port
stalls (R4). -/
def Obligations.TransactionAccepted : Prop :=
  ∀ (s : State) (b : Burst), b.wf = true → s.awake = true →
    (s.bridge.txn = none → ∃ t ps, exec (.transactionAccept b) s = .next t
        ∧ OnlyChanges [.bridge] s t
        ∧ Settles s t
            { burst := b, cls := s.bridge.classes[b.tag], pieces := ps, stage := .untreated, words := [],
              error := false } (s.recut b ps)
        ∧ (ps.flatMap fun p => List.range' p.first p.len) = List.range b.len
        ∧ (∀ p ∈ ps, 1 ≤ p.len ∧ ∀ i < p.len,
            s.areaOf (wordAddr b (p.first + i)) = s.areaOf (wordAddr b p.first))
        ∧ (∀ i p q, ps[i]? = some p → ps[i + 1]? = some q →
            s.areaOf (wordAddr b (p.first + p.len - 1)) ≠ s.areaOf (wordAddr b q.first))
        ∧ (isWrite b = true → (∀ i < b.len, ∃ k, s.areaOf (wordAddr b i) = .slot k) →
            t.bridge = { s.bridge with
              guard := s.bridge.guard + BitVec.ofNat 16 ps.length,
              answer := some { tag := b.tag, error := false, words := [] } }))
      ∧ (s.bridge.txn ≠ none → exec (.transactionAccept b) s = .next s)

/-- A piece that passes becomes one pass-through transaction of its own kind, address, length, data,
byte-enables and tag (R7, R11, R12). A waiting piece that the guard discards by now, or that lies beyond the
top, is ended by this command: the model's reading (log entry 7). The memory's answer, ERROR or OK, is the
piece's, and the piece ends; that of the final chroma word records the chroma half first, and completes the frame
when the luma half is recorded (R6, R15, R26). -/
def Obligations.PassThrough : Prop :=
  (∀ (s : State) (x : Txn) (p : Piece),
     (s.faces x p .pass → ∃ t, exec .passThroughPiece s = .next t
         ∧ t.bridge = s.bridgeAt x (.passing false)
         ∧ Presents s t .passThrough
             { tag := x.burst.tag, addr := x.burst.addr + 4 * p.first,
               body :=
                 match x.burst.body with
                 | .read _ => .read p.len
                 | .write beats => .write ((beats.drop p.first).take p.len) }
         ∧ OnlyChanges [.bridge, .port] s t)
       ∧ (s.faces x p .discard ∨ s.faces x p .beyond → ∃ t, exec .passThroughPiece s = .next t
         ∧ Settles s t x (s.recut x.burst x.pieces) ∧ OnlyChanges [.bridge] s t))
  ∧ (∀ (s : State) (a : Answer) (x : Txn) (final : Bool),
     s.replied .passThrough a → s.bridge.txn = some x → x.stage = .passing final →
     ∃ t u, exec (.passThroughAnswer a) s = .next t ∧ t.port = s.portFreed.port
       ∧ PieceEnds u t x a.words a.error
       ∧ ((final = false ∨ s.asm.slot = none) → u = s ∧ OnlyChanges [.bridge, .port] s t)
       ∧ (∀ i, final = true → s.asm.slot = some i → s.asm.lumaHalf = false →
           u = s.setAsm { s.asm with chromaHalf := true } ∧ t.asm = { s.asm with chromaHalf := true }
             ∧ OnlyChanges [.bridge, .port, .asm] s t)
       ∧ (∀ i, final = true → s.asm.slot = some i → s.asm.lumaHalf = true →
           u = (s.setAsm { s.asm with chromaHalf := true }).frameCompletes i
             ∧ t.slots = u.slots ∧ t.enh = u.enh ∧ t.asm = u.asm
             ∧ OnlyChanges [.bridge, .port, .asm, .slots, .enh] s t))

/-! ## The control page -/

/-- Reports of control-page writes: an interpreted OPEN arms the open sequence or, when it is armed, opens
control; CLOSE or an unknown value closes it; RESTART while control is CLOSED leaves it so; every other report
ends an armed sequence (R150 to R152). An interpreted command pointer is ignored while control is CLOSED,
ignored and flagged while a command or the reload is in progress, and else taken: the part is busy, ownership
passes to HOST, and the packet is fetched, or a pointer that is no multiple of 16, runs above memory or leaves
the region "elsewhere" is completed REFUSED BAD_POINTER (R153, R154, R164). That the fetch or the message is
presented also while an aborted transaction of the Command Unit is granted is the model's choice (log entry 26).
Then the next word is reported, or the piece is sent to memory (R8), one word a command (log entry 7). -/
def Obligations.ControlPageReports : Prop :=
  (∀ (s : State) (x : Txn) (p : Piece) (k i : Nat) (b : Beat), s.reports x p k i b →
     let interpreted := x.cls = .control ∧ b.be = 0xF
     let acts := fun (c : Instr) (opened armed : Bool) => ∃ t, exec c s = .next t
       ∧ t.cu = { s.cu with opened := opened, armed := armed } ∧ ReportEnds s s.port t x p k
       ∧ OnlyChanges [.bridge, .port, .cu] s t
     (interpreted → i = 0 → b.data = 1 →
         (s.cu.armed = false → acts .openControl s.cu.opened true)
           ∧ (s.cu.armed = true → acts .openControl true false))
       ∧ (interpreted → i = 0 → b.data ≠ 1 → b.data ≠ 3 → acts .closeControl false false)
       ∧ (interpreted → i = 0 → b.data = 3 → s.cu.opened = false → acts .restart false false)
       ∧ ((¬ interpreted ∨ 2 ≤ i) → acts .controlPageWrite s.cu.opened false))
  ∧ (∀ (s : State) (x : Txn) (p : Piece) (k : Nat) (b : Beat), s.reports x p k 1 b → x.cls = .control →
     b.be = 0xF →
     ∃ t m, exec .commandPointer s = .next t ∧ ReportEnds s m t x p k
       ∧ OnlyChanges [.bridge, .port, .cu] s t
       ∧ (s.cu.opened = false → t.cu = { s.cu with armed := false } ∧ m = s.port)
       ∧ (s.cu.opened = true → (s.cu.cmd ≠ none ∨ s.cu.reloadResult = .none) →
           t.cu = { s.cu with armed := false, refusedBusy := true } ∧ m = s.port)
       ∧ (s.cu.opened = true → s.cu.cmd = none → s.cu.reloadResult ≠ .none →
           let good := b.data.toNat % 16 = 0 ∧ b.data.toNat ≤ 0x1FFFFF0
             ∧ ∀ j < 4, s.areaOf (b.data.toNat + 4 * j) = .elsewhere
           let fetch : Burst := { tag := 0, addr := b.data.toNat, body := .read 4 }
           let w : MessageWrite :=
             { addr := s.cu.msgAddr,
               words := s.messageWords (Result.refuse .badPointer) 0 false false false, second := false }
           (good → m = s.cmdPort .packet fetch
             ∧ t.cu = { s.cu with
                 armed := false, cmd := some { packet := none, stage := .fetch }, refusedBusy := false,
                 owner := .host, held := s.cmdHeld .packet fetch })
           ∧ (¬ good → m = s.cmdPort .message w.upper
             ∧ t.cu = { s.cu with
                 armed := false,
                 cmd := some { packet := none, stage := .message w .refused .badPointer },
                 refusedBusy := false, owner := .host, held := s.cmdHeld .message w.upper })))

/-- The answer to a packet fetch: ERROR completes the command REFUSED BAD_POINTER; else the packet's fields are
read from its four words, a code outside 1 to 11 is refused BAD_COMMAND, in BYPASS every command but SETUP and
STATUS is refused NOT_RUNNING, and any other is handed to its owning block (R154, R163, R177). -/
def Obligations.PacketFetched : Prop :=
  ∀ (s : State) (w0 w1 w2 w3 : Word) (a : Answer), s.replied .packet a →
    s.cu.cmd = some { packet := none, stage := .fetch } →
    ∃ t, exec (.packetFetch a) s = .next t ∧ OnlyChanges [.port, .cu] s t
      ∧ (a.error = true → CompletedUnread s.portFreed t (Result.refuse .badPointer))
      ∧ (a.error = false → a.words = [w0, w1, w2, w3] →
          let p : Packet :=
            { code := w0.toNat % 256, modifier := w0.toNat / 256 % 16, ie := w0.getLsbD 12,
              release := w0.getLsbD 13, p1 := w1, p2 := w2, p3 := w3 }
          (p.code < 1 ∨ 11 < p.code → Completed s.portFreed t p (Result.refuse .badCommand))
          ∧ (1 ≤ p.code → p.code ≤ 11 → s.bridge.run = .bypass → p.code ≠ 1 → p.code ≠ 2 →
              Completed s.portFreed t p (Result.refuse .notRunning))
          ∧ (1 ≤ p.code → p.code ≤ 11 → (s.bridge.run = .run ∨ p.code = 1 ∨ p.code = 2) →
              t.port = s.portFreed.port
                ∧ t.cu = { s.cu with cmd := some { packet := some p, stage := .dispatched } }))

/-- RESTART while control is OPEN. The Command Unit drops its command, notices and NOTICE write, closes control,
gives up the buffer and lowers ATTN, and keeps the outcome of the last command and of the reload. The view
becomes the LIVE default with an empty stack, its holds and the copy's pin released: a COMPLETE slot whose last
hold ends becomes EMPTY, unless it is the newest, and the Slot Manager keeps everything else, the pending
set and the frame counters among it; fired flags clear. A copy and a traversal end, a mount scan goes on; an
aborted commit leaves the position LOST, an aborted clear the store UNFORMATTED and empty with position 0, and
every other item of the store is kept. Their waiting requests are withdrawn and the answer of a granted one is no
longer wanted (R21, R33, R98, R110, R117, R119, R131, R135, R161). -/
def Obligations.RestartCarriedOut : Prop :=
  ∀ (s : State) (x : Txn) (p : Piece) (k : Nat) (b : Beat), s.reports x p k 0 b → x.cls = .control →
    b.be = 0xF → b.data = 3 → s.cu.opened = true →
    let aborted := fun q : Purpose =>
      q ∈ [.viewHeader, .popHeader, .copy, .commit, .clearWrite, .moveRead, .advanceRead, .packet,
        .setupBlock, .triggerList, .message, .notice]
    ∃ t m, exec .restart s = .next t ∧ ReportEnds s m t x p k
      ∧ (∀ q r, m.waiting q = some r ↔ s.port.waiting q = some r ∧ ¬ aborted r.purpose)
      ∧ (∀ g, m.granted = some g ↔ ∃ g', s.port.granted = some g' ∧ g.request = g'.request
          ∧ g.live = (g'.live && !decide (aborted g'.request.purpose)))
      ∧ t.cu = { s.cu with
          opened := false, armed := false, cmd := none, refusedBusy := false, owner := .host,
          notices := Notices.empty, notice := none, held := none, attn := false }
      ∧ t.view = { current := { source := .live, z := 64, zt := 64, cx := 0, cy := 0 }, stack := [] }
      ∧ t.timer = { s.timer with
          triggers := s.timer.triggers.map fun e => { e with fired := false } }
      ∧ t.store.copy = none
      ∧ t.store.trav =
          (match s.store.trav with | some (.scan o n) => some (.scan o n) | _ => none)
      ∧ (s.port.grantedFor (· == .commit) = true →
          t.store = { s.store with copy := none, trav := t.store.trav, position := none })
      ∧ (s.port.grantedFor (· == .clearWrite) = true →
          t.store = { s.store with
            copy := none, trav := t.store.trav, formatted := false, eod := 0, position := some 0 })
      ∧ (s.port.grantedFor (· == .commit) = false → s.port.grantedFor (· == .clearWrite) = false →
          t.store = { s.store with copy := none, trav := t.store.trav })
      ∧ t.slots = { s.slots with recs := t.slots.recs }
      ∧ (∀ i, let r := s.slotRec i
          let ends := (s.view.stack.map fun e => holdsSlot e.held i).sum
            + holdsSlot s.view.current.held i + holdsSlot s.pin i
          t.slotRec i =
            { r with
              hold := r.hold - ends,
              state := if 1 ≤ ends ∧ r.hold ≤ ends ∧ r.state = .complete ∧ s.newest ≠ some i then .empty
                else r.state })
      ∧ OnlyChanges [.bridge, .port, .slots, .view, .store, .timer, .cu] s t

/-! ## Commands and messages -/

/-- STATUS completes DONE with the frame number as argument and reports the eight counters and the enhancement
set in words 8 to 13; with modifier 1, STATUS_CLEAR, the counters become 0 in the same change; a modifier that
is neither is refused BAD_VALUE (R166, R173, R178; log entries 9 and 13). -/
def Obligations.StatusReports : Prop :=
  ∀ (s : State) (p : Packet), s.hands 2 p →
    let o : Result := { cls := .done, reason := .none, arg := s.timer.frameNumber, residual := 0 }
    let w := replyOf s p o true
    let pair := fun x y : BitVec 16 => y ++ x
    let set := s.enh.force
    (s.enh.force.inBounds →
      w.words.drop 8 =
        [pair s.slots.started s.slots.completed, pair s.slots.abandoned s.slots.dropped,
         pair s.slots.broken s.timer.overruns, pair s.bridge.guard s.comp.errors,
         BitVec.ofNat 8 set.wp ++ BitVec.ofNat 8 set.b ++ BitVec.ofNat 8 set.g ++ BitVec.ofNat 8 set.t,
         (0 : BitVec 7) ++ BitVec.ofBool set.auto ++ BitVec.ofNat 8 set.a ++ BitVec.ofNat 16 set.k,
         0, 0])
    ∧ (p.modifier = 0 → ∃ t, exec .status s = .next t
        ∧ CommandReads s t (some p) (.message w .done .none) .message w.upper ∧ OnlyChanges [.port, .cu] s t)
    ∧ (p.modifier = 1 → ∃ t, exec .statusClear s = .next t
        ∧ CommandReads s t (some p) (.message w .done .none) .message w.upper
        ∧ t.slots = { s.slots with
            started := 0, completed := 0, abandoned := 0, dropped := 0, broken := 0 }
        ∧ t.timer = { s.timer with overruns := 0 } ∧ t.bridge = { s.bridge with guard := 0 }
        ∧ t.comp = { s.comp with errors := 0 }
        ∧ OnlyChanges [.port, .cu, .slots, .timer, .bridge, .comp] s t)
    ∧ (2 ≤ p.modifier → ∃ t, exec .status s = .next t
        ∧ Completed s t p { cls := .refused, reason := .badValue, arg := 0, residual := 0 }
        ∧ OnlyChanges [.port, .cu] s t)

/-- The answers to the halves of a message and of a NOTICE, whatever their status: after the upper half
the lower is presented. After the lower half of a message the status word takes class and reason, busy clears,
ATTN rises if IE was set, the part owns the buffer if RELEASE was set, and a NOTICE that is due follows; after
that of a NOTICE ATTN rises, and a transaction of the command in progress that waited behind it is presented
(R15, R165, R168, R170, R171). The words of a message: each field of words 0 to 7 at its bits, every other bit 0,
and words 8 to 15 of 0 where no counters are reported; the upper half is words 8 to 15, at 32 bytes above the
buffer address, with all byte-enables set and tag 0; the codes of the classes and reasons (R14, R103, R165 to
R167, R178). -/
def Obligations.MessagesWritten : Prop :=
  (∀ (s : State) (o : Result) (code : Nat) (ie release report : Bool),
    let ws := s.messageWords o code ie release report
    let w := fun i : Nat => ws.getD i 0
    let n := s.cu.notices
    let flag := BitVec.ofBool
    code < 256 → o.residual < 65536 →
    ws.length = 16
      ∧ w 0 = (0 : BitVec 6) ++ flag release ++ flag ie ++ BitVec.ofNat 8 code
          ++ BitVec.ofNat 8 o.reason.code
          ++ BitVec.ofNat 8 (match o.cls with
              | .done => 0 | .alert => 1 | .refused => 2 | .retry => 3 | .lost => 4 | .notice => 5)
      ∧ w 1 = o.arg ∧ w 2 = BitVec.ofNat 32 o.residual
      ∧ w 3 = (match s.store.position with | some p => BitVec.ofNat 32 p | none => 0xFFFFFFFF)
      ∧ w 4 = BitVec.ofNat 32 s.store.eod
      ∧ w 5 = (0 : BitVec 8) ++ flag n.positionLost ++ flag n.lowSpace ++ flag n.captureFailed.isSome
          ++ flag n.triggerNote.isSome ++ flag n.lessonEnd ++ flag n.viewReset ++ flag n.signalBack
          ++ flag n.signalLost ++ s.store.serial
      ∧ w 6 = (0 : BitVec 8) ++ BitVec.ofNat 8 ((n.captureFailed.map Reason.code).getD 0)
          ++ n.triggerNote.getD 0
      ∧ w 7 = 0 ∧ (report = false → ws.drop 8 = List.replicate 8 0))
  ∧ (∀ w : MessageWrite, w.upper =
      { tag := 0, addr := w.addr + 32,
        body := .write ((w.words.drop 8).map fun d => { data := d, be := 0xF }) })
  ∧ (∀ r : Reason, r.code =
      match r with
      | .none => 0 | .markPassed => 1 | .endOfData => 2 | .startOfStore => 3 | .lowSpace => 4
      | .staleContext => 5 | .badPointer => 16 | .badCommand => 17 | .badValue => 18 | .notRunning => 19
      | .storeBusy => 20 | .pageInUse => 21 | .storeProtected => 22 | .positionLost => 23
      | .notFormatted => 24 | .noSpace => 25 | .noFrame => 26 | .notAPage => 27 | .stackFull => 28
      | .stackEmpty => 29 | .listOrder => 30 | .setupInvalid => 31 | .regionsLocked => 32
      | .setupPending => 33 | .memoryError => 48 | .headerBad => 56)
  ∧ (∀ (s : State) (a : Answer) (p : Option Packet) (w : MessageWrite) (cls : TermClass) (reason : Reason),
     s.replied .message a → s.cu.cmd = some { packet := p, stage := .message w cls reason } →
     ∃ t, exec (.messageWriteAnswer a) s = .next t ∧ OnlyChanges [.port, .cu] s t
       ∧ (w.second = false →
           CommandReads s.portFreed t p (.message { w with second := true } cls reason) .message
             { tag := 0, addr := w.addr, body := .write (fullBeats (w.words.take 8)) })
       ∧ (w.second = true →
           NoticeDue s.portFreed
             { s.cu with
               cmd := none, lastClass := some cls, lastReason := reason,
               attn := s.cu.attn || (p.map Packet.ie).getD false,
               owner := if (p.map Packet.release).getD false then .part else s.cu.owner } t))
  ∧ (∀ (s : State) (a : Answer) (w : MessageWrite), s.replied .notice a → s.cu.notice = some w →
     ∃ t, exec (.noticeWriteAnswer a) s = .next t ∧ OnlyChanges [.port, .cu] s t
       ∧ (w.second = false →
           t.cu = { s.cu with notice := some { w with second := true } }
             ∧ Presents s.portFreed t .notice
                 { tag := 0, addr := w.addr, body := .write (fullBeats (w.words.take 8)) })
       ∧ (w.second = true →
           t.cu = { s.cu with notice := none, attn := true, held := none }
             ∧ (s.cu.held = none → t.port = s.portFreed.port)
             ∧ ∀ r, s.cu.held = some r → t.port =
                 s.portFreed.port.put r.purpose.requester (some r)))

/-- The watch, on in RUN with an interval of 1 or more, expires when the signal-present flag is true and the
time since the reference, modulo 2^32, has reached the interval: the flag becomes false, SIGNAL_LOST is posted
and removes a pending SIGNAL_BACK, and a NOTICE that is due is written. At any other time nothing expires; so
one loss gives one expiry (R139, R140, R169, R170). -/
def Obligations.WatchExpires : Prop :=
  ∀ s : State, s.awake = true →
    let expired := s.bridge.run = .run ∧ 1 ≤ s.timer.interval ∧ s.timer.signal = true
      ∧ s.timer.interval * 1000 ≤ (s.timer.localTime - s.timer.reference).toNat
    (¬ expired → exec .watchExpiry s = .next s)
      ∧ (expired → ∃ t, exec .watchExpiry s = .next t
        ∧ t.timer = { s.timer with signal := false }
        ∧ NoticeDue s
            { s.cu with notices := { s.cu.notices with signalLost := true, signalBack := false } } t
        ∧ exec .watchExpiry t = .next t
        ∧ OnlyChanges [.timer, .port, .cu] s t)

/-! ## Setup, reload and the mount scan -/

/-- SETUP and the reload read a block: the command, the setup pointer and the first half lead to the next read
of eight words; an ERROR or a block above the top of memory ends the command RETRY MEMORY_ERROR and the reload
INVALID; a block that fails validation ends them SETUP_INVALID with the field's number, and INVALID, with
nothing else changed (R156, R157, R160; log entry 8). -/
def Obligations.SetupBlockRead : Prop :=
  (∀ (s : State) (p : Packet), s.hands 1 p →
    let addr := p.p1.toNat / 4 * 4
    ∃ t, exec .setup s = .next t ∧ OnlyChanges [.port, .cu] s t
      ∧ (0x1FFFFFC < addr + 60 → Completed s t p Result.retry)
      ∧ (addr + 60 ≤ 0x1FFFFFC →
          CommandReads s t (some p) (.setupRead addr []) .setupBlock
            { tag := 0, addr := addr, body := .read 8 }))
  ∧ (∀ (s : State) (a : Answer) (p : Packet) (addr : Nat) (got : List Word), s.replied .setupBlock a →
      s.cu.cmd = some { packet := some p, stage := .setupRead addr got } →
      ∃ t, exec (.setupBlockReadAnswer a) s = .next t
        ∧ (a.error = true → Completed s.portFreed t p Result.retry ∧ OnlyChanges [.port, .cu] s t)
        ∧ (a.error = false → got = [] →
            CommandReads s.portFreed t (some p) (.setupRead addr a.words) .setupBlock
                { tag := 0, addr := addr + 32, body := .read 8 }
              ∧ OnlyChanges [.port, .cu] s t)
        ∧ ∀ n, a.error = false → got ≠ [] →
            validateSetup (ctrlSpan s.bridge.straps) (got ++ a.words) = some n →
            Completed s.portFreed t p
                { cls := .refused, reason := .setupInvalid, arg := toWord n, residual := 0 }
              ∧ OnlyChanges [.port, .cu] s t)
  ∧ ∀ (s : State) (a : Answer), s.replied .reloadRead a →
      ∃ t, exec (.reloadReadAnswer a) s = .next t
        ∧ (s.cu.reload = some .pointer →
            let addr := (a.words.getD 0 0).toNat / 4 * 4
            OnlyChanges [.port, .cu] s t
              ∧ ((a.error = true ∨ 0x1FFFFFC < addr + 60) → t.port = s.portFreed.port
                  ∧ t.cu = { s.cu with reload := none, reloadResult := .invalid })
              ∧ (a.error = false → addr + 60 ≤ 0x1FFFFFC →
                  Presents s.portFreed t .reloadRead { tag := 0, addr := addr, body := .read 8 }
                    ∧ t.cu = { s.cu with reload := some (.block addr []) }))
        ∧ ∀ addr got, s.cu.reload = some (.block addr got) →
            ((a.error = true ∨ got ≠ [] ∧ ∃ n,
                validateSetup (ctrlSpan s.bridge.straps) (got ++ a.words) = some n) →
              t.port = s.portFreed.port ∧ t.cu = { s.cu with reload := none, reloadResult := .invalid }
                ∧ OnlyChanges [.port, .cu] s t)
            ∧ (a.error = false → got = [] →
              Presents s.portFreed t .reloadRead { tag := 0, addr := addr + 32, body := .read 8 }
                ∧ t.cu = { s.cu with reload := some (.block addr a.words) }
                ∧ OnlyChanges [.port, .cu] s t)

/-- A valid block in BYPASS, of SETUP or of the reload, is applied in one change: the part enters RUN with the
block's regions, class table, geometry, enhancement set with its K, view set, watch and message buffer, and the
mount scan of its store starts from an UNFORMATTED, empty store (R1, R2, R54, R65, R108, R139, R157,
R160). -/
def Obligations.SetupAppliedInBypass : Prop :=
  ∀ (s : State) (a : Answer) (got : List Word) (addr : Nat),
    s.bridge.run = .bypass → a.error = false → got ≠ [] →
    validateSetup (ctrlSpan s.bridge.straps) (got ++ a.words) = none →
    let b := SetupBlock.ofWords (got ++ a.words)
    let views : ViewSet :=
      { wv := b.wv, hv := b.hv, kl := b.kl, kc := b.kc, borderY := b.borderY, borderCb := b.borderCb,
        borderCr := b.borderCr }
    let applied := fun (c : Instr) (u : CommandUnit) => ∃ t, exec c s = .next t
      ∧ t.bridge = { s.bridge with
          run := .run, classes := b.classes,
          regions :=
            { apertureBase := b.apertureBase, slotSize := b.slotSize, slotBase := b.slotBase,
              viewBase := b.viewBase } }
      ∧ t.slots = { s.slots with wc := b.wc, hc := b.hc }
      ∧ t.enh = { s.enh with
          force :=
            { t := b.t, g := b.g, b := b.b, wp := b.wp,
              k := (65280 + (b.wp - b.b) / 2) / (b.wp - b.b), auto := b.auto, a := b.a } }
      ∧ t.comp = { s.comp with staged := views, latch := { s.comp.latch with set := views } }
      ∧ t.timer = { s.timer with interval := b.interval, reference := s.timer.localTime, signal := true }
      ∧ t.store = { s.store with
          base := b.storeBase, limit := b.storeLimit, margin := b.margin, formatted := false,
          protect := false, position := some 0, eod := 0, serial := 0, lesson := 0,
          trav := some (.scan 0 none), deferred := none }
      ∧ t.cu = u
      ∧ Presents s.portFreed t .scanRead { tag := 0, addr := b.storeBase, body := .read 8 }
      ∧ OnlyChanges [.bridge, .port, .slots, .enh, .comp, .store, .timer, .cu] s t
    (∀ p, s.replied .setupBlock a →
        s.cu.cmd = some { packet := some p, stage := .setupRead addr got } →
        applied (.setupBlockReadAnswer a) { s.cu with
          cmd := some { packet := some p, stage := .setupScan }, msgAddr := b.msgAddr })
      ∧ (s.replied .reloadRead a → s.cu.reload = some (.block addr got) →
        applied (.reloadReadAnswer a) { s.cu with reload := some .scan, msgAddr := b.msgAddr })

/-- A valid block in RUN: the first locked field that differs, or the first region that clashes with one in
force beside it, refuses the command REGIONS_LOCKED with its number; a new store region while the view shows a
page refuses it PAGE_IN_USE; nothing is applied. Else the pending set, the staged view set, the class table,
the watch interval and the message buffer are taken at once. An unchanged store region completes DONE with the
new margin; a changed one starts its mount scan, or waits for the engine in use (R30, R65, R158, R159). That the
scan's first read is presented also while an aborted transaction of the Store Controller is granted is the model's
choice (log entry 26). -/
def Obligations.SetupAppliedInRun : Prop :=
  ∀ (s : State) (a : Answer) (p : Packet) (addr : Nat) (got : List Word), s.replied .setupBlock a →
    s.cu.cmd = some { packet := some p, stage := .setupRead addr got } → a.error = false → got ≠ [] →
    s.bridge.run = .run → validateSetup (ctrlSpan s.bridge.straps) (got ++ a.words) = none →
    let b := SetupBlock.ofWords (got ++ a.words)
    let r := s.bridge.regions
    let target := match s.store.deferred with
      | some d => (d.base, d.limit)
      | none => (s.store.base, s.store.limit)
    let moves := (b.storeBase, b.storeLimit) ≠ target
    let differs := fun n : Nat =>
      n = 4 ∧ b.slotSize ≠ r.slotSize ∨ n = 5 ∧ b.apertureBase ≠ r.apertureBase
        ∨ n = 6 ∧ b.slotBase[0] ≠ r.slotBase[0] ∨ n = 7 ∧ b.slotBase[1] ≠ r.slotBase[1]
        ∨ n = 8 ∧ b.slotBase[2] ≠ r.slotBase[2] ∨ n = 11 ∧ b.viewBase ≠ r.viewBase
    let clashes := fun n : Nat =>
      n = 5 ∧ ¬ b.aperture.apart s.storeSpan ∨ n = 11 ∧ ¬ b.window.apart s.storeSpan
        ∨ n = 13 ∧ moves ∧ ¬ (b.store.apart s.apertureSpan ∧ b.store.apart s.windowSpan)
        ∨ n = 15 ∧ ¬ (b.message.apart s.apertureSpan ∧ b.message.apart s.windowSpan
            ∧ b.message.apart s.storeSpan)
    let refused := fun (t : State) (reason : Reason) (n : Nat) =>
      Completed s.portFreed t p { cls := .refused, reason := reason, arg := toWord n, residual := 0 }
        ∧ OnlyChanges [.port, .cu] s t
    ∃ t, exec (.setupBlockReadAnswer a) s = .next t
      ∧ (∀ n, IsFirst [4, 5, 6, 7, 8, 11] differs n → refused t .regionsLocked n)
      ∧ ((∀ n, ¬ differs n) →
        (∀ n, IsFirst [5, 11, 13, 15] clashes n → refused t .regionsLocked n)
        ∧ ((∀ n, ¬ clashes n) →
          (moves → s.currentPage ≠ none → refused t .pageInUse 0)
          ∧ ((moves → s.currentPage = none) →
            t.slots = { s.slots with
                staged := some
                  { wc := b.wc, hc := b.hc, t := b.t, g := b.g, b := b.b, wp := b.wp, auto := b.auto,
                    a := b.a } }
            ∧ t.comp = { s.comp with
                staged :=
                  { wv := b.wv, hv := b.hv, kl := b.kl, kc := b.kc, borderY := b.borderY,
                    borderCb := b.borderCb, borderCr := b.borderCr } }
            ∧ t.bridge = { s.bridge with classes := b.classes }
            ∧ t.timer = { s.timer with interval := b.interval }
            ∧ OnlyChanges [.bridge, .port, .slots, .comp, .store, .timer, .cu] s t
            ∧ (¬ moves →
              (s.store.deferred = none → t.store = { s.store with margin := b.margin })
              ∧ (∀ d, s.store.deferred = some d →
                  t.store = { s.store with deferred := some { d with margin := b.margin } })
              ∧ t.cu.msgAddr = b.msgAddr
              ∧ Completed (s.portFreed.setCu { s.cu with msgAddr := b.msgAddr }) t p (Result.done 0))
            ∧ (moves → s.enginesIdle = true →
              t.store = { s.store with
                  base := b.storeBase, limit := b.storeLimit, margin := b.margin, formatted := false,
                  protect := false, position := some 0, eod := 0, serial := 0, lesson := 0,
                  trav := some (.scan 0 none), deferred := none }
              ∧ t.cu = { s.cu with
                  msgAddr := b.msgAddr, cmd := some { packet := some p, stage := .setupScan } }
              ∧ Presents s.portFreed t .scanRead { tag := 0, addr := b.storeBase, body := .read 8 })
            ∧ (moves → s.enginesIdle = false →
              t.store = { s.store with
                  deferred := some { base := b.storeBase, limit := b.storeLimit, margin := b.margin } }
              ∧ t.cu = { s.cu with
                  msgAddr := b.msgAddr, cmd := some { packet := some p, stage := .setupWait } }
              ∧ t.port = s.portFreed.port))))

/-- A read of the mount scan at offset p: an ERROR or a bad header ends it UNFORMATTED; a good END ends it
FORMATTED with that offset as end of data, position 0 and the serial after the last one met; any other good
record leads to the read behind it. At its end the traversal engine is idle, and the SETUP or the reload that
started it completes DONE or LOADED whatever the store state (R109, R110, R157, R160). A region change that
waited starts with its scan and margin once the engines are idle (R108, R159), its first read presented also while
an aborted transaction of the Store Controller is granted: the model's choice (log entry 26). -/
def Obligations.MountScan : Prop :=
  (∀ (s : State) (a : Answer) (o : Nat) (last : Option (BitVec 16)), s.replied .scanRead a →
    s.store.trav = some (.scan o last) →
    let judged := judgeScan (s.store.limit - s.store.base) o a.words
    let ends := fun t : State =>
      (s.cu.reload = some .scan →
          t.cu = { s.cu with reload := none, reloadResult := .loaded } ∧ t.port = s.portFreed.port)
        ∧ (∀ p, s.cu.reload ≠ some .scan →
            s.cu.cmd = some { packet := some p, stage := .setupScan } →
            Completed s.portFreed t p (Result.done 0))
        ∧ (s.cu.reload ≠ some .scan → s.cmdStage ≠ some .setupScan →
            t.cu = s.cu ∧ t.port = s.portFreed.port)
    ∃ t, exec (.mountScanReadAnswer a) s = .next t ∧ OnlyChanges [.port, .store, .cu] s t
      ∧ ((a.error = true ∨ judged = none) → t.store = { s.store with trav := none } ∧ ends t)
      ∧ (∀ h, a.error = false → judged = some h → h.kind = .endRecord →
          t.store = { s.store with
              trav := none, formatted := true, eod := o, position := some 0,
              serial := (last.map fun n => n + 1).getD 0 }
            ∧ ends t)
      ∧ (∀ h, a.error = false → judged = some h → h.kind ≠ .endRecord →
          t.store = { s.store with trav := some (.scan (o + h.length) (some h.serial)) }
            ∧ t.cu = s.cu
            ∧ Presents s.portFreed t .scanRead
                { tag := 0, addr := s.store.base + (o + h.length), body := .read 8 }))
  ∧ ∀ (s : State) (d : RegionChange), s.resetN = true → s.store.deferred = some d →
      s.store.copy = none → s.store.trav = none →
      ∃ t, exec .deferredMountScan s = .next t
        ∧ t.store = { s.store with
            base := d.base, limit := d.limit, margin := d.margin, formatted := false, protect := false,
            position := some 0, eod := 0, serial := 0, lesson := 0, trav := some (.scan 0 none),
            deferred := none }
        ∧ t.cu = { s.cu with
            cmd := s.cu.cmd.map fun c => if c.stage = .setupWait then { c with stage := .setupScan } else c }
        ∧ Presents s t .scanRead { tag := 0, addr := d.base, body := .read 8 }
        ∧ OnlyChanges [.port, .store, .cu] s t

/-! ## Capture frames -/

/-- A frame start, in its order: the frame still in progress ends, a FILLING slot becoming EMPTY and counted,
its line writes withdrawn; a pending set is applied; the frame number steps, the signal is found present and
fired flags clear; the started counter steps; the lowest EMPTY slot, else the newest when nobody holds it, else
none is chosen and filled, or the drop counted; the Assembler starts afresh and the enhancement set in force is
latched with a clear histogram (R22 to R25, R36, R55, R136, R141, R145). -/
def Obligations.FrameStarts : Prop :=
  ∀ s : State,
    let e := s.endFrame
    let u := e.applyPending
    let t := s.frameStart
    let n := u.timer.frameNumber + 1
    (e.asm = { s.asm with frame := none, queue := [], running := none }
      ∧ (∀ q r, e.port.waiting q = some r ↔ s.port.waiting q = some r ∧ r.purpose ≠ .lineWrite)
      ∧ (∀ g, s.port.granted = some g →
          e.port.granted = some { g with live := g.live && g.request.purpose != .lineWrite })
      ∧ (s.port.granted = none → e.port.granted = none)
      ∧ (s.asm.slot = none → e.slots = s.slots)
      ∧ (∀ i, s.asm.slot = some i →
          (∀ j, e.slotRec j = if j = i then { s.slotRec i with state := .empty } else s.slotRec j)
            ∧ e.slots = { s.slots with recs := e.slots.recs, abandoned := s.slots.abandoned + 1 })
      ∧ OnlyChanges [.asm, .port, .slots] s e)
    ∧ t.timer = { u.timer with
        frameNumber := n, reference := u.timer.localTime, signal := true,
        triggers := u.timer.triggers.map fun x => { x with fired := false } }
    ∧ (u.timer.signal = true → t.cu = u.cu ∧ t.port = u.port)
    ∧ (u.timer.signal = false →
        NoticeDue u { u.cu with notices := { u.cu.notices with signalBack := true, signalLost := false } } t)
    ∧ (∃ choice : Option (Fin 3),
        (∀ i, (u.slotRec i).state = .empty → (∀ j, j < i → (u.slotRec j).state ≠ .empty) →
            choice = some i)
        ∧ ((∀ i, (u.slotRec i).state ≠ .empty) →
            choice = ((u.setTimer t.timer).newest).filter fun i => (u.slotRec i).hold == 0)
        ∧ (choice = none →
            t.slots = { u.slots with
              started := u.slots.started + 1, dropped := u.slots.dropped + 1 })
        ∧ (∀ i, choice = some i →
            (∀ j, t.slotRec j =
              if j = i then
                { state := .filling, gen := (u.slotRec i).gen + 1, frame := n, wc := u.slots.wc,
                  hc := u.slots.hc, broken := false, hold := (u.slotRec i).hold }
              else u.slotRec j)
            ∧ t.slots = { u.slots with recs := t.slots.recs, started := u.slots.started + 1 })
        ∧ t.asm.frame = some { number := n, slot := choice }
        ∧ t.asm.mode = (if choice = none then .dropped else .normal))
    ∧ t.asm.wc = u.slots.wc ∧ t.asm.hc = u.slots.hc ∧ t.asm.ptr = 0 ∧ t.asm.finalWord = false
    ∧ t.asm.lumaHalf = false ∧ t.asm.chromaHalf = false ∧ (∀ i : Fin 4, t.asm.ring[i] = .free)
    ∧ t.asm.queue = [] ∧ t.asm.running = none
    ∧ t.enh.force = u.enh.force ∧ t.enh.latch = u.enh.force ∧ (∀ i : Fin 64, t.enh.hist[i] = 0)
    ∧ OnlyChanges [.timer, .cu, .port, .slots, .asm, .enh] u t

/-- A pending set is applied at a frame start when the copy engine is idle, and stays pending otherwise: its
enhancement values with their K and its geometry are put in force. A new Wc and Hc empty every slot and end
every hold, keep the generations, release the composer latch, drop the holds of stack entries and turn a FROZEN
view LIVE with a VIEW_RESET notice; the same Wc and Hc leave slots and view as they are (R22, R30, R31, R54,
R63, R70, R97). That the released latch keeps its source geometry, zoom step and origin is the model's choice (log
entry 15). -/
def Obligations.PendingSetApplied : Prop :=
  ∀ (s : State) (g : StagedCapture), s.slots.staged = some g →
    (s.store.copy ≠ none → s.applyPending = s)
    ∧ (s.store.copy = none → ∃ t, s.applyPending = t
      ∧ t.enh = { s.enh with
          force :=
            { t := g.t, g := g.g, b := g.b, wp := g.wp, k := (65280 + (g.wp - g.b) / 2) / (g.wp - g.b),
              auto := g.auto, a := g.a } }
      ∧ t.slots = { s.slots with recs := t.slots.recs, wc := g.wc, hc := g.hc, staged := none }
      ∧ OnlyChanges [.enh, .slots, .comp, .view, .cu, .port] s t
      ∧ (s.slots.wc = g.wc → s.slots.hc = g.hc →
          t.slots.recs = s.slots.recs ∧ OnlyChanges [.enh, .slots] s t)
      ∧ (¬ (s.slots.wc = g.wc ∧ s.slots.hc = g.hc) →
          (∀ i, t.slotRec i = { s.slotRec i with state := .empty, hold := 0 })
          ∧ t.comp = { s.comp with latch := { s.comp.latch with latched := false, source := .none } }
          ∧ t.view.stack = s.view.stack.map (fun e => { e with standing := false })
          ∧ (s.view.current.held = none →
              t.view.current = s.view.current ∧ t.cu = s.cu ∧ t.port = s.port)
          ∧ (s.view.current.held ≠ none →
              t.view.current = { s.view.current with source := .live }
                ∧ NoticeDue s { s.cu with notices := { s.cu.notices with viewReset := true } } t)))

/-- A capture luma piece, after the frame start that its first word at aperture offset 0 makes: with no
frame in progress it is discarded and counted; in a DROPPED frame it only moves the pointer and reports its line
end; in a NORMAL frame its words are taken one at a time when it is in order, and else the sequence breaks and
it is taken raw; in a RAW frame it is taken raw, into the lowest free entry (the model's reading, log entry 18). A
held piece goes on when the ring entry of its next word, or for a raw piece any entry, is free (log entry 28; R22,
R28, R37, R39, R44, R45, R47). -/
def Obligations.CaptureLumaTaken : Prop :=
  (∀ (s : State) (x : Txn) (p : Piece), s.faces x p .captureLuma →
     let o := x.burst.addr + 4 * p.first - s.bridge.regions.apertureBase
     let u := if o = 0 then (s.setTxn (some x)).frameStart else s.setTxn (some x)
     let beats := pieceBeats x.burst p
     let inOrder := o = u.asm.ptr ∧ ∀ b ∈ beats, b.be = 0xF
     ∃ t, exec .captureLumaPiece s = .next t
       ∧ (u.asm.frame = none →
           PieceEnds (u.setBridge { u.bridge with guard := u.bridge.guard + 1 }) t x [] false
             ∧ OnlyChanges [.bridge] u t)
       ∧ (u.asm.frame ≠ none → u.asm.mode = .normal → inOrder → TakesWords u t x p 0)
       ∧ (u.asm.frame ≠ none → u.asm.mode = .normal → ¬ inOrder → TakesRaw u.sequenceBreak t x o beats)
       ∧ (u.asm.frame ≠ none → u.asm.mode = .raw → TakesRaw u t x o beats)
       ∧ (u.asm.frame ≠ none → u.asm.mode = .dropped →
           ∃ v, v = (u.setAsm { u.asm with ptr := o + 4 * p.len }).pieceLineEvent o p.len
             ∧ PieceEnds v t x [] false ∧ OnlyChanges [.bridge] v t))
  ∧ (∀ (s : State) (x : Txn) (p : Piece) (ps : List Piece) (taken : Nat), s.awake = true →
     s.bridge.txn = some x → x.pieces = p :: ps → x.stage = .held taken →
     let o := x.burst.addr + 4 * p.first - s.bridge.regions.apertureBase
     (s.asm.mode = .normal → s.asm.entryBusy = true → exec .heldPieceResume s = .next s)
       ∧ (s.asm.mode = .normal → s.asm.entryBusy = false →
           ∃ t, exec .heldPieceResume s = .next t ∧ TakesWords s t x p taken)
       ∧ (s.asm.mode = .raw → (∀ i : Fin 4, s.asm.ring[i] ≠ .free) →
           exec .heldPieceResume s = .next s)
       ∧ (s.asm.mode = .raw → (∃ i : Fin 4, s.asm.ring[i] = .free) →
           ∃ t, exec .heldPieceResume s = .next t ∧ TakesRaw s t x o (pieceBeats x.burst p)))

/-- What taking luma does to the line ring. A word in order joins the entry of its line, m mod 4, and moves the
pointer; the last word of line m reports its line event and makes due the emission of line m - 1, and of line m
too when it is the last, with edge lines standing in for those beyond (R38 to R40). A break flushes the last
complete line against itself, queues the partial line raw, marks the frame broken once, clears the histogram
and makes the frame RAW (R43, R44, R59). A raw piece takes an entry, queues its write, withdraws a recorded luma
half, reports the line end it holds and sets the final-word flag for the last word (R45, R46, R48). -/
def Obligations.LineRingAndBreaks : Prop :=
  (∀ (s : State) (w : Word),
    let m := s.asm.ptr / s.asm.wc
    let ends := (s.asm.ptr + 4) % s.asm.wc = 0
    let due :=
      (if 1 ≤ m then [WorkItem.emit (m - 1) (m - 2) m] else [])
        ++ if m + 1 = s.asm.hc then [WorkItem.emit m (m - 1) m] else []
    let old := match s.asm.ring[ringIndex m] with
      | .line j bytes => if j = m then bytes else []
      | _ => []
    ∃ t u, s.takeWord w = t
      ∧ u = (if ends then (s.setAsm (s.asm.placeWord w)).lineEvent m else s)
      ∧ (∀ i : Fin 4, t.asm.ring[i] =
          if i.val = m % 4 then .line m (old ++ bytesOfWord w) else s.asm.ring[i])
      ∧ t.asm = { s.asm with
          ring := t.asm.ring, ptr := s.asm.ptr + 4,
          queue := s.asm.queue ++ (if ends then due else []),
          finalWord := s.asm.finalWord || decide (s.asm.ptr + 4 = s.asm.wc * s.asm.hc) }
      ∧ OnlyChanges [.asm] u t)
  ∧ (∀ s : State,
    let m := s.asm.ptr / s.asm.wc
    ∃ t, s.sequenceBreak = t
      ∧ t.asm = { s.asm with
          mode := .raw,
          queue := s.asm.queue
            ++ (if 1 ≤ m ∧ m < s.asm.hc then [WorkItem.emit (m - 1) (m - 2) (m - 1)] else [])
            ++ (if s.asm.ptr % s.asm.wc = 0 then [] else [WorkItem.partialLine m]) }
      ∧ t.enh.force = s.enh.force ∧ t.enh.latch = s.enh.latch ∧ (∀ i : Fin 64, t.enh.hist[i] = 0)
      ∧ (∀ i, s.asm.slot = some i →
          (∀ j, t.slotRec j = if j = i then { s.slotRec i with broken := true } else s.slotRec j)
            ∧ t.slots = { s.slots with
              recs := t.slots.recs,
              broken := s.slots.broken + (if (s.slotRec i).broken then 0 else 1) })
      ∧ (s.asm.slot = none → t.slots = s.slots)
      ∧ OnlyChanges [.asm, .enh, .slots] s t)
  ∧ ∀ (s : State) (i : Fin 4) (o : Nat) (beats : List Beat),
    let u := s.setAsm { s.asm with
      ring := s.asm.ring.set i (.piece o beats), queue := s.asm.queue ++ [.rawPiece i],
      lumaHalf := false }
    let last := s.asm.wc * s.asm.hc - 4
    ∃ t v, s.takeRaw i o beats = t
      ∧ t.asm = { u.asm with
          finalWord := s.asm.finalWord || decide (o ≤ last ∧ last < o + 4 * beats.length) }
      ∧ (64 ≤ s.asm.wc → s.asm.wc % 4 = 0 → o % 4 = 0 → 1 ≤ beats.length → beats.length ≤ 8 →
          (∀ line, (∃ k < beats.length, o + 4 * k + 4 = (line + 1) * s.asm.wc) → v = u.lineEvent line)
          ∧ ((∀ line, ¬ ∃ k < beats.length, o + 4 * k + 4 = (line + 1) * s.asm.wc) → v = u))
      ∧ OnlyChanges [.asm] v t

/-- The treatment of a piece by the region of its first word, its kind and the class of its transaction, with
the regions apart from each other. Beyond the top of memory it ends ERROR; in the control page a write is reported
and a read of the status word assembled; in BYPASS all else passes (R6 to R8). In RUN an aperture write of another
master than CAPTURE, a slot write and a write into a protected store are discarded and counted; the view
window is composed for reads of DISPLAY alone; all else passes (R9 to R12, R120). A chroma piece of the CAPTURE
master is remapped into the FILLING slot at its aperture offset, with a note when it holds the final chroma word;
with no FILLING slot it is discarded and counted (R9, R26, R28, R29). An aperture read of any master is remapped to
the newest slot, or answered with zeros when no slot is COMPLETE (R10). -/
def Obligations.ApertureRemapped : Prop :=
  (∀ (s : State) (x : Txn) (p : Piece), RegionsInv s →
    let addr := x.burst.addr + 4 * p.first
    let inside := fun base size : Nat => base ≤ addr ∧ addr < base + size
    let r := s.bridge.regions
    let luma := s.slots.wc * s.slots.hc
    let v := s.comp.latch.set
    let writes := isWrite x.burst = true
    let word := (addr - s.ctrlBase) / 4
    let is := fun tr : Treatment => s.treatment x p = tr
    (0x2000000 ≤ addr → is .beyond)
    ∧ (inside s.ctrlBase 64 → addr < 0x2000000 →
      (writes → is .controlWrite)
      ∧ (¬ writes → word ≤ 2 → 2 < word + p.len → is .statusRead)
      ∧ (¬ writes → (2 < word ∨ word + p.len ≤ 2) → is .pass))
    ∧ (addr < 0x2000000 → ¬ inside s.ctrlBase 64 → s.bridge.run = .bypass → is .pass)
    ∧ (s.bridge.run = .run →
      (inside r.apertureBase (2 * luma) →
        (¬ writes → is .apertureRead)
        ∧ (writes → x.cls = .capture → addr < r.apertureBase + luma → is .captureLuma)
        ∧ (writes → x.cls = .capture → r.apertureBase + luma ≤ addr → is .captureChroma)
        ∧ (writes → x.cls ≠ .capture → is .discard))
      ∧ (∀ i : Fin 3, inside r.slotBase[i] r.slotSize → (writes → is .discard) ∧ (¬ writes → is .pass))
      ∧ (inside r.viewBase (2 * v.wv * v.hv) →
        (¬ writes → x.cls = .display → is .displayRead)
        ∧ ((writes ∨ x.cls ≠ .display) → is .pass))
      ∧ (s.store.base ≤ addr → addr < s.store.limit →
        (writes → s.store.protect = true → is .discard)
        ∧ ((¬ writes ∨ s.store.protect = false) → is .pass))
      ∧ (inside s.cu.msgAddr 64 → is .pass)
      ∧ (addr < 0x2000000 → ¬ inside s.ctrlBase 64 → ¬ inside r.apertureBase (2 * luma) →
        (∀ i : Fin 3, ¬ inside r.slotBase[i] r.slotSize) → ¬ inside r.viewBase (2 * v.wv * v.hv) →
        ¬ (s.store.base ≤ addr ∧ addr < s.store.limit) → is .pass)))
  ∧ ∀ (s : State) (x : Txn) (p : Piece),
    let addr := x.burst.addr + 4 * p.first
    let o := addr - s.bridge.regions.apertureBase
    let last := 2 * s.asm.wc * s.asm.hc - 4
    let remapped := fun (t : State) (i : Fin 3) (final : Bool) =>
      t.bridge = s.bridgeAt x (.passing final)
        ∧ Presents s t .passThrough
          { tag := x.burst.tag, addr := s.bridge.regions.slotBase[i] + o,
            body :=
              match x.burst.body with
              | .read _ => .read p.len
              | .write beats => .write ((beats.drop p.first).take p.len) }
        ∧ OnlyChanges [.bridge, .port] s t
    (s.faces x p .captureChroma → ∃ t, exec .captureChromaPiece s = .next t
      ∧ (∀ i, s.asm.slot = some i → remapped t i (decide (o ≤ last ∧ last < o + 4 * p.len)))
      ∧ (s.asm.slot = none →
          PieceEnds (s.setBridge { s.bridge with guard := s.bridge.guard + 1 }) t x [] false
            ∧ OnlyChanges [.bridge] s t))
    ∧ (s.faces x p .apertureRead → ∃ t, exec .apertureReadPiece s = .next t
      ∧ (∀ i, s.newest = some i → remapped t i false)
      ∧ (s.newest = none →
          PieceEnds s t x (List.replicate p.len 0) false ∧ OnlyChanges [.bridge] s t))

/-- The newest slot is a COMPLETE slot of the smallest distance back from the current frame number (R18).
A take adds a hold; a release gives one up, and empties a COMPLETE slot that nobody holds any more unless it is
the newest (R19, R21). At the completion of a frame its slot becomes COMPLETE, and the newest where it alone
carries the current frame number, and every other COMPLETE slot that nobody holds EMPTY; the completed counter
steps, and the white tracker runs when the frame is unbroken and its latched auto flag is on (R18, R27, R60). -/
def Obligations.SlotsCompleteAndHold : Prop :=
  (∀ s : State,
     (∀ i, s.newest = some i → (s.slotRec i).state = .complete
         ∧ ∀ j, (s.slotRec j).state = .complete →
             (s.timer.frameNumber - (s.slotRec i).frame).toNat
               ≤ (s.timer.frameNumber - (s.slotRec j).frame).toNat)
       ∧ (s.newest = none ↔ ∀ i, (s.slotRec i).state ≠ .complete)
       ∧ (∀ i j, (s.releaseHold i).slotRec j =
           if j = i then
             { s.slotRec i with
               hold := (s.slotRec i).hold - 1,
               state :=
                 if (s.slotRec i).hold ≤ 1 ∧ (s.slotRec i).state = .complete ∧ s.newest ≠ some i
                 then .empty else (s.slotRec i).state }
           else s.slotRec j)
       ∧ (∀ i, (s.releaseHold i).newest = s.newest)
       ∧ ∀ i j, (s.takeHold i).slotRec j =
           if j = i then { s.slotRec i with hold := (s.slotRec i).hold + 1 } else s.slotRec j)
  ∧ (∀ (s : State) (i : Fin 3), ∃ t, s.frameCompletes i = t
     ∧ t.slotRec i = { s.slotRec i with state := .complete }
     ∧ ((s.slotRec i).frame = s.timer.frameNumber →
         (∀ j, j ≠ i → (s.slotRec j).state = .complete → (s.slotRec j).frame ≠ s.timer.frameNumber) →
         t.newest = some i)
     ∧ (∀ j, j ≠ i → t.slotRec j =
         { s.slotRec j with
           state := if (s.slotRec j).state = .complete ∧ (s.slotRec j).hold = 0 then .empty
             else (s.slotRec j).state })
     ∧ t.slots = { s.slots with recs := t.slots.recs, completed := s.slots.completed + 1 }
     ∧ t.asm = { s.asm with frame := none }
     ∧ ((s.slotRec i).broken = false → s.enh.latch.auto = true →
         t.enh = s.enh.track s.asm.wc s.asm.hc)
     ∧ (((s.slotRec i).broken = true ∨ s.enh.latch.auto = false) → t.enh = s.enh)
     ∧ OnlyChanges [.slots, .asm, .enh] s t)

/-- An emission begins when the line writer is free: every pixel of its line is sharpened with its neighbours,
edge columns replicated, by the latched T and G, and toned by the latched B, Wp and K; in a NORMAL frame it is
counted in the bin of its sharpened value; the bytes go out as writes of up to eight words at ascending
addresses from slot base + n·Wc, the first presented now (R41, R42, R52, R57, R58). A partial line and a raw
piece go out as they were taken (R44, R45). That every write but the last is of eight words is R41's for an
emission, and for a partial line the model's choice (log entry 10); so is the base 0 where no frame fills a slot
(log entry 27). -/
def Obligations.EmissionBegins : Prop :=
  ∀ (s : State) (item : WorkItem) (rest : List WorkItem), s.awake = true → s.asm.queue = item :: rest →
    s.asm.running = none → (∀ g, s.port.granted = some g → g.request.purpose ≠ .lineWrite) →
    4 ≤ s.asm.wc → s.asm.wc % 4 = 0 →
    let base := match s.asm.slot with | some i => s.bridge.regions.slotBase[i] | none => 0
    let sends := fun (t : State) (writes : List Burst) =>
      ∃ b later, writes = b :: later ∧ t.asm = { s.asm with running := some later }
        ∧ Presents s t .lineWrite b
    let covers := fun (writes : List Burst) (addr : Nat) (bytes : List Byte) =>
      writes.flatMap bytesOfBurst = bytes
        ∧ ∀ k b, writes[k]? = some b → b.addr = addr + 32 * k ∧ b.tag = 0
          ∧ ∃ beats, b.body = .write beats ∧ (∀ c ∈ beats, c.be = 0xF) ∧ 1 ≤ beats.length
            ∧ beats.length ≤ 8 ∧ (k + 1 < writes.length → beats.length = 8)
    (∀ n above below, item = .emit n above below →
      let px := fun (line : Nat) (c : Nat) => ((s.asm.lineBytes line).getD c 0).toNat
      let sharp := fun c =>
        let l := c - 1
        let r := min (c + 1) (s.asm.wc - 1)
        sharpen s.enh.latch.t s.enh.latch.g
          { nw := px above l, n := px above c, ne := px above r, w := px n l, c := px n c, e := px n r,
            sw := px below l, s := px below c, se := px below r }
      ∃ t writes, exec .emission s = .next t ∧ sends t writes
        ∧ covers writes (base + n * s.asm.wc)
            ((List.range s.asm.wc).map fun c => BitVec.ofNat 8 (tone s.enh.latch (sharp c)))
        ∧ t.enh.force = s.enh.force ∧ t.enh.latch = s.enh.latch
        ∧ (∀ i : Fin 64, t.enh.hist[i] = s.enh.hist[i]
            + if s.asm.mode = .normal then
                ((List.range s.asm.wc).filter fun c => sharp c / 4 == i.val).length else 0)
        ∧ OnlyChanges [.port, .asm, .enh] s t)
    ∧ (∀ n, item = .partialLine n → (s.asm.lineBytes n).length % 4 = 0 → s.asm.lineBytes n ≠ [] →
      ∃ t writes, exec .emission s = .next t ∧ sends t writes
        ∧ covers writes (base + n * s.asm.wc) (s.asm.lineBytes n)
        ∧ OnlyChanges [.port, .asm] s t)
    ∧ (∀ i o beats, item = .rawPiece i → s.asm.ring[i] = .piece o beats →
      ∃ t, exec .emission s = .next t
        ∧ sends t [{ tag := 0, addr := base + o, body := .write beats }]
        ∧ OnlyChanges [.port, .asm] s t)

/-- The answer to a line write: an ERROR marks the frame broken, counted once; the next write of the item is
presented, or the item has finished and leaves the queue (R41, R43). A finished emission of a NORMAL frame
frees the entry of the line above it, and the last one its own; in a RAW frame an entry that no item in the
queue reads is free, and a held raw piece is taken into one in the same step (R41, R45; log entries 18 and 28).
Else, with the final word taken and the queue empty, the luma half is recorded, and with the chroma half the frame
completes (R26, R46). -/
def Obligations.LineWriteAnswered : Prop :=
  ∀ (s : State) (a : Answer) (left : List Burst), s.replied .lineWrite a → s.asm.running = some left →
    let u := if a.error then s.portFreed.markBroken else s.portFreed
    ((∀ i, s.asm.slot = some i → a.error = true →
        (∀ j, u.slotRec j = if j = i then { s.slotRec i with broken := true } else s.slotRec j)
          ∧ u.slots = { s.slots with
            recs := u.slots.recs,
            broken := s.slots.broken + (if (s.slotRec i).broken then 0 else 1) })
      ∧ ((a.error = false ∨ s.asm.slot = none) → u = s.portFreed)
      ∧ OnlyChanges [.port, .slots] s u)
    ∧ ∃ t, exec (.lineWriteAnswer a) s = .next t
      ∧ (∀ b later, left = b :: later →
          t.asm = { s.asm with running := some later } ∧ Presents u t .lineWrite b
            ∧ OnlyChanges [.port, .asm] u t)
      ∧ (∀ item rest, left = [] → s.asm.queue = item :: rest →
          let half := s.asm.finalWord && rest.isEmpty
          let freed := fun j : Nat => match item with
            | .emit n _ _ => decide (j + 1 = n ∨ n + 1 = s.asm.hc ∧ (j = n ∨ j = n - 1))
            | _ => false
          ∃ v, (∀ k : Fin 4, v.asm.ring[k] =
                match s.asm.mode, s.asm.ring[k] with
                | .raw, r => if k ∈ rest.flatMap WorkItem.reads then r else .free
                | _, .line j bytes =>
                  if freed j then .free else .line j bytes
                | _, r => r)
            ∧ v = u.setAsm { s.asm with ring := v.asm.ring, queue := rest, running := none }
            ∧ let takesHeld := fun (x : Txn) (p : Piece) => s.asm.mode = .raw
                ∧ (∃ k : Fin 4, v.asm.ring[k] = .free) ∧ s.bridge.txn = some x
                ∧ (∃ taken, x.stage = .held taken) ∧ x.pieces.head? = some p
              (∀ x p, takesHeld x p →
                TakesRaw v t x (x.burst.addr + 4 * p.first - s.bridge.regions.apertureBase)
                  (pieceBeats x.burst p))
              ∧ ((∀ x p, ¬ takesHeld x p) →
                let w := v.setAsm { v.asm with lumaHalf := s.asm.lumaHalf || half }
                (half = true → s.asm.chromaHalf = true → ∀ i, s.asm.slot = some i → t = w.frameCompletes i)
                  ∧ ((half = false ∨ s.asm.chromaHalf = false ∨ s.asm.slot = none) → t = w)))

/-! ## Display pieces -/

/-- A read of the view window by the DISPLAY master takes a latch when it starts a view frame or nothing is
latched: the old hold is released and the new source taken in one exchange, keys, border and, at a view frame
start, view geometry come from the staged set, and the source follows the kind of the current context. Its
stored bytes are then read (R64, R66 to R69, R79). -/
def Obligations.DisplayReadBegins : Prop :=
  ∀ (s : State) (x : Txn) (p : Piece), s.faces x p .displayRead →
    let addr := x.burst.addr + 4 * p.first
    let start := addr = s.bridge.regions.viewBase
    let l := s.comp.latch
    let c := s.view.current
    let u := s.releaseOpt l.held
    let v : ViewSet := if start then s.comp.staged else { s.comp.staged with wv := l.set.wv, hv := l.set.hv }
    ∃ t, exec .displayReadPiece s = .next t
      ∧ t.bridge = s.bridgeAt x .stored
      ∧ Presents s t .composerStored { tag := 0, addr := addr, body := .read p.len }
      ∧ (¬ start → l.latched = true → OnlyChanges [.bridge, .port] s t)
      ∧ ((start ∨ l.latched = false) →
          let shows := fun i : Fin 3 =>
            t.comp.latch =
                latchOf v c (.slot i (s.slotRec i).gen s.bridge.regions.slotBase[i]) (s.slotRec i).wc
                  (s.slotRec i).hc
              ∧ t.slots = (u.takeHold i).slots
          let showsNone :=
            t.comp.latch.source = .none ∧ t.comp.latch.latched = true ∧ t.comp.latch.set = v
              ∧ t.slots = u.slots
          t.comp = { s.comp with latch := t.comp.latch }
          ∧ OnlyChanges [.bridge, .port, .comp, .slots] s t
          ∧ (c.source = .live → (∀ i, s.newest = some i → shows i) ∧ (s.newest = none → showsNone))
          ∧ (∀ i gen, c.source = .frozen i gen →
              ((u.slotRec i).state = .complete ∧ (u.slotRec i).gen = gen → shows i)
              ∧ (¬ ((u.slotRec i).state = .complete ∧ (u.slotRec i).gen = gen) → showsNone))
          ∧ (∀ g, c.source = .page g →
              t.comp.latch = latchOf v c (.page g.offset (s.store.base + g.offset + 32)) g.w g.h
                ∧ t.slots = u.slots)
          ∧ (c.source = .blank → showsNone))

/-- The answers to composer fetches. A failed read of the stored bytes ends the piece ERROR with the words the
memory gave. Else the source bytes that its keyed bytes need, but for border ones, are fetched: the source rows
they lie in one at a time in ascending order, each from the word of its lowest needed byte to the word of its
highest, in fetches of one to eight words (their sizes: log entry 10); a failed fetch is counted once and the
others go on. Each byte of the answer is the stored one where it is not keyed, and else the border component or
the composed byte, the border component too where a byte it needs failed. A composed chroma byte is that of the
nearest pair and row, halves upward and clamped, border when the left pixel of its view pair is (R74, R75, R77 to
R81). -/
def Obligations.ComposerFetchAnswered : Prop :=
  let placed := fun (l : ViewLatch) (o k : Nat) =>
    let plane := l.set.wv * l.set.hv
    let c := o + k - plane
    if o + k < plane then ViewByte.luma ((o + k) % l.set.wv) ((o + k) / l.set.wv)
    else .chroma (c % l.set.wv / 2) (c / l.set.wv) (c % 2 == 1)
  let keyOf := fun (l : ViewLatch) (o k : Nat) =>
    if o + k < l.set.wv * l.set.hv then l.set.kl else l.set.kc
  (∀ (s : State) (a : Answer) (x : Txn) (p : Piece) (ps : List Piece), s.replied .composerStored a →
    s.bridge.txn = some x → x.pieces = p :: ps → x.stage = .stored →
    let l := s.comp.latch
    let o := x.burst.addr + 4 * p.first - s.bridge.regions.viewBase
    let needs := l.pieceNeeds (l.placed o a.words)
    let fetches := fetchList needs
    (∀ n, n ∈ needs ↔ ∃ k < 4 * a.words.length,
      (bytesOfWords a.words).getD k 0 = keyOf l o k ∧ l.borderByte (placed l o k) = false
        ∧ n ∈ l.needs (placed l o k))
    ∧ (∀ n ∈ needs, ∃ f ∈ fetches, f.1 ≤ n.addr ∧ n.addr < f.1 + 4 * f.2)
    ∧ (∃ rows : List RowSpan, rows.Pairwise (fun q r => q.row < r.row)
        ∧ (∀ n ∈ needs, ∃ r ∈ rows, r.row = n.row ∧ r.lo ≤ n.addr ∧ n.addr ≤ r.hi)
        ∧ (∀ r ∈ rows, ∃ lo ∈ needs, ∃ hi ∈ needs,
            lo.row = r.row ∧ hi.row = r.row ∧ lo.addr = r.lo ∧ hi.addr = r.hi)
        ∧ (fetches.flatMap fun f => List.range' f.1 f.2 4)
            = rows.flatMap (fun r => List.range' (r.lo / 4 * 4) (r.hi / 4 + 1 - r.lo / 4) 4)
        ∧ ∀ f ∈ fetches, 1 ≤ f.2 ∧ f.2 ≤ 8
            ∧ ∃ r ∈ rows, r.lo / 4 * 4 ≤ f.1 ∧ f.1 + 4 * f.2 ≤ r.hi / 4 * 4 + 4)
    ∧ ∃ t, exec (.composerFetchAnswer a) s = .next t ∧ OnlyChanges [.bridge, .port] s t
      ∧ (a.error = true → PieceEnds s t x a.words true ∧ t.port = s.portFreed.port)
      ∧ (a.error = false → fetches = [] →
          PieceEnds s t x (l.answerWords o a.words []) false ∧ t.port = s.portFreed.port)
      ∧ ∀ f rest, a.error = false → fetches = f :: rest →
          t.bridge = s.bridgeAt x (.fetching a.words fetches [])
            ∧ Presents s.portFreed t .composerSource { tag := 0, addr := f.1, body := .read f.2 })
  ∧ (∀ (s : State) (a : Answer) (x : Txn) (p : Piece) (ps : List Piece) (stored : List Word)
      (f : Nat × Nat) (rest : List (Nat × Nat)) (got : List (Nat × Option Word)),
      s.replied .composerSource a → s.bridge.txn = some x → x.pieces = p :: ps →
      x.stage = .fetching stored (f :: rest) got →
      let l := s.comp.latch
      let o := x.burst.addr + 4 * p.first - s.bridge.regions.viewBase
      let all := got ++ (List.range f.2).map fun i =>
        (f.1 + 4 * i, if a.error then none else some (a.words.getD i 0))
      ∃ t, exec (.composerFetchAnswer a) s = .next t
        ∧ t.comp = { s.comp with errors := s.comp.errors + (if a.error then 1 else 0) }
        ∧ OnlyChanges [.bridge, .port, .comp] s t
        ∧ (rest = [] → PieceEnds s t x (l.answerWords o stored all) false ∧ t.port = s.portFreed.port)
        ∧ ∀ g more, rest = g :: more →
            t.bridge = s.bridgeAt x (.fetching stored rest all)
              ∧ Presents s.portFreed t .composerSource { tag := 0, addr := g.1, body := .read g.2 })
  ∧ (∀ (l : ViewLatch) (n y : Nat) (odd : Bool), 1 ≤ l.ws → 1 ≤ l.hs →
      let v : ViewByte := .chroma n y odd
      let sx : Int := l.ox + 2 * n * l.step
      let sy : Int := l.oy + y * l.step
      (l.borderByte v = true ↔
        l.source = .none ∨ sx < 0 ∨ sy < 0 ∨ (l.ws : Int) * 65536 ≤ sx ∨ (l.hs : Int) * 65536 ≤ sy)
      ∧ (l.borderByte v = false → ∃ col row : Nat,
          (col : Int) = min ((sx + 32768) / 65536) (l.ws - 1)
          ∧ (row : Int) = min ((sy + 32768) / 65536) (l.hs - 1)
          ∧ (let line := l.base + l.ws * l.hs + row * l.ws
             l.needs v = [{ row := line, addr := line + 2 * (col / 2) + if odd then 1 else 0 }])
          ∧ ∀ b : Byte, l.compose v [b] = b))
  ∧ (∀ (l : ViewLatch) (x y : Nat),
      l.borderByte (.luma x y) = l.isBorder x y
      ∧ (l.isBorder x y = false → ∃ j : Nat,
          (65536 * j : Int) ≤ l.oy + y * l.step ∧ l.oy + y * l.step < (65536 * j + 65536 : Int)
          ∧ (l.needs (.luma x y)).map (fun m => m.row) =
            [l.base + j * l.ws, l.base + j * l.ws, l.base + min (j + 1) (l.hs - 1) * l.ws,
             l.base + min (j + 1) (l.hs - 1) * l.ws]))
  ∧ ∀ (l : ViewLatch) (o : Nat) (stored : List Word) (got : List (Nat × Option Word)),
      let answer := bytesOfWords (l.answerWords o stored got)
      let plane := l.set.wv * l.set.hv
      answer.length = 4 * stored.length
      ∧ ∀ k < 4 * stored.length,
          let byte := (bytesOfWords stored).getD k 0
          let c := o + k - plane
          let v := placed l o k
          let key := keyOf l o k
          let border := if o + k < plane then l.set.borderY
            else if c % 2 = 0 then l.set.borderCb else l.set.borderCr
          (byte ≠ key → answer.getD k 0 = byte)
          ∧ (byte = key → l.borderByte v = true → answer.getD k 0 = border)
          ∧ (byte = key → l.borderByte v = false →
              (∀ n ∈ l.needs v, fetchedByte got n.addr ≠ none) →
              answer.getD k 0 =
                l.compose v ((l.needs v).map fun n => (fetchedByte got n.addr).getD 0))
          ∧ (byte = key → l.borderByte v = false → (∃ n ∈ l.needs v, fetchedByte got n.addr = none) →
              answer.getD k 0 = border)

/-! ## View commands -/

/-- VIEW and VIEW_PUSH: the first check that fails refuses the command with the depth as it stands and changes
nothing else. LIVE, FROZEN and BLANK are carried out at once: zoom, target and pan come from the request, with
RAMP the zoom is kept; the replaced context is pushed with its hold, or gives its hold up; FROZEN takes the
newest slot. PAGE makes its header read with the traversal engine in use (R85 to R87, R89). That this read is
presented also while an aborted transaction of the Store Controller is granted is the model's choice (log
entry 26). -/
def Obligations.ViewCarriedOut : Prop :=
  ∀ (s : State) (p : Packet) (push : Bool), s.hands (if push then 4 else 3) p →
    let kind := p.p1.toNat % 256
    let zoom := p.p1.toNat / 65536
    let cx := p.p2.toNat % 65536
    let cy := p.p2.toNat / 65536
    let ramp := p.modifier % 2 = 1
    let c := s.view.current
    let depth := s.view.stack.length
    let stack := if push then { ctx := c, standing := c.held.isSome } :: s.view.stack else s.view.stack
    let kept := if push then s else s.releaseOpt c.held
    ∃ t, exec (if push then .viewPush else .view) s = .next t
      ∧ let refused := fun r : Reason =>
          Completed s t p { cls := .refused, reason := r, arg := toWord depth, residual := 0 }
            ∧ OnlyChanges [.port, .cu] s t
        let shown := fun (src : Source) (slots : SlotManager) =>
          t.view =
              { current :=
                  { source := src, z := if ramp then c.z else zoom, zt := zoom, cx := cx, cy := cy },
                stack := stack }
            ∧ t.slots = slots
            ∧ Completed s t p { cls := .done, reason := .none, arg := toWord stack.length, residual := 0 }
            ∧ OnlyChanges [.port, .cu, .view, .slots] s t
        if 3 < kind ∨ zoom < 64 ∨ 1024 < zoom ∨ 4095 < cx ∨ 4095 < cy then refused .badValue
        else if push = true ∧ 4 ≤ depth then refused .stackFull
        else if kind = 2 then
          if s.enginesIdle = false then refused .storeBusy
          else if s.store.formatted = false then refused .notFormatted
          else
            match s.store.position with
            | none => refused .positionLost
            | some o =>
              t.store = { s.store with trav := some (.viewHeader p.viewRequest push) }
                ∧ t.cu = { s.cu with cmd := some { packet := some p, stage := .engine } }
                ∧ Presents s t .viewHeader { tag := 0, addr := s.store.base + o, body := .read 8 }
                ∧ OnlyChanges [.store, .port, .cu] s t
        else if kind = 1 then
          match s.newest with
          | none => refused .noFrame
          | some i => shown (.frozen i (s.slotRec i).gen) (kept.takeHold i).slots
        else if kind = 3 then shown .blank kept.slots
        else shown .live kept.slots

/-- The header read of VIEW PAGE and VIEW_PUSH PAGE: an ERROR, a bad header, which makes the position LOST, or a
header of another kind completes the command and leaves the view; a good PAGE header becomes the source, with
zoom and pan of its note, clamped, when the request asks for it and the header carries one (R87 to R89,
R129). -/
def Obligations.ViewPageHeaderJudged : Prop :=
  ∀ (s : State) (a : Answer) (p : Packet) (q : ViewRequest) (push : Bool) (o : Nat),
    s.replied .viewHeader a → s.store.trav = some (.viewHeader q push) → s.store.position = some o →
    s.cu.cmd = some { packet := some p, stage := .engine } →
    let c := s.view.current
    let depth := s.view.stack.length
    let stack := if push then { ctx := c, standing := c.held.isSome } :: s.view.stack else s.view.stack
    let kept := if push then s else s.releaseOpt c.held
    let judged := judgeChain s.store.eod o a.words
    ∃ t, exec (.viewPageHeaderRead a) s = .next t
      ∧ let ends := fun (cls : TermClass) (r : Reason) (position : Option Nat) =>
          t.store = { s.store with trav := none, position := position }
            ∧ Completed s.portFreed t p { cls := cls, reason := r, arg := toWord depth, residual := 0 }
            ∧ OnlyChanges [.store, .port, .cu] s t
        (a.error = true → ends .retry .memoryError (some o))
        ∧ (a.error = false → judged = none → ends .lost .headerBad none)
        ∧ (∀ h, a.error = false → judged = some h → h.kind ≠ .page → ends .refused .notAPage (some o))
        ∧ (∀ h, a.error = false → judged = some h → h.kind = .page →
            let part : PagePart := { offset := o, serial := h.serial, format := h.format, w := h.w, h := h.h }
            t.store = { s.store with trav := none }
            ∧ t.view =
                { current :=
                    if q.useNote = true ∧ h.note = true then
                      { source := .page part, z := max 64 (min 1024 h.z), zt := max 64 (min 1024 h.z),
                        cx := min 4095 h.cx, cy := min 4095 h.cy }
                    else
                      { source := .page part, z := if q.ramp then c.z else q.zoom, zt := q.zoom,
                        cx := q.cx, cy := q.cy },
                  stack := stack }
            ∧ t.slots = kept.slots
            ∧ Completed s.portFreed t p
                { cls := .done, reason := .none, arg := toWord stack.length, residual := 0 }
            ∧ OnlyChanges [.store, .port, .cu, .view, .slots] s t)

/-- VIEW_POP: an empty stack refuses it; a LIVE or BLANK entry is restored, a FROZEN one when its hold stands
and its slot is COMPLETE with its generation; a PAGE entry fails at once when the store is UNFORMATTED or ends
below it, and else has its header read and is restored when that is a good PAGE header with its serial. A
restored entry leaves the stack and becomes the current context; a failed one is discarded, the view becomes
the LIVE default, and the command ends ALERT STALE_CONTEXT (R90 to R93). That the header read is presented also
while an aborted transaction of the Store Controller is granted is the model's choice (log entry 26). -/
def Obligations.ViewPopped : Prop :=
  let restored := fun (s u t : State) (p : Packet) (e : StackEntry) (rest : List StackEntry) =>
    t.view = { current := e.ctx, stack := rest }
      ∧ t.slots = (s.releaseOpt s.view.current.held).slots
      ∧ Completed u t p { cls := .done, reason := .none, arg := toWord rest.length, residual := 0 }
  let failed := fun (s u t : State) (p : Packet) (e : StackEntry) (rest : List StackEntry) =>
    t.view =
        { current := { source := .live, z := 64, zt := 64, cx := 0, cy := 0 }, stack := rest }
      ∧ t.slots = ((s.releaseOpt e.held).releaseOpt s.view.current.held).slots
      ∧ Completed u t p
          { cls := .alert, reason := .staleContext, arg := toWord rest.length, residual := 0 }
  (∀ (s : State) (p : Packet), s.hands 5 p →
    ∃ t, exec .viewPop s = .next t
      ∧ let refused := fun r : Reason =>
          Completed s t p
              { cls := .refused, reason := r, arg := toWord s.view.stack.length, residual := 0 }
            ∧ OnlyChanges [.port, .cu] s t
        (s.view.stack = [] → refused .stackEmpty)
        ∧ ∀ e rest, s.view.stack = e :: rest →
          let at_once := OnlyChanges [.port, .cu, .view, .slots] s t
          ((e.ctx.source = .live ∨ e.ctx.source = .blank) → restored s s t p e rest ∧ at_once)
          ∧ (∀ i gen, e.ctx.source = .frozen i gen →
              let stands := e.standing = true ∧ (s.slotRec i).state = .complete ∧ (s.slotRec i).gen = gen
              (stands → restored s s t p e rest ∧ at_once) ∧ (¬ stands → failed s s t p e rest ∧ at_once))
          ∧ (∀ g, e.ctx.source = .page g →
              (s.enginesIdle = false → refused .storeBusy)
              ∧ (s.enginesIdle = true → (s.store.formatted = false ∨ s.store.eod ≤ g.offset) →
                  failed s s t p e rest ∧ at_once)
              ∧ (s.enginesIdle = true → s.store.formatted = true → g.offset < s.store.eod →
                  t.store = { s.store with trav := some .popHeader }
                    ∧ t.cu = { s.cu with cmd := some { packet := some p, stage := .engine } }
                    ∧ Presents s t .popHeader
                        { tag := 0, addr := s.store.base + g.offset, body := .read 8 }
                    ∧ OnlyChanges [.store, .port, .cu] s t)))
  ∧ ∀ (s : State) (a : Answer) (p : Packet) (e : StackEntry) (rest : List StackEntry) (g : PagePart),
      s.replied .popHeader a → s.store.trav = some .popHeader → s.view.stack = e :: rest →
      e.ctx.source = .page g → s.cu.cmd = some { packet := some p, stage := .engine } →
      ∃ t, exec (.viewPopHeaderRead a) s = .next t
        ∧ t.store = { s.store with trav := none }
        ∧ OnlyChanges [.store, .port, .cu, .view, .slots] s t
        ∧ (a.error = true →
            Completed s.portFreed t p
                { cls := .retry, reason := .memoryError, arg := toWord s.view.stack.length, residual := 0 }
              ∧ t.view = s.view ∧ t.slots = s.slots)
        ∧ (a.error = false →
            let valid := ∃ h, judgeChain s.store.eod g.offset a.words = some h ∧ h.kind = .page
              ∧ h.serial = g.serial
            (valid → restored s s.portFreed t p e rest) ∧ (¬ valid → failed s s.portFreed t p e rest))

/-! ## The lesson store -/

/-- RECORD and MARK: the first check that fails refuses the command and changes nothing else. An accepted RECORD
pins its source slot, and an accepted MARK none; the write offset is the position, the header values are fixed
as they stand, and the first read of the slot, or the MARK's trailer, is presented (R107, R111 to R113, R118).
That the first read is of eight words, and for HALF of the upper source line, is the model's choice (log
entry 10), and so is that the first transaction is presented also while an aborted one of the Store Controller is
granted (log entry 26). -/
def Obligations.RecordAndMarkAccepted : Prop :=
  (∀ (s : State) (p : Packet), s.hands 6 p →
    let format := p.p1.toNat % 256
    let source := p.p1.toNat / 256 % 256
    let c := s.view.current
    let inUse := fun o : Nat =>
      (match s.view.current.source with | .page g => decide (o ≤ g.offset) | _ => false)
        || (match s.comp.latch.source with | .page off _ => decide (o ≤ off) | _ => false)
    let slot : Option (Fin 3) :=
      if source = 0 then s.newest
      else match c.source with
        | .live => s.newest
        | .frozen i gen =>
          if (s.slotRec i).state = .complete ∧ (s.slotRec i).gen = gen then some i else none
        | _ => none
    ∃ t, exec .record s = .next t
      ∧ let refused := fun r : Reason =>
          Completed s t p { cls := .refused, reason := r, arg := 0, residual := 0 }
            ∧ OnlyChanges [.port, .cu] s t
        if 1 < format ∨ 1 < source then refused .badValue
        else if s.enginesIdle = false then refused .storeBusy
        else if s.store.formatted = false then refused .notFormatted
        else if s.store.protect = true then refused .storeProtected
        else match s.store.position with
        | none => refused .positionLost
        | some o =>
          if s.slots.staged ≠ none then refused .setupPending
          else match slot with
          | none => refused .noFrame
          | some i =>
            let r := s.slotRec i
            let w := if format = 0 then r.wc else r.wc / 2
            let h := if format = 0 then r.hc else r.hc / 2
            let length := 2 * w * h + 36
            if inUse o = true then refused .pageInUse
            else if s.storeSize < o + length + 32 then refused .noSpace
            else
              t.slots = (s.takeHold i).slots
              ∧ t.cu = { s.cu with cmd := some { packet := some p, stage := .engine } }
              ∧ OnlyChanges [.slots, .store, .port, .cu] s t
              ∧ ∃ stage,
                t.store = { s.store with
                  copy := some
                    { job := .page i, trigger := false, offset := o, stage := stage,
                      header :=
                        { kind := .page, format := if format = 0 then .full else .half,
                          broken := r.broken, note := decide (source = 1), cycle := r.frame.toNat % 64,
                          serial := s.store.serial, length := length, lesson := s.store.lesson,
                          w := w, h := h, z := if source = 1 then c.z else 0, frame := r.frame,
                          time := s.timer.localTime, cx := if source = 1 then c.cx else 0,
                          cy := if source = 1 then c.cy else 0 } } }
                ∧ (64 ≤ r.wc → 16 ≤ r.hc → (∃ left, stage = .read 0 [] left)
                    ∧ Presents s t .copy
                        { tag := 0, addr := s.bridge.regions.slotBase[i], body := .read 8 }))
  ∧ ∀ (s : State) (p : Packet), s.hands 7 p →
    let lesson := p.p1.toNat % 65536
    let inUse := fun o : Nat =>
      (match s.view.current.source with | .page g => decide (o ≤ g.offset) | _ => false)
        || (match s.comp.latch.source with | .page off _ => decide (o ≤ off) | _ => false)
    ∃ t, exec .mark s = .next t
      ∧ let refused := fun r : Reason =>
          Completed s t p { cls := .refused, reason := r, arg := 0, residual := 0 }
            ∧ OnlyChanges [.port, .cu] s t
        if 255 < lesson then refused .badValue
        else if s.enginesIdle = false then refused .storeBusy
        else if s.store.formatted = false then refused .notFormatted
        else if s.store.protect = true then refused .storeProtected
        else match s.store.position with
        | none => refused .positionLost
        | some o =>
          if s.slots.staged ≠ none then refused .setupPending
          else if inUse o = true then refused .pageInUse
          else if s.storeSize < o + 68 then refused .noSpace
          else
            t.store = { s.store with
              copy := some
                { job := .mark, trigger := false, offset := o, stage := .trailer,
                  header :=
                    { kind := .mark, format := .full, broken := false, note := false,
                      cycle := s.timer.frameNumber.toNat % 64, serial := s.store.serial, length := 36,
                      lesson := lesson, w := 0, h := 0, z := 0, frame := s.timer.frameNumber,
                      time := s.timer.localTime, cx := 0, cy := 0 } } }
            ∧ t.cu = { s.cu with cmd := some { packet := some p, stage := .engine } }
            ∧ Presents s t .copy
                { tag := 0, addr := s.store.base + o + 32, body := .write (fullBeats [36]) }
            ∧ OnlyChanges [.store, .port, .cu] s t

/-- The answers to the transactions of a copy. An ERROR stops it: the pin is released, the store is as
before, and a command completes RETRY while a trigger's copy posts CAPTURE_FAILED. Else the reads of a chunk are
made one after another and the chunk written behind the header's place, as read for FULL; after the payload come
the trailer, the END with the next serial plus one, and the header, each when the one before it has been
answered. The answer to the header write is the commit: end of data and position move past the record, the
serial steps, a MARK sets the lesson counter; the command completes DONE with the record's serial, or ALERT
LOW_SPACE, of which a trigger's copy posts a notice. An ERROR there makes the position LOST
(R104, R107, R113, R115, R116, R118, R147). The lengths of the chunks and of their reads are the model's choice (log
entry 10); that a trigger's failed commit posts CAPTURE_FAILED before POSITION_LOST is its reading (log
entry 20). -/
def Obligations.CopyWritesAndCommits : Prop :=
  (∀ (s : State) (a : Answer) (c : CopyOp), s.replied .copy a → s.store.copy = some c →
     let base := s.store.base + c.offset
     let h := c.header
     ∃ t, exec (.copyTransactionAnswer a) s = .next t
       ∧ let goes := fun (st : CopyStage) (q : Purpose) (addr : Nat) (body : Body) =>
           t.store = { s.store with copy := some { c with stage := st } }
             ∧ Presents s.portFreed t q { tag := 0, addr := addr, body := body }
             ∧ OnlyChanges [.store, .port] s t
         (a.error = true →
           t.slots = (s.releaseOpt c.pin).slots ∧ t.store = { s.store with copy := none }
             ∧ OnlyChanges [.slots, .store, .port, .cu] s t
             ∧ (∀ p st, c.trigger = false → s.cu.cmd = some { packet := some p, stage := st } →
                 Completed s.portFreed t p
                   { cls := .retry, reason := .memoryError, arg := 0, residual := 0 })
             ∧ (c.trigger = true →
                 NoticeDue s.portFreed
                   { s.cu with
                     notices := { s.cu.notices with captureFailed := some .memoryError } } t))
         ∧ (∀ done got addr n left, a.error = false → c.stage = .read done got ((addr, n) :: left) →
             goes (.read done (got ++ a.words) left) .copy addr (.read n))
         ∧ (∀ done got, a.error = false → c.stage = .read done got [] →
             goes (.write done) .copy (base + 32 + done)
               (.write (fullBeats (h.chunkData done (got ++ a.words))))
             ∧ (h.format = .full → h.chunkData done (got ++ a.words) = got ++ a.words))
         ∧ (∀ done i, a.error = false → c.stage = .write done → c.job = .page i → h.format = .full →
             let from_ := done + min 32 (2 * h.w * h.h - done)
             (from_ < 2 * h.w * h.h →
               goes (.read from_ [] []) .copy (s.bridge.regions.slotBase[i] + from_)
                 (.read (min 32 (2 * h.w * h.h - from_) / 4)))
             ∧ (2 * h.w * h.h ≤ from_ →
               goes .trailer .copy (base + h.length - 4) (.write (fullBeats [toWord h.length]))))
         ∧ (∀ done i, a.error = false → c.stage = .write done → c.job = .page i → h.format = .half →
             0 < h.w →
             let from_ := done + min 32 (h.w - done % h.w)
             (2 * h.w * h.h ≤ from_ →
               goes .trailer .copy (base + h.length - 4) (.write (fullBeats [toWord h.length])))
             ∧ (from_ < 2 * h.w * h.h → 2 ≤ min 32 (h.w - from_ % h.w) →
               ∃ addr n left, h.chunkReads s.bridge.regions.slotBase[i] from_ = (addr, n) :: left
                 ∧ goes (.read from_ [] left) .copy addr (.read n)))
         ∧ (a.error = false → c.stage = .trailer →
             goes .endHeader .copy (base + h.length)
               (.write (fullBeats (Header.ofEnd (s.store.serial + 1)).toWords)))
         ∧ (a.error = false → c.stage = .endHeader →
             goes .commit .commit base (.write (fullBeats h.toWords))))
  ∧ (∀ (s : State) (a : Answer) (c : CopyOp), s.replied .commit a → s.store.copy = some c →
     let h := c.header
     let eod := c.offset + h.length
     let low := s.storeSize - eod - 32 < s.store.margin
     ∃ t, exec (.commit a) s = .next t
       ∧ t.slots = (s.releaseOpt c.pin).slots
       ∧ OnlyChanges [.slots, .store, .port, .cu] s t
       ∧ (a.error = false →
           t.store = { s.store with
             copy := none, eod := eod, position := some eod, serial := s.store.serial + 1,
             lesson := if h.kind = .mark then h.lesson else s.store.lesson }
           ∧ (∀ p st, c.trigger = false → s.cu.cmd = some { packet := some p, stage := st } →
               Completed s.portFreed t p
                 { cls := if low then .alert else .done, reason := if low then .lowSpace else .none,
                   arg := (0 : BitVec 16) ++ h.serial, residual := 0 })
           ∧ (c.trigger = true → ¬ low → t.cu = s.cu ∧ t.port = s.portFreed.port)
           ∧ (c.trigger = true → low →
               NoticeDue (s.portFreed.setStore t.store)
                 { s.cu with notices := { s.cu.notices with lowSpace := true } } t))
       ∧ (a.error = true →
           t.store = { s.store with copy := none, position := none }
           ∧ (∀ p st, c.trigger = false → s.cu.cmd = some { packet := some p, stage := st } →
               Completed s.portFreed t p
                 { cls := .retry, reason := .memoryError, arg := 0, residual := 0 })
           ∧ (c.trigger = true → ∃ u,
               NoticeDue (s.portFreed.setStore t.store)
                 { s.cu with
                   notices := { s.cu.notices with captureFailed := some .memoryError } } u
               ∧ NoticeDue ((s.portFreed.setStore t.store).setPort u.port)
                   { u.cu with notices := { u.cu.notices with positionLost := true } } t)))

/-- The payload of a HALF page: each luma byte is the mean of its two by two block, halves upward, each chroma
pair the even pair of the even line; the reads of a chunk address bytes of the pinned frame alone (R113, R114).
The order and size of the reads are the model's (log entry 10). -/
def Obligations.HalfPagePayload : Prop :=
  ∀ (h : Header) (base done : Nat) (frame : Nat → Byte) (got : List Word),
    h.format = .half → 32 ≤ h.w → h.w % 8 = 0 → 1 ≤ h.h → done < 2 * h.w * h.h → done % h.w % 32 = 0 →
    let sw := 2 * h.w
    let sh := 2 * h.h
    let n := min 32 (h.w - done % h.w)
    (∀ r ∈ h.chunkReads base done, 1 ≤ r.2 ∧ r.2 ≤ 8 ∧ base ≤ r.1 ∧ r.1 + 4 * r.2 ≤ base + 2 * sw * sh)
    ∧ (bytesOfWords got = (h.chunkReads base done).flatMap (fun r =>
          (List.range (4 * r.2)).map fun k => frame (r.1 - base + k)) →
        bytesOfWords (h.chunkData done got) = (List.range n).map fun k =>
          let o := done + k
          if o < h.w * h.h then
            let at_ := 2 * (o / h.w) * sw + 2 * (o % h.w)
            BitVec.ofNat 8
              (((frame at_).toNat + (frame (at_ + 1)).toNat + (frame (at_ + sw)).toNat
                + (frame (at_ + sw + 1)).toNat + 2) / 4)
          else
            let d := o - h.w * h.h
            frame (sw * sh + 2 * (d / h.w) * sw + 4 * (d % h.w / 2) + d % 2))

/-- STORE_CLEAR is refused while an engine is in use or the view names a page, and else writes an END of serial
0 at offset 0 with the copy engine in use. Its answer leaves the store FORMATTED, empty and unprotected with
serial and lesson 0, or, on an ERROR, UNFORMATTED at 0 with serial, lesson and protection kept. STORE_PROTECT
sets the protected flag at once, whatever the store state (R119, R120). That the write is presented also while an
aborted transaction of the Store Controller is granted is the model's choice (log entry 26). -/
def Obligations.StoreClearAndProtect : Prop :=
  (∀ (s : State) (p : Packet), s.hands 9 p →
    ∃ t, exec .storeClear s = .next t
      ∧ let refused := fun r : Reason =>
          Completed s t p { cls := .refused, reason := r, arg := 0, residual := 0 }
            ∧ OnlyChanges [.port, .cu] s t
        (s.enginesIdle = false → refused .storeBusy)
        ∧ (s.enginesIdle = true → s.currentPage ≠ none → refused .pageInUse)
        ∧ (s.enginesIdle = true → s.currentPage = none →
            (∃ c, t.store = { s.store with copy := some c } ∧ c.job = .clear ∧ c.trigger = false)
            ∧ t.cu = { s.cu with cmd := some { packet := some p, stage := .engine } }
            ∧ Presents s t .clearWrite
                { tag := 0, addr := s.store.base,
                  body := .write (fullBeats [3, 0, 0, 0, 0, 0, 0, 0xFFFC0000]) }
            ∧ OnlyChanges [.store, .port, .cu] s t))
  ∧ (∀ (s : State) (a : Answer) (p : Packet) (c : CopyOp), s.replied .clearWrite a →
      s.store.copy = some c → c.job = .clear → s.cu.cmd = some { packet := some p, stage := .engine } →
      ∃ t, exec (.storeClearWriteAnswer a) s = .next t ∧ OnlyChanges [.store, .port, .cu] s t
        ∧ (a.error = false →
            t.store = { s.store with
              formatted := true, protect := false, position := some 0, eod := 0, serial := 0, lesson := 0,
              copy := none }
            ∧ Completed s.portFreed t p { cls := .done, reason := .none, arg := 0, residual := 0 })
        ∧ (a.error = true →
            t.store = { s.store with formatted := false, position := some 0, eod := 0, copy := none }
            ∧ Completed s.portFreed t p { cls := .retry, reason := .memoryError, arg := 0, residual := 0 }))
  ∧ ∀ (s : State) (p : Packet), s.hands 10 p →
      ∃ t, exec .storeProtect s = .next t ∧ t.store = { s.store with protect := true }
        ∧ Completed s t p { cls := .done, reason := .none, arg := 0, residual := 0 }
        ∧ OnlyChanges [.store, .port, .cu] s t

/-- MOVE. A mode code that is none of the six is refused BAD_VALUE. A step or skip is refused STORE_BUSY,
NOT_FORMATTED or POSITION_LOST in that order; a count of 0 completes DONE; at the end of data, or in reverse at
offset 0, it stops ALERT with its whole count left; else the traversal engine reads the header at the position,
or in reverse the trailer word before it. REWIND and TO_END set the position, REWIND also the lesson counter,
without a read (R121, R122, R124, R127; log entry 9). That the first read is presented also while an aborted
transaction of the Store Controller is granted is the model's choice (log entry 26). -/
def Obligations.MoveBegins : Prop :=
  ∀ (s : State) (p : Packet), s.hands 8 p →
    let mode := p.p1.toNat % 256
    let count := p.p1.toNat / 65536
    let refused := fun (t : State) (r : Reason) =>
      Completed s t p { cls := .refused, reason := r, arg := 0, residual := 0 }
        ∧ OnlyChanges [.port, .cu] s t
    let stops := fun (t : State) (r : Reason) =>
      Completed s t p { cls := .alert, reason := r, arg := 0, residual := count }
        ∧ t.store = { s.store with trav := none } ∧ OnlyChanges [.store, .port, .cu] s t
    let walks := fun (c : Instr) (m : MoveMode) (forward : Bool) =>
      ∃ t, exec c s = .next t
        ∧ if s.enginesIdle = false then refused t .storeBusy
          else if s.store.formatted = false then refused t .notFormatted
          else match s.store.position with
          | none => refused t .positionLost
          | some o =>
            if count = 0 then
              Completed s t p { cls := .done, reason := .none, arg := 0, residual := 0 }
                ∧ OnlyChanges [.port, .cu] s t
            else if forward = true ∧ o = s.store.eod then stops t .endOfData
            else if forward = false ∧ o = 0 then stops t .startOfStore
            else
              t.store = { s.store with
                  trav := some (.move m count 0 (if forward then .header else .trailer)) }
                ∧ t.cu = { s.cu with cmd := some { packet := some p, stage := .engine } }
                ∧ Presents s t .moveRead
                    (if forward then { tag := 0, addr := s.store.base + o, body := .read 8 }
                      else { tag := 0, addr := s.store.base + o - 4, body := .read 1 })
                ∧ OnlyChanges [.store, .port, .cu] s t
    let places := fun (c : Instr) (store : Store) =>
      ∃ t, exec c s = .next t
        ∧ if s.enginesIdle = false then refused t .storeBusy
          else if s.store.formatted = false then refused t .notFormatted
          else
            t.store = store
              ∧ Completed s t p { cls := .done, reason := .none, arg := 0, residual := 0 }
              ∧ OnlyChanges [.store, .port, .cu] s t
    (mode = 0 → walks .stepFwd .stepFwd true) ∧ (mode = 1 → walks .stepRev .stepRev false)
      ∧ (mode = 2 → walks .skipFwd .skipFwd true) ∧ (mode = 3 → walks .skipRev .skipRev false)
      ∧ (mode = 4 → places .rewind { s.store with position := some 0, lesson := 0 })
      ∧ (mode = 5 → places .toEnd { s.store with position := some s.store.eod })
      ∧ (6 ≤ mode → ∀ c ∈ [Instr.stepFwd, .stepRev, .skipFwd, .skipRev, .rewind, .toEnd],
          ∃ t, exec c s = .next t ∧ refused t .badValue)

/-- A read of a traversal. An ERROR stops it RETRY with position and residual kept; a bad header, an END, or a
trailer or header that fails the reverse checks stops it LOST HEADER_BAD. A good trailer leads to the header
that its length names. A good record is passed: the position moves to its far side, and a record of the kind
that the mode counts (pages for a step, marks for a skip) uses a unit, the last of which stops it DONE, while a
mark stops a step ALERT MARK_PASSED; else the next step follows (R123 to R130). The argument of a stop is the number
of records passed up to 65,535 and is not stated beyond (R121; log entry 11). -/
def Obligations.TraversalReads : Prop :=
  ∀ (s : State) (a : Answer) (p : Packet) (mode : MoveMode) (left passed o : Nat) (stage : MoveStage),
    s.replied .moveRead a → s.store.trav = some (.move mode left passed stage) →
    s.store.position = some o → s.cu.cmd = some { packet := some p, stage := .engine } →
    1 ≤ left →
    let forward := mode = .stepFwd ∨ mode = .skipFwd
    let skips := mode = .skipFwd ∨ mode = .skipRev
    let len := (a.words.getD 0 0).toNat
    ∃ t, exec (.traversalReadAnswer a) s = .next t
      ∧ OnlyChanges [.store, .port, .cu] s t
      ∧ let stops := fun (cls : TermClass) (r : Reason) (position : Option Nat) (units records : Nat) =>
          t.store = { s.store with trav := none, position := position }
            ∧ ∃ arg : Word, (records ≤ 65535 → arg = BitVec.ofNat 32 records)
              ∧ Completed s.portFreed t p { cls := cls, reason := r, arg := arg, residual := units }
        let reads := fun (position units records : Nat) (st : MoveStage) (b : Burst) =>
          t.store = { s.store with
              trav := some (.move mode units records st), position := some position }
            ∧ t.cu = s.cu ∧ Presents s.portFreed t .moveRead b
        let passes := fun (dest : Nat) (kind : Kind) =>
          let steps := fun units : Nat =>
            (forward → dest = s.store.eod → stops .alert .endOfData (some dest) units (passed + 1))
            ∧ (forward → dest ≠ s.store.eod →
                reads dest units (passed + 1) .header
                  { tag := 0, addr := s.store.base + dest, body := .read 8 })
            ∧ (¬ forward → dest = 0 → stops .alert .startOfStore (some dest) units (passed + 1))
            ∧ (¬ forward → dest ≠ 0 →
                reads dest units (passed + 1) .trailer
                  { tag := 0, addr := s.store.base + dest - 4, body := .read 1 })
          if kind = .mark ↔ skips then
            (left = 1 → stops .done .none (some dest) 0 (passed + 1)) ∧ (1 < left → steps (left - 1))
          else (skips → steps left) ∧ (¬ skips → stops .alert .markPassed (some dest) left (passed + 1))
        (a.error = true → stops .retry .memoryError (some o) left passed)
        ∧ (a.error = false → stage = .header →
            (∀ h, judgeChain s.store.eod o a.words = some h → h.kind ≠ .endRecord →
              passes (o + h.length) h.kind)
            ∧ ((∀ h, judgeChain s.store.eod o a.words = some h → h.kind = .endRecord) →
              stops .lost .headerBad none left passed))
        ∧ (a.error = false → stage = .trailer →
            (len % 4 = 0 → 36 ≤ len → len ≤ o →
              reads o left passed (.back len)
                { tag := 0, addr := s.store.base + (o - len), body := .read 8 })
            ∧ (¬ (len % 4 = 0 ∧ 36 ≤ len ∧ len ≤ o) → stops .lost .headerBad none left passed))
        ∧ ∀ back, a.error = false → stage = .back back →
            (∀ h, judgeChain s.store.eod (o - back) a.words = some h → h.kind ≠ .endRecord →
              h.length = back → passes (o - back) h.kind)
            ∧ ((∀ h, judgeChain s.store.eod (o - back) a.words = some h →
                h.kind = .endRecord ∨ h.length ≠ back) → stops .lost .headerBad none left passed)

/-! ## Triggers -/

/-- An ADVANCE read: an ERROR is an overrun; a bad header or an END makes the position LOST and posts
POSITION_LOST; a MARK posts LESSON_END. A page that the view shows, met first, is passed, the position moving
behind it, where the end of data posts LESSON_END and else the next header is read; any other page becomes the
source of the view, zoom and pan kept and a frozen slot released, unless a region change waits
(R96, R129, R132, R133, R149). -/
def Obligations.AdvanceReads : Prop :=
  ∀ (s : State) (a : Answer) (passed : Bool) (o : Nat), s.replied .advanceRead a →
    s.store.trav = some (.advance passed) → s.store.position = some o →
    let judged := judgeChain s.store.eod o a.words
    let lesson := { s.cu with notices := { s.cu.notices with lessonEnd := true } }
    ∃ t, exec (.advanceReadAnswer a) s = .next t
      ∧ (a.error = true →
          t.timer = { s.timer with overruns := s.timer.overruns + 1 }
            ∧ t.store = { s.store with trav := none } ∧ t.port = s.portFreed.port
            ∧ OnlyChanges [.timer, .store, .port] s t)
      ∧ (a.error = false → (∀ h, judged = some h → h.kind = .endRecord) →
          t.store = { s.store with trav := none, position := none }
            ∧ NoticeDue (s.portFreed.setStore t.store)
                { s.cu with notices := { s.cu.notices with positionLost := true } } t
            ∧ OnlyChanges [.store, .port, .cu] s t)
      ∧ (∀ h, a.error = false → judged = some h → h.kind = .mark →
          t.store = { s.store with trav := none } ∧ NoticeDue (s.portFreed.setStore t.store) lesson t
            ∧ OnlyChanges [.store, .port, .cu] s t)
      ∧ ∀ h, a.error = false → judged = some h → h.kind = .page →
          let shown := passed = false
            ∧ ∃ g, s.view.current.source = .page g ∧ g.offset = o ∧ g.serial = h.serial
          (shown → o + h.length = s.store.eod →
            t.store = { s.store with trav := none, position := some (o + h.length) }
              ∧ NoticeDue (s.portFreed.setStore t.store) lesson t ∧ OnlyChanges [.store, .port, .cu] s t)
          ∧ (shown → o + h.length ≠ s.store.eod →
            t.store = { s.store with trav := some (.advance true), position := some (o + h.length) }
              ∧ Presents s.portFreed t .advanceRead
                  { tag := 0, addr := s.store.base + (o + h.length), body := .read 8 }
              ∧ OnlyChanges [.store, .port] s t)
          ∧ (¬ shown → s.store.deferred ≠ none →
            t.store = { s.store with trav := none } ∧ t.port = s.portFreed.port
              ∧ OnlyChanges [.store, .port] s t)
          ∧ (¬ shown → s.store.deferred = none →
            t.store = { s.store with trav := none }
              ∧ t.view = { s.view with
                  current := { s.view.current with
                    source := .page
                      { offset := o, serial := h.serial, format := h.format, w := h.w, h := h.h } } }
              ∧ t.slots = (s.releaseOpt s.view.current.held).slots ∧ t.port = s.portFreed.port
              ∧ OnlyChanges [.store, .port, .view, .slots] s t)

/-- A line event fires the entry of its line mark when it is enabled, has not fired in this frame and the cycle
count of the frame modulo 2^k is its residue; its fired flag is set, and its action is handed on. With an engine
in use CAPTURE, MARK and ADVANCE are overruns; ADVANCE is one too when the store is UNFORMATTED or the position
LOST, posts LESSON_END at the end of data, and else reads the header at the position. A CAPTURE or MARK that a
check refuses posts CAPTURE_FAILED with its reason; an accepted one takes the copy engine with its header fixed
and presents its first transaction. ZOOM_STEP moves the zoom; NOTIFY posts TRIGGER_NOTE (R107, R112, R113, R118,
R145 to R149). That the first read of a CAPTURE is of eight words, and for HALF of the upper source line, is the
model's choice (log entry 10). That a transaction is presented also while an aborted one of the Store Controller
is granted is its choice (log entry 26). -/
def Obligations.LineEventFires : Prop :=
  ∀ (s : State) (line : Nat), s.timer.triggers.Pairwise (fun x y => x.line < y.line) →
    let fires := fun e : Trigger => e ∈ s.timer.triggers ∧ e.line = line ∧ e.enabled = true
      ∧ e.fired = false ∧ s.timer.frameNumber.toNat % 64 % 2 ^ e.k = e.r
    ((∀ e, ¬ fires e) → s.lineEvent line = s)
      ∧ ∀ e, fires e →
        let marked := s.timer.triggers.map fun x => if x.line = line then { x with fired := true } else x
        let u := s.setTimer { s.timer with triggers := marked }
        let t := s.lineEvent line
        (e.action = .notify →
          NoticeDue u { s.cu with notices := { s.cu.notices with triggerNote := some e.arg } } t
            ∧ OnlyChanges [.cu, .port] u t)
        ∧ (e.action = .zoomStep → t = u.zoomStep e.arg.toNat)
        ∧ ((e.action = .capture ∨ e.action = .mark ∨ e.action = .advance) → s.enginesIdle = false →
            t = u.setTimer { u.timer with overruns := u.timer.overruns + 1 })
        ∧ (e.action = .advance → s.enginesIdle = true →
            ((s.store.formatted = false ∨ s.store.position = none) →
              t = u.setTimer { u.timer with overruns := u.timer.overruns + 1 })
            ∧ ∀ o, s.store.formatted = true → s.store.position = some o →
              (o = s.store.eod →
                NoticeDue u { s.cu with notices := { s.cu.notices with lessonEnd := true } } t
                  ∧ OnlyChanges [.cu, .port] u t)
              ∧ (o ≠ s.store.eod →
                t.store = { s.store with trav := some (.advance false) }
                  ∧ Presents s t .advanceRead { tag := 0, addr := s.store.base + o, body := .read 8 }
                  ∧ OnlyChanges [.store, .port] u t))
        ∧ (s.enginesIdle = true → ∀ r,
            (e.action = .capture ∧ s.checkRecord e.arg.toNat 0 = .refused r
              ∨ e.action = .mark ∧ s.checkMark e.arg.toNat = .refused r) →
            NoticeDue u { s.cu with notices := { s.cu.notices with captureFailed := some r } } t
              ∧ OnlyChanges [.cu, .port] u t)
        ∧ (s.enginesIdle = true → ∀ o f i, e.action = .capture →
            s.checkRecord e.arg.toNat 0 = .accepted o f i →
            t.slots = (s.takeHold i).slots
              ∧ (∃ c, t.store = { s.store with copy := some c } ∧ c.job = .page i ∧ c.trigger = true
                  ∧ c.offset = o
                  ∧ (let r := s.slotRec i
                     let part := fun n : Nat => if f = .full then n else n / 2
                     c.header =
                      { kind := .page, format := f, broken := r.broken, note := false,
                        cycle := r.frame.toNat % 64, serial := s.store.serial,
                        length := 2 * part r.wc * part r.hc + 36, lesson := s.store.lesson, w := part r.wc,
                        h := part r.hc, z := 0, frame := r.frame, time := s.timer.localTime, cx := 0, cy := 0 })
                  ∧ (64 ≤ (s.slotRec i).wc → 16 ≤ (s.slotRec i).hc → (∃ left, c.stage = .read 0 [] left)
                    ∧ Presents s t .copy
                        { tag := 0, addr := s.bridge.regions.slotBase[i], body := .read 8 }))
              ∧ OnlyChanges [.slots, .store, .port] u t)
        ∧ (s.enginesIdle = true → ∀ o, e.action = .mark → s.checkMark e.arg.toNat = .accepted o →
            (∃ c, t.store = { s.store with copy := some c } ∧ c.job = .mark ∧ c.trigger = true
                ∧ c.offset = o
                ∧ c.header =
                  { kind := .mark, format := .full, broken := false, note := false,
                    cycle := s.timer.frameNumber.toNat % 64, serial := s.store.serial, length := 36,
                    lesson := e.arg.toNat, w := 0, h := 0, z := 0, frame := s.timer.frameNumber,
                    time := s.timer.localTime, cx := 0, cy := 0 })
              ∧ Presents s t .copy
                  { tag := 0, addr := s.store.base + o + 32, body := .write (fullBeats [36]) }
              ∧ OnlyChanges [.store, .port] u t)

/-- TRIGGERS: a count above 16 is refused BAD_VALUE, a count of 0 empties the list, and else the words of the
entries are read in transactions of up to eight; an ERROR ends the command RETRY. With the last read the list is
validated entry by entry to its end and replaces the one in force, or the first failing test refuses it with its
reason and the index of the entry (R143, R144; log entry 8). That each read is of eight words but the last is the
model's choice (log entry 10). -/
def Obligations.TriggersLoaded : Prop :=
  (∀ (s : State) (p : Packet), s.hands 11 p →
    let count := p.p1.toNat % 65536
    let addr := p.p2.toNat / 4 * 4
    ∃ t, exec .triggers s = .next t
      ∧ (16 < count →
          Completed s t p { cls := .refused, reason := .badValue, arg := 0, residual := 0 }
            ∧ OnlyChanges [.port, .cu] s t)
      ∧ (count = 0 → t.timer = { s.timer with triggers := [] }
          ∧ Completed s t p { cls := .done, reason := .none, arg := 0, residual := 0 }
          ∧ OnlyChanges [.timer, .port, .cu] s t)
      ∧ (1 ≤ count → count ≤ 16 →
          let n := min 8 (2 * count)
          OnlyChanges [.port, .cu] s t
          ∧ (0x1FFFFFC < addr + 4 * n - 4 →
              Completed s t p { cls := .retry, reason := .memoryError, arg := 0, residual := 0 })
          ∧ (addr + 4 * n - 4 ≤ 0x1FFFFFC →
              CommandReads s t (some p) (.listRead addr (2 * count) []) .triggerList
                { tag := 0, addr := addr, body := .read n })))
  ∧ (∀ (s : State) (a : Answer) (p : Packet) (addr total : Nat) (got : List Word),
      s.replied .triggerList a → s.cu.cmd = some { packet := some p, stage := .listRead addr total got } →
      let all := got ++ a.words
      let n := min 8 (total - all.length)
      ∃ t, exec (.triggerListReadAnswer a) s = .next t ∧ OnlyChanges [.timer, .port, .cu] s t
        ∧ (a.error = true →
            Completed s.portFreed t p { cls := .retry, reason := .memoryError, arg := 0, residual := 0 }
              ∧ t.timer = s.timer)
        ∧ (a.error = false → all.length < total → addr + 4 * all.length + 4 * n ≤ 0x2000000 →
            CommandReads s.portFreed t (some p) (.listRead addr total all) .triggerList
                { tag := 0, addr := addr + 4 * all.length, body := .read n }
              ∧ t.timer = s.timer)
        ∧ (a.error = false → all.length < total → 0x2000000 < addr + 4 * all.length + 4 * n →
            Completed s.portFreed t p { cls := .retry, reason := .memoryError, arg := 0, residual := 0 }
              ∧ t.timer = s.timer)
        ∧ (∀ ts, a.error = false → all.length = total →
            checkEntries s.slots.hc none 0 all = .good ts →
            t.timer = { s.timer with triggers := ts }
              ∧ Completed s.portFreed t p
                  { cls := .done, reason := .none, arg := toWord ts.length, residual := 0 })
        ∧ ∀ r i, a.error = false → all.length = total →
            checkEntries s.slots.hc none 0 all = .bad r i →
            t.timer = s.timer
              ∧ Completed s.portFreed t p
                  { cls := .refused, reason := r, arg := toWord i, residual := 0 })
  ∧ ∀ (hc : Nat) (before : Option Nat) (w0 w1 : Word),
    let action := (w0.extractLsb' 24 3).toNat
    let k := (w0.extractLsb' 12 3).toNat
    let r := (w0.extractLsb' 16 6).toNat
    let line := (w0.extractLsb' 0 11).toNat
    (4 < action ∨ 6 < k ∨ 2 ^ k ≤ r ∨ hc ≤ line → checkEntry hc before w0 w1 = .bad .badValue)
      ∧ (action ≤ 4 → k ≤ 6 → r < 2 ^ k → line < hc → (∃ l, before = some l ∧ line ≤ l) →
          checkEntry hc before w0 w1 = .bad .listOrder)
      ∧ (action ≤ 4 → k ≤ 6 → r < 2 ^ k → line < hc → (∀ l, before = some l → l < line) →
          ∃ a, a = (match action with | 0 => .capture | 1 => .mark | 2 => .advance | 3 => .zoomStep | _ => .notify)
            ∧ checkEntry hc before w0 w1 =
              .good
                { line := line, k := k, r := r, action := a, arg := w1.extractLsb' 0 16,
                  enabled := w0.getLsbD 31, fired := false })
      ∧ ∀ (index : Nat) (rest : List Word),
          checkEntries hc before index [] = .good []
          ∧ (∀ x, checkEntry hc before w0 w1 = .bad x →
            checkEntries hc before index (w0 :: w1 :: rest) = .bad x index)
          ∧ ∀ t, checkEntry hc before w0 w1 = .good t →
            (∀ x i, checkEntries hc (some t.line) (index + 1) rest = .bad x i →
              checkEntries hc before index (w0 :: w1 :: rest) = .bad x i)
            ∧ ∀ ts, checkEntries hc (some t.line) (index + 1) rest = .good ts →
              checkEntries hc before index (w0 :: w1 :: rest) = .good (t :: ts)

end
end

