-- ==== Sys2Proof/Laws/State.lean ====
section
/-! SUPPORT. The small lemmas of the state: what each setter leaves in each block. -/

set_option Elab.async false

namespace Sys2Proof.Machine

/-! ## setResetN -/

@[simp] theorem State.setResetN_resetN (s : State) (x : Bool) :
    (s.setResetN x).resetN = x := rfl

@[simp] theorem State.setResetN_bridge (s : State) (x : Bool) :
    (s.setResetN x).bridge = s.bridge := rfl

@[simp] theorem State.setResetN_port (s : State) (x : Bool) :
    (s.setResetN x).port = s.port := rfl

@[simp] theorem State.setResetN_asm (s : State) (x : Bool) :
    (s.setResetN x).asm = s.asm := rfl

@[simp] theorem State.setResetN_slots (s : State) (x : Bool) :
    (s.setResetN x).slots = s.slots := rfl

@[simp] theorem State.setResetN_enh (s : State) (x : Bool) :
    (s.setResetN x).enh = s.enh := rfl

@[simp] theorem State.setResetN_comp (s : State) (x : Bool) :
    (s.setResetN x).comp = s.comp := rfl

@[simp] theorem State.setResetN_view (s : State) (x : Bool) :
    (s.setResetN x).view = s.view := rfl

@[simp] theorem State.setResetN_store (s : State) (x : Bool) :
    (s.setResetN x).store = s.store := rfl

@[simp] theorem State.setResetN_timer (s : State) (x : Bool) :
    (s.setResetN x).timer = s.timer := rfl

@[simp] theorem State.setResetN_cu (s : State) (x : Bool) :
    (s.setResetN x).cu = s.cu := rfl

@[simp] theorem State.setResetN_pending (s : State) (x : Bool) :
    (s.setResetN x).pending = s.pending := rfl

@[simp] theorem State.setResetN_setResetN (s : State) (x y : Bool) :
    (s.setResetN x).setResetN y = s.setResetN y := rfl

@[simp] theorem State.setResetN_self (s : State) : s.setResetN s.resetN = s := rfl

/-! ## setBridge -/

@[simp] theorem State.setBridge_resetN (s : State) (x : Bridge) :
    (s.setBridge x).resetN = s.resetN := rfl

@[simp] theorem State.setBridge_bridge (s : State) (x : Bridge) :
    (s.setBridge x).bridge = x := rfl

@[simp] theorem State.setBridge_port (s : State) (x : Bridge) :
    (s.setBridge x).port = s.port := rfl

@[simp] theorem State.setBridge_asm (s : State) (x : Bridge) :
    (s.setBridge x).asm = s.asm := rfl

@[simp] theorem State.setBridge_slots (s : State) (x : Bridge) :
    (s.setBridge x).slots = s.slots := rfl

@[simp] theorem State.setBridge_enh (s : State) (x : Bridge) :
    (s.setBridge x).enh = s.enh := rfl

@[simp] theorem State.setBridge_comp (s : State) (x : Bridge) :
    (s.setBridge x).comp = s.comp := rfl

@[simp] theorem State.setBridge_view (s : State) (x : Bridge) :
    (s.setBridge x).view = s.view := rfl

@[simp] theorem State.setBridge_store (s : State) (x : Bridge) :
    (s.setBridge x).store = s.store := rfl

@[simp] theorem State.setBridge_timer (s : State) (x : Bridge) :
    (s.setBridge x).timer = s.timer := rfl

@[simp] theorem State.setBridge_cu (s : State) (x : Bridge) :
    (s.setBridge x).cu = s.cu := rfl

@[simp] theorem State.setBridge_pending (s : State) (x : Bridge) :
    (s.setBridge x).pending = s.pending := rfl

@[simp] theorem State.setBridge_setBridge (s : State) (x y : Bridge) :
    (s.setBridge x).setBridge y = s.setBridge y := rfl

@[simp] theorem State.setBridge_self (s : State) : s.setBridge s.bridge = s := rfl

/-! ## setPort -/

@[simp] theorem State.setPort_resetN (s : State) (x : MemoryPort) :
    (s.setPort x).resetN = s.resetN := rfl

@[simp] theorem State.setPort_bridge (s : State) (x : MemoryPort) :
    (s.setPort x).bridge = s.bridge := rfl

@[simp] theorem State.setPort_port (s : State) (x : MemoryPort) :
    (s.setPort x).port = x := rfl

@[simp] theorem State.setPort_asm (s : State) (x : MemoryPort) :
    (s.setPort x).asm = s.asm := rfl

@[simp] theorem State.setPort_slots (s : State) (x : MemoryPort) :
    (s.setPort x).slots = s.slots := rfl

@[simp] theorem State.setPort_enh (s : State) (x : MemoryPort) :
    (s.setPort x).enh = s.enh := rfl

@[simp] theorem State.setPort_comp (s : State) (x : MemoryPort) :
    (s.setPort x).comp = s.comp := rfl

@[simp] theorem State.setPort_view (s : State) (x : MemoryPort) :
    (s.setPort x).view = s.view := rfl

@[simp] theorem State.setPort_store (s : State) (x : MemoryPort) :
    (s.setPort x).store = s.store := rfl

@[simp] theorem State.setPort_timer (s : State) (x : MemoryPort) :
    (s.setPort x).timer = s.timer := rfl

@[simp] theorem State.setPort_cu (s : State) (x : MemoryPort) :
    (s.setPort x).cu = s.cu := rfl

@[simp] theorem State.setPort_pending (s : State) (x : MemoryPort) :
    (s.setPort x).pending = s.pending := rfl

@[simp] theorem State.setPort_setPort (s : State) (x y : MemoryPort) :
    (s.setPort x).setPort y = s.setPort y := rfl

@[simp] theorem State.setPort_self (s : State) : s.setPort s.port = s := rfl

/-! ## setAsm -/

@[simp] theorem State.setAsm_resetN (s : State) (x : Assembler) :
    (s.setAsm x).resetN = s.resetN := rfl

@[simp] theorem State.setAsm_bridge (s : State) (x : Assembler) :
    (s.setAsm x).bridge = s.bridge := rfl

@[simp] theorem State.setAsm_port (s : State) (x : Assembler) :
    (s.setAsm x).port = s.port := rfl

@[simp] theorem State.setAsm_asm (s : State) (x : Assembler) :
    (s.setAsm x).asm = x := rfl

@[simp] theorem State.setAsm_slots (s : State) (x : Assembler) :
    (s.setAsm x).slots = s.slots := rfl

@[simp] theorem State.setAsm_enh (s : State) (x : Assembler) :
    (s.setAsm x).enh = s.enh := rfl

@[simp] theorem State.setAsm_comp (s : State) (x : Assembler) :
    (s.setAsm x).comp = s.comp := rfl

@[simp] theorem State.setAsm_view (s : State) (x : Assembler) :
    (s.setAsm x).view = s.view := rfl

@[simp] theorem State.setAsm_store (s : State) (x : Assembler) :
    (s.setAsm x).store = s.store := rfl

@[simp] theorem State.setAsm_timer (s : State) (x : Assembler) :
    (s.setAsm x).timer = s.timer := rfl

@[simp] theorem State.setAsm_cu (s : State) (x : Assembler) :
    (s.setAsm x).cu = s.cu := rfl

@[simp] theorem State.setAsm_pending (s : State) (x : Assembler) :
    (s.setAsm x).pending = s.pending := rfl

@[simp] theorem State.setAsm_setAsm (s : State) (x y : Assembler) :
    (s.setAsm x).setAsm y = s.setAsm y := rfl

@[simp] theorem State.setAsm_self (s : State) : s.setAsm s.asm = s := rfl

/-! ## setSlots -/

@[simp] theorem State.setSlots_resetN (s : State) (x : SlotManager) :
    (s.setSlots x).resetN = s.resetN := rfl

@[simp] theorem State.setSlots_bridge (s : State) (x : SlotManager) :
    (s.setSlots x).bridge = s.bridge := rfl

@[simp] theorem State.setSlots_port (s : State) (x : SlotManager) :
    (s.setSlots x).port = s.port := rfl

@[simp] theorem State.setSlots_asm (s : State) (x : SlotManager) :
    (s.setSlots x).asm = s.asm := rfl

@[simp] theorem State.setSlots_slots (s : State) (x : SlotManager) :
    (s.setSlots x).slots = x := rfl

@[simp] theorem State.setSlots_enh (s : State) (x : SlotManager) :
    (s.setSlots x).enh = s.enh := rfl

@[simp] theorem State.setSlots_comp (s : State) (x : SlotManager) :
    (s.setSlots x).comp = s.comp := rfl

@[simp] theorem State.setSlots_view (s : State) (x : SlotManager) :
    (s.setSlots x).view = s.view := rfl

@[simp] theorem State.setSlots_store (s : State) (x : SlotManager) :
    (s.setSlots x).store = s.store := rfl

@[simp] theorem State.setSlots_timer (s : State) (x : SlotManager) :
    (s.setSlots x).timer = s.timer := rfl

@[simp] theorem State.setSlots_cu (s : State) (x : SlotManager) :
    (s.setSlots x).cu = s.cu := rfl

@[simp] theorem State.setSlots_pending (s : State) (x : SlotManager) :
    (s.setSlots x).pending = s.pending := rfl

@[simp] theorem State.setSlots_setSlots (s : State) (x y : SlotManager) :
    (s.setSlots x).setSlots y = s.setSlots y := rfl

@[simp] theorem State.setSlots_self (s : State) : s.setSlots s.slots = s := rfl

/-! ## setEnh -/

@[simp] theorem State.setEnh_resetN (s : State) (x : Enhancer) :
    (s.setEnh x).resetN = s.resetN := rfl

@[simp] theorem State.setEnh_bridge (s : State) (x : Enhancer) :
    (s.setEnh x).bridge = s.bridge := rfl

@[simp] theorem State.setEnh_port (s : State) (x : Enhancer) :
    (s.setEnh x).port = s.port := rfl

@[simp] theorem State.setEnh_asm (s : State) (x : Enhancer) :
    (s.setEnh x).asm = s.asm := rfl

@[simp] theorem State.setEnh_slots (s : State) (x : Enhancer) :
    (s.setEnh x).slots = s.slots := rfl

@[simp] theorem State.setEnh_enh (s : State) (x : Enhancer) :
    (s.setEnh x).enh = x := rfl

@[simp] theorem State.setEnh_comp (s : State) (x : Enhancer) :
    (s.setEnh x).comp = s.comp := rfl

@[simp] theorem State.setEnh_view (s : State) (x : Enhancer) :
    (s.setEnh x).view = s.view := rfl

@[simp] theorem State.setEnh_store (s : State) (x : Enhancer) :
    (s.setEnh x).store = s.store := rfl

@[simp] theorem State.setEnh_timer (s : State) (x : Enhancer) :
    (s.setEnh x).timer = s.timer := rfl

@[simp] theorem State.setEnh_cu (s : State) (x : Enhancer) :
    (s.setEnh x).cu = s.cu := rfl

@[simp] theorem State.setEnh_pending (s : State) (x : Enhancer) :
    (s.setEnh x).pending = s.pending := rfl

@[simp] theorem State.setEnh_setEnh (s : State) (x y : Enhancer) :
    (s.setEnh x).setEnh y = s.setEnh y := rfl

@[simp] theorem State.setEnh_self (s : State) : s.setEnh s.enh = s := rfl

/-! ## setComp -/

@[simp] theorem State.setComp_resetN (s : State) (x : Composer) :
    (s.setComp x).resetN = s.resetN := rfl

@[simp] theorem State.setComp_bridge (s : State) (x : Composer) :
    (s.setComp x).bridge = s.bridge := rfl

@[simp] theorem State.setComp_port (s : State) (x : Composer) :
    (s.setComp x).port = s.port := rfl

@[simp] theorem State.setComp_asm (s : State) (x : Composer) :
    (s.setComp x).asm = s.asm := rfl

@[simp] theorem State.setComp_slots (s : State) (x : Composer) :
    (s.setComp x).slots = s.slots := rfl

@[simp] theorem State.setComp_enh (s : State) (x : Composer) :
    (s.setComp x).enh = s.enh := rfl

@[simp] theorem State.setComp_comp (s : State) (x : Composer) :
    (s.setComp x).comp = x := rfl

@[simp] theorem State.setComp_view (s : State) (x : Composer) :
    (s.setComp x).view = s.view := rfl

@[simp] theorem State.setComp_store (s : State) (x : Composer) :
    (s.setComp x).store = s.store := rfl

@[simp] theorem State.setComp_timer (s : State) (x : Composer) :
    (s.setComp x).timer = s.timer := rfl

@[simp] theorem State.setComp_cu (s : State) (x : Composer) :
    (s.setComp x).cu = s.cu := rfl

@[simp] theorem State.setComp_pending (s : State) (x : Composer) :
    (s.setComp x).pending = s.pending := rfl

@[simp] theorem State.setComp_setComp (s : State) (x y : Composer) :
    (s.setComp x).setComp y = s.setComp y := rfl

@[simp] theorem State.setComp_self (s : State) : s.setComp s.comp = s := rfl

/-! ## setView -/

@[simp] theorem State.setView_resetN (s : State) (x : ViewController) :
    (s.setView x).resetN = s.resetN := rfl

@[simp] theorem State.setView_bridge (s : State) (x : ViewController) :
    (s.setView x).bridge = s.bridge := rfl

@[simp] theorem State.setView_port (s : State) (x : ViewController) :
    (s.setView x).port = s.port := rfl

@[simp] theorem State.setView_asm (s : State) (x : ViewController) :
    (s.setView x).asm = s.asm := rfl

@[simp] theorem State.setView_slots (s : State) (x : ViewController) :
    (s.setView x).slots = s.slots := rfl

@[simp] theorem State.setView_enh (s : State) (x : ViewController) :
    (s.setView x).enh = s.enh := rfl

@[simp] theorem State.setView_comp (s : State) (x : ViewController) :
    (s.setView x).comp = s.comp := rfl

@[simp] theorem State.setView_view (s : State) (x : ViewController) :
    (s.setView x).view = x := rfl

@[simp] theorem State.setView_store (s : State) (x : ViewController) :
    (s.setView x).store = s.store := rfl

@[simp] theorem State.setView_timer (s : State) (x : ViewController) :
    (s.setView x).timer = s.timer := rfl

@[simp] theorem State.setView_cu (s : State) (x : ViewController) :
    (s.setView x).cu = s.cu := rfl

@[simp] theorem State.setView_pending (s : State) (x : ViewController) :
    (s.setView x).pending = s.pending := rfl

@[simp] theorem State.setView_setView (s : State) (x y : ViewController) :
    (s.setView x).setView y = s.setView y := rfl

@[simp] theorem State.setView_self (s : State) : s.setView s.view = s := rfl

/-! ## setStore -/

@[simp] theorem State.setStore_resetN (s : State) (x : Store) :
    (s.setStore x).resetN = s.resetN := rfl

@[simp] theorem State.setStore_bridge (s : State) (x : Store) :
    (s.setStore x).bridge = s.bridge := rfl

@[simp] theorem State.setStore_port (s : State) (x : Store) :
    (s.setStore x).port = s.port := rfl

@[simp] theorem State.setStore_asm (s : State) (x : Store) :
    (s.setStore x).asm = s.asm := rfl

@[simp] theorem State.setStore_slots (s : State) (x : Store) :
    (s.setStore x).slots = s.slots := rfl

@[simp] theorem State.setStore_enh (s : State) (x : Store) :
    (s.setStore x).enh = s.enh := rfl

@[simp] theorem State.setStore_comp (s : State) (x : Store) :
    (s.setStore x).comp = s.comp := rfl

@[simp] theorem State.setStore_view (s : State) (x : Store) :
    (s.setStore x).view = s.view := rfl

@[simp] theorem State.setStore_store (s : State) (x : Store) :
    (s.setStore x).store = x := rfl

@[simp] theorem State.setStore_timer (s : State) (x : Store) :
    (s.setStore x).timer = s.timer := rfl

@[simp] theorem State.setStore_cu (s : State) (x : Store) :
    (s.setStore x).cu = s.cu := rfl

@[simp] theorem State.setStore_pending (s : State) (x : Store) :
    (s.setStore x).pending = s.pending := rfl

@[simp] theorem State.setStore_setStore (s : State) (x y : Store) :
    (s.setStore x).setStore y = s.setStore y := rfl

@[simp] theorem State.setStore_self (s : State) : s.setStore s.store = s := rfl

/-! ## setTimer -/

@[simp] theorem State.setTimer_resetN (s : State) (x : Timer) :
    (s.setTimer x).resetN = s.resetN := rfl

@[simp] theorem State.setTimer_bridge (s : State) (x : Timer) :
    (s.setTimer x).bridge = s.bridge := rfl

@[simp] theorem State.setTimer_port (s : State) (x : Timer) :
    (s.setTimer x).port = s.port := rfl

@[simp] theorem State.setTimer_asm (s : State) (x : Timer) :
    (s.setTimer x).asm = s.asm := rfl

@[simp] theorem State.setTimer_slots (s : State) (x : Timer) :
    (s.setTimer x).slots = s.slots := rfl

@[simp] theorem State.setTimer_enh (s : State) (x : Timer) :
    (s.setTimer x).enh = s.enh := rfl

@[simp] theorem State.setTimer_comp (s : State) (x : Timer) :
    (s.setTimer x).comp = s.comp := rfl

@[simp] theorem State.setTimer_view (s : State) (x : Timer) :
    (s.setTimer x).view = s.view := rfl

@[simp] theorem State.setTimer_store (s : State) (x : Timer) :
    (s.setTimer x).store = s.store := rfl

@[simp] theorem State.setTimer_timer (s : State) (x : Timer) :
    (s.setTimer x).timer = x := rfl

@[simp] theorem State.setTimer_cu (s : State) (x : Timer) :
    (s.setTimer x).cu = s.cu := rfl

@[simp] theorem State.setTimer_pending (s : State) (x : Timer) :
    (s.setTimer x).pending = s.pending := rfl

@[simp] theorem State.setTimer_setTimer (s : State) (x y : Timer) :
    (s.setTimer x).setTimer y = s.setTimer y := rfl

@[simp] theorem State.setTimer_self (s : State) : s.setTimer s.timer = s := rfl

/-! ## setCu -/

@[simp] theorem State.setCu_resetN (s : State) (x : CommandUnit) :
    (s.setCu x).resetN = s.resetN := rfl

@[simp] theorem State.setCu_bridge (s : State) (x : CommandUnit) :
    (s.setCu x).bridge = s.bridge := rfl

@[simp] theorem State.setCu_port (s : State) (x : CommandUnit) :
    (s.setCu x).port = s.port := rfl

@[simp] theorem State.setCu_asm (s : State) (x : CommandUnit) :
    (s.setCu x).asm = s.asm := rfl

@[simp] theorem State.setCu_slots (s : State) (x : CommandUnit) :
    (s.setCu x).slots = s.slots := rfl

@[simp] theorem State.setCu_enh (s : State) (x : CommandUnit) :
    (s.setCu x).enh = s.enh := rfl

@[simp] theorem State.setCu_comp (s : State) (x : CommandUnit) :
    (s.setCu x).comp = s.comp := rfl

@[simp] theorem State.setCu_view (s : State) (x : CommandUnit) :
    (s.setCu x).view = s.view := rfl

@[simp] theorem State.setCu_store (s : State) (x : CommandUnit) :
    (s.setCu x).store = s.store := rfl

@[simp] theorem State.setCu_timer (s : State) (x : CommandUnit) :
    (s.setCu x).timer = s.timer := rfl

@[simp] theorem State.setCu_cu (s : State) (x : CommandUnit) :
    (s.setCu x).cu = x := rfl

@[simp] theorem State.setCu_pending (s : State) (x : CommandUnit) :
    (s.setCu x).pending = s.pending := rfl

@[simp] theorem State.setCu_setCu (s : State) (x y : CommandUnit) :
    (s.setCu x).setCu y = s.setCu y := rfl

@[simp] theorem State.setCu_self (s : State) : s.setCu s.cu = s := rfl

/-! ## setPending -/

@[simp] theorem State.setPending_resetN (s : State) (x : List Instr) :
    (s.setPending x).resetN = s.resetN := rfl

@[simp] theorem State.setPending_bridge (s : State) (x : List Instr) :
    (s.setPending x).bridge = s.bridge := rfl

@[simp] theorem State.setPending_port (s : State) (x : List Instr) :
    (s.setPending x).port = s.port := rfl

@[simp] theorem State.setPending_asm (s : State) (x : List Instr) :
    (s.setPending x).asm = s.asm := rfl

@[simp] theorem State.setPending_slots (s : State) (x : List Instr) :
    (s.setPending x).slots = s.slots := rfl

@[simp] theorem State.setPending_enh (s : State) (x : List Instr) :
    (s.setPending x).enh = s.enh := rfl

@[simp] theorem State.setPending_comp (s : State) (x : List Instr) :
    (s.setPending x).comp = s.comp := rfl

@[simp] theorem State.setPending_view (s : State) (x : List Instr) :
    (s.setPending x).view = s.view := rfl

@[simp] theorem State.setPending_store (s : State) (x : List Instr) :
    (s.setPending x).store = s.store := rfl

@[simp] theorem State.setPending_timer (s : State) (x : List Instr) :
    (s.setPending x).timer = s.timer := rfl

@[simp] theorem State.setPending_cu (s : State) (x : List Instr) :
    (s.setPending x).cu = s.cu := rfl

@[simp] theorem State.setPending_pending (s : State) (x : List Instr) :
    (s.setPending x).pending = x := rfl

@[simp] theorem State.setPending_setPending (s : State) (x y : List Instr) :
    (s.setPending x).setPending y = s.setPending y := rfl

@[simp] theorem State.setPending_self (s : State) : s.setPending s.pending = s := rfl

end Sys2Proof.Machine
end

