-- ==== Sys2Proof/Laws/Frames.lean ====
section
/-! SUPPORT. The frames of the shared operations: each block that an operation leaves alone. -/

set_option Elab.async false

namespace Sys2Proof.Machine

/-! ## present -/

@[simp] theorem State.present_resetN (s : State) (p : Purpose) (b : Burst) :
    (s.present p b).resetN = s.resetN := rfl

@[simp] theorem State.present_bridge (s : State) (p : Purpose) (b : Burst) :
    (s.present p b).bridge = s.bridge := rfl

@[simp] theorem State.present_asm (s : State) (p : Purpose) (b : Burst) :
    (s.present p b).asm = s.asm := rfl

@[simp] theorem State.present_slots (s : State) (p : Purpose) (b : Burst) :
    (s.present p b).slots = s.slots := rfl

@[simp] theorem State.present_enh (s : State) (p : Purpose) (b : Burst) :
    (s.present p b).enh = s.enh := rfl

@[simp] theorem State.present_comp (s : State) (p : Purpose) (b : Burst) :
    (s.present p b).comp = s.comp := rfl

@[simp] theorem State.present_view (s : State) (p : Purpose) (b : Burst) :
    (s.present p b).view = s.view := rfl

@[simp] theorem State.present_store (s : State) (p : Purpose) (b : Burst) :
    (s.present p b).store = s.store := rfl

@[simp] theorem State.present_timer (s : State) (p : Purpose) (b : Burst) :
    (s.present p b).timer = s.timer := rfl

@[simp] theorem State.present_cu (s : State) (p : Purpose) (b : Burst) :
    (s.present p b).cu = s.cu := rfl

@[simp] theorem State.present_pending (s : State) (p : Purpose) (b : Burst) :
    (s.present p b).pending = s.pending := rfl

/-! ## presentCommand -/

@[simp] theorem State.presentCommand_resetN (s : State) (p : Purpose) (b : Burst) :
    (s.presentCommand p b).resetN = s.resetN := by
  unfold State.presentCommand; split <;> rfl

@[simp] theorem State.presentCommand_bridge (s : State) (p : Purpose) (b : Burst) :
    (s.presentCommand p b).bridge = s.bridge := by
  unfold State.presentCommand; split <;> rfl

@[simp] theorem State.presentCommand_asm (s : State) (p : Purpose) (b : Burst) :
    (s.presentCommand p b).asm = s.asm := by
  unfold State.presentCommand; split <;> rfl

@[simp] theorem State.presentCommand_slots (s : State) (p : Purpose) (b : Burst) :
    (s.presentCommand p b).slots = s.slots := by
  unfold State.presentCommand; split <;> rfl

@[simp] theorem State.presentCommand_enh (s : State) (p : Purpose) (b : Burst) :
    (s.presentCommand p b).enh = s.enh := by
  unfold State.presentCommand; split <;> rfl

@[simp] theorem State.presentCommand_comp (s : State) (p : Purpose) (b : Burst) :
    (s.presentCommand p b).comp = s.comp := by
  unfold State.presentCommand; split <;> rfl

@[simp] theorem State.presentCommand_view (s : State) (p : Purpose) (b : Burst) :
    (s.presentCommand p b).view = s.view := by
  unfold State.presentCommand; split <;> rfl

@[simp] theorem State.presentCommand_store (s : State) (p : Purpose) (b : Burst) :
    (s.presentCommand p b).store = s.store := by
  unfold State.presentCommand; split <;> rfl

@[simp] theorem State.presentCommand_timer (s : State) (p : Purpose) (b : Burst) :
    (s.presentCommand p b).timer = s.timer := by
  unfold State.presentCommand; split <;> rfl

@[simp] theorem State.presentCommand_pending (s : State) (p : Purpose) (b : Burst) :
    (s.presentCommand p b).pending = s.pending := by
  unfold State.presentCommand; split <;> rfl

/-! ## setCmdStage -/

@[simp] theorem State.setCmdStage_resetN (s : State) (st : CmdStage) :
    (s.setCmdStage st).resetN = s.resetN := by
  unfold State.setCmdStage; split <;> rfl

@[simp] theorem State.setCmdStage_bridge (s : State) (st : CmdStage) :
    (s.setCmdStage st).bridge = s.bridge := by
  unfold State.setCmdStage; split <;> rfl

@[simp] theorem State.setCmdStage_port (s : State) (st : CmdStage) :
    (s.setCmdStage st).port = s.port := by
  unfold State.setCmdStage; split <;> rfl

@[simp] theorem State.setCmdStage_asm (s : State) (st : CmdStage) :
    (s.setCmdStage st).asm = s.asm := by
  unfold State.setCmdStage; split <;> rfl

@[simp] theorem State.setCmdStage_slots (s : State) (st : CmdStage) :
    (s.setCmdStage st).slots = s.slots := by
  unfold State.setCmdStage; split <;> rfl

@[simp] theorem State.setCmdStage_enh (s : State) (st : CmdStage) :
    (s.setCmdStage st).enh = s.enh := by
  unfold State.setCmdStage; split <;> rfl

@[simp] theorem State.setCmdStage_comp (s : State) (st : CmdStage) :
    (s.setCmdStage st).comp = s.comp := by
  unfold State.setCmdStage; split <;> rfl

@[simp] theorem State.setCmdStage_view (s : State) (st : CmdStage) :
    (s.setCmdStage st).view = s.view := by
  unfold State.setCmdStage; split <;> rfl

@[simp] theorem State.setCmdStage_store (s : State) (st : CmdStage) :
    (s.setCmdStage st).store = s.store := by
  unfold State.setCmdStage; split <;> rfl

@[simp] theorem State.setCmdStage_timer (s : State) (st : CmdStage) :
    (s.setCmdStage st).timer = s.timer := by
  unfold State.setCmdStage; split <;> rfl

@[simp] theorem State.setCmdStage_pending (s : State) (st : CmdStage) :
    (s.setCmdStage st).pending = s.pending := by
  unfold State.setCmdStage; split <;> rfl

/-! ## completeWith -/

@[simp] theorem State.completeWith_resetN (s : State) (o : Result) (r : Bool) :
    (s.completeWith o r).resetN = s.resetN := by
  unfold State.completeWith; split <;> simp

@[simp] theorem State.completeWith_bridge (s : State) (o : Result) (r : Bool) :
    (s.completeWith o r).bridge = s.bridge := by
  unfold State.completeWith; split <;> simp

@[simp] theorem State.completeWith_asm (s : State) (o : Result) (r : Bool) :
    (s.completeWith o r).asm = s.asm := by
  unfold State.completeWith; split <;> simp

@[simp] theorem State.completeWith_slots (s : State) (o : Result) (r : Bool) :
    (s.completeWith o r).slots = s.slots := by
  unfold State.completeWith; split <;> simp

@[simp] theorem State.completeWith_enh (s : State) (o : Result) (r : Bool) :
    (s.completeWith o r).enh = s.enh := by
  unfold State.completeWith; split <;> simp

@[simp] theorem State.completeWith_comp (s : State) (o : Result) (r : Bool) :
    (s.completeWith o r).comp = s.comp := by
  unfold State.completeWith; split <;> simp

@[simp] theorem State.completeWith_view (s : State) (o : Result) (r : Bool) :
    (s.completeWith o r).view = s.view := by
  unfold State.completeWith; split <;> simp

@[simp] theorem State.completeWith_store (s : State) (o : Result) (r : Bool) :
    (s.completeWith o r).store = s.store := by
  unfold State.completeWith; split <;> simp

@[simp] theorem State.completeWith_timer (s : State) (o : Result) (r : Bool) :
    (s.completeWith o r).timer = s.timer := by
  unfold State.completeWith; split <;> simp

@[simp] theorem State.completeWith_pending (s : State) (o : Result) (r : Bool) :
    (s.completeWith o r).pending = s.pending := by
  unfold State.completeWith; split <;> simp

/-! ## complete -/

@[simp] theorem State.complete_resetN (s : State) (o : Result) :
    (s.complete o).resetN = s.resetN := by
  simp [State.complete]

@[simp] theorem State.complete_bridge (s : State) (o : Result) :
    (s.complete o).bridge = s.bridge := by
  simp [State.complete]

@[simp] theorem State.complete_asm (s : State) (o : Result) :
    (s.complete o).asm = s.asm := by
  simp [State.complete]

@[simp] theorem State.complete_slots (s : State) (o : Result) :
    (s.complete o).slots = s.slots := by
  simp [State.complete]

@[simp] theorem State.complete_enh (s : State) (o : Result) :
    (s.complete o).enh = s.enh := by
  simp [State.complete]

@[simp] theorem State.complete_comp (s : State) (o : Result) :
    (s.complete o).comp = s.comp := by
  simp [State.complete]

@[simp] theorem State.complete_view (s : State) (o : Result) :
    (s.complete o).view = s.view := by
  simp [State.complete]

@[simp] theorem State.complete_store (s : State) (o : Result) :
    (s.complete o).store = s.store := by
  simp [State.complete]

@[simp] theorem State.complete_timer (s : State) (o : Result) :
    (s.complete o).timer = s.timer := by
  simp [State.complete]

@[simp] theorem State.complete_pending (s : State) (o : Result) :
    (s.complete o).pending = s.pending := by
  simp [State.complete]

/-! ## deliver -/

@[simp] theorem State.deliver_resetN (s : State) :
    (s.deliver).resetN = s.resetN := by
  unfold State.deliver; split <;> simp

@[simp] theorem State.deliver_bridge (s : State) :
    (s.deliver).bridge = s.bridge := by
  unfold State.deliver; split <;> simp

@[simp] theorem State.deliver_asm (s : State) :
    (s.deliver).asm = s.asm := by
  unfold State.deliver; split <;> simp

@[simp] theorem State.deliver_slots (s : State) :
    (s.deliver).slots = s.slots := by
  unfold State.deliver; split <;> simp

@[simp] theorem State.deliver_enh (s : State) :
    (s.deliver).enh = s.enh := by
  unfold State.deliver; split <;> simp

@[simp] theorem State.deliver_comp (s : State) :
    (s.deliver).comp = s.comp := by
  unfold State.deliver; split <;> simp

@[simp] theorem State.deliver_view (s : State) :
    (s.deliver).view = s.view := by
  unfold State.deliver; split <;> simp

@[simp] theorem State.deliver_store (s : State) :
    (s.deliver).store = s.store := by
  unfold State.deliver; split <;> simp

@[simp] theorem State.deliver_timer (s : State) :
    (s.deliver).timer = s.timer := by
  unfold State.deliver; split <;> simp

@[simp] theorem State.deliver_pending (s : State) :
    (s.deliver).pending = s.pending := by
  unfold State.deliver; split <;> simp

/-! ## post -/

@[simp] theorem State.post_resetN (s : State) (n : Notice) :
    (s.post n).resetN = s.resetN := by
  simp [State.post]

@[simp] theorem State.post_bridge (s : State) (n : Notice) :
    (s.post n).bridge = s.bridge := by
  simp [State.post]

@[simp] theorem State.post_asm (s : State) (n : Notice) :
    (s.post n).asm = s.asm := by
  simp [State.post]

@[simp] theorem State.post_slots (s : State) (n : Notice) :
    (s.post n).slots = s.slots := by
  simp [State.post]

@[simp] theorem State.post_enh (s : State) (n : Notice) :
    (s.post n).enh = s.enh := by
  simp [State.post]

@[simp] theorem State.post_comp (s : State) (n : Notice) :
    (s.post n).comp = s.comp := by
  simp [State.post]

@[simp] theorem State.post_view (s : State) (n : Notice) :
    (s.post n).view = s.view := by
  simp [State.post]

@[simp] theorem State.post_store (s : State) (n : Notice) :
    (s.post n).store = s.store := by
  simp [State.post]

@[simp] theorem State.post_timer (s : State) (n : Notice) :
    (s.post n).timer = s.timer := by
  simp [State.post]

@[simp] theorem State.post_pending (s : State) (n : Notice) :
    (s.post n).pending = s.pending := by
  simp [State.post]

/-! ## setRec -/

@[simp] theorem State.setRec_resetN (s : State) (i : Fin 3) (r : SlotRec) :
    (s.setRec i r).resetN = s.resetN := rfl

@[simp] theorem State.setRec_bridge (s : State) (i : Fin 3) (r : SlotRec) :
    (s.setRec i r).bridge = s.bridge := rfl

@[simp] theorem State.setRec_port (s : State) (i : Fin 3) (r : SlotRec) :
    (s.setRec i r).port = s.port := rfl

@[simp] theorem State.setRec_asm (s : State) (i : Fin 3) (r : SlotRec) :
    (s.setRec i r).asm = s.asm := rfl

@[simp] theorem State.setRec_enh (s : State) (i : Fin 3) (r : SlotRec) :
    (s.setRec i r).enh = s.enh := rfl

@[simp] theorem State.setRec_comp (s : State) (i : Fin 3) (r : SlotRec) :
    (s.setRec i r).comp = s.comp := rfl

@[simp] theorem State.setRec_view (s : State) (i : Fin 3) (r : SlotRec) :
    (s.setRec i r).view = s.view := rfl

@[simp] theorem State.setRec_store (s : State) (i : Fin 3) (r : SlotRec) :
    (s.setRec i r).store = s.store := rfl

@[simp] theorem State.setRec_timer (s : State) (i : Fin 3) (r : SlotRec) :
    (s.setRec i r).timer = s.timer := rfl

@[simp] theorem State.setRec_cu (s : State) (i : Fin 3) (r : SlotRec) :
    (s.setRec i r).cu = s.cu := rfl

@[simp] theorem State.setRec_pending (s : State) (i : Fin 3) (r : SlotRec) :
    (s.setRec i r).pending = s.pending := rfl

/-! ## takeHold -/

@[simp] theorem State.takeHold_resetN (s : State) (i : Fin 3) :
    (s.takeHold i).resetN = s.resetN := rfl

@[simp] theorem State.takeHold_bridge (s : State) (i : Fin 3) :
    (s.takeHold i).bridge = s.bridge := rfl

@[simp] theorem State.takeHold_port (s : State) (i : Fin 3) :
    (s.takeHold i).port = s.port := rfl

@[simp] theorem State.takeHold_asm (s : State) (i : Fin 3) :
    (s.takeHold i).asm = s.asm := rfl

@[simp] theorem State.takeHold_enh (s : State) (i : Fin 3) :
    (s.takeHold i).enh = s.enh := rfl

@[simp] theorem State.takeHold_comp (s : State) (i : Fin 3) :
    (s.takeHold i).comp = s.comp := rfl

@[simp] theorem State.takeHold_view (s : State) (i : Fin 3) :
    (s.takeHold i).view = s.view := rfl

@[simp] theorem State.takeHold_store (s : State) (i : Fin 3) :
    (s.takeHold i).store = s.store := rfl

@[simp] theorem State.takeHold_timer (s : State) (i : Fin 3) :
    (s.takeHold i).timer = s.timer := rfl

@[simp] theorem State.takeHold_cu (s : State) (i : Fin 3) :
    (s.takeHold i).cu = s.cu := rfl

@[simp] theorem State.takeHold_pending (s : State) (i : Fin 3) :
    (s.takeHold i).pending = s.pending := rfl

/-! ## releaseHold -/

@[simp] theorem State.releaseHold_resetN (s : State) (i : Fin 3) :
    (s.releaseHold i).resetN = s.resetN := by
  simp only [State.releaseHold]; split <;> rfl

@[simp] theorem State.releaseHold_bridge (s : State) (i : Fin 3) :
    (s.releaseHold i).bridge = s.bridge := by
  simp only [State.releaseHold]; split <;> rfl

@[simp] theorem State.releaseHold_port (s : State) (i : Fin 3) :
    (s.releaseHold i).port = s.port := by
  simp only [State.releaseHold]; split <;> rfl

@[simp] theorem State.releaseHold_asm (s : State) (i : Fin 3) :
    (s.releaseHold i).asm = s.asm := by
  simp only [State.releaseHold]; split <;> rfl

@[simp] theorem State.releaseHold_enh (s : State) (i : Fin 3) :
    (s.releaseHold i).enh = s.enh := by
  simp only [State.releaseHold]; split <;> rfl

@[simp] theorem State.releaseHold_comp (s : State) (i : Fin 3) :
    (s.releaseHold i).comp = s.comp := by
  simp only [State.releaseHold]; split <;> rfl

@[simp] theorem State.releaseHold_view (s : State) (i : Fin 3) :
    (s.releaseHold i).view = s.view := by
  simp only [State.releaseHold]; split <;> rfl

@[simp] theorem State.releaseHold_store (s : State) (i : Fin 3) :
    (s.releaseHold i).store = s.store := by
  simp only [State.releaseHold]; split <;> rfl

@[simp] theorem State.releaseHold_timer (s : State) (i : Fin 3) :
    (s.releaseHold i).timer = s.timer := by
  simp only [State.releaseHold]; split <;> rfl

@[simp] theorem State.releaseHold_cu (s : State) (i : Fin 3) :
    (s.releaseHold i).cu = s.cu := by
  simp only [State.releaseHold]; split <;> rfl

@[simp] theorem State.releaseHold_pending (s : State) (i : Fin 3) :
    (s.releaseHold i).pending = s.pending := by
  simp only [State.releaseHold]; split <;> rfl

/-! ## releaseOpt -/

@[simp] theorem State.releaseOpt_resetN (s : State) (i : Option (Fin 3)) :
    (s.releaseOpt i).resetN = s.resetN := by
  unfold State.releaseOpt; split <;> simp

@[simp] theorem State.releaseOpt_bridge (s : State) (i : Option (Fin 3)) :
    (s.releaseOpt i).bridge = s.bridge := by
  unfold State.releaseOpt; split <;> simp

@[simp] theorem State.releaseOpt_port (s : State) (i : Option (Fin 3)) :
    (s.releaseOpt i).port = s.port := by
  unfold State.releaseOpt; split <;> simp

@[simp] theorem State.releaseOpt_asm (s : State) (i : Option (Fin 3)) :
    (s.releaseOpt i).asm = s.asm := by
  unfold State.releaseOpt; split <;> simp

@[simp] theorem State.releaseOpt_enh (s : State) (i : Option (Fin 3)) :
    (s.releaseOpt i).enh = s.enh := by
  unfold State.releaseOpt; split <;> simp

@[simp] theorem State.releaseOpt_comp (s : State) (i : Option (Fin 3)) :
    (s.releaseOpt i).comp = s.comp := by
  unfold State.releaseOpt; split <;> simp

@[simp] theorem State.releaseOpt_view (s : State) (i : Option (Fin 3)) :
    (s.releaseOpt i).view = s.view := by
  unfold State.releaseOpt; split <;> simp

@[simp] theorem State.releaseOpt_store (s : State) (i : Option (Fin 3)) :
    (s.releaseOpt i).store = s.store := by
  unfold State.releaseOpt; split <;> simp

@[simp] theorem State.releaseOpt_timer (s : State) (i : Option (Fin 3)) :
    (s.releaseOpt i).timer = s.timer := by
  unfold State.releaseOpt; split <;> simp

@[simp] theorem State.releaseOpt_cu (s : State) (i : Option (Fin 3)) :
    (s.releaseOpt i).cu = s.cu := by
  unfold State.releaseOpt; split <;> simp

@[simp] theorem State.releaseOpt_pending (s : State) (i : Option (Fin 3)) :
    (s.releaseOpt i).pending = s.pending := by
  unfold State.releaseOpt; split <;> simp

/-! ## setTxn -/

@[simp] theorem State.setTxn_resetN (s : State) (t : Option Txn) :
    (s.setTxn t).resetN = s.resetN := rfl

@[simp] theorem State.setTxn_port (s : State) (t : Option Txn) :
    (s.setTxn t).port = s.port := rfl

@[simp] theorem State.setTxn_asm (s : State) (t : Option Txn) :
    (s.setTxn t).asm = s.asm := rfl

@[simp] theorem State.setTxn_slots (s : State) (t : Option Txn) :
    (s.setTxn t).slots = s.slots := rfl

@[simp] theorem State.setTxn_enh (s : State) (t : Option Txn) :
    (s.setTxn t).enh = s.enh := rfl

@[simp] theorem State.setTxn_comp (s : State) (t : Option Txn) :
    (s.setTxn t).comp = s.comp := rfl

@[simp] theorem State.setTxn_view (s : State) (t : Option Txn) :
    (s.setTxn t).view = s.view := rfl

@[simp] theorem State.setTxn_store (s : State) (t : Option Txn) :
    (s.setTxn t).store = s.store := rfl

@[simp] theorem State.setTxn_timer (s : State) (t : Option Txn) :
    (s.setTxn t).timer = s.timer := rfl

@[simp] theorem State.setTxn_cu (s : State) (t : Option Txn) :
    (s.setTxn t).cu = s.cu := rfl

@[simp] theorem State.setTxn_pending (s : State) (t : Option Txn) :
    (s.setTxn t).pending = s.pending := rfl

/-! ## countDiscard -/

@[simp] theorem State.countDiscard_resetN (s : State) :
    (s.countDiscard).resetN = s.resetN := rfl

@[simp] theorem State.countDiscard_port (s : State) :
    (s.countDiscard).port = s.port := rfl

@[simp] theorem State.countDiscard_asm (s : State) :
    (s.countDiscard).asm = s.asm := rfl

@[simp] theorem State.countDiscard_slots (s : State) :
    (s.countDiscard).slots = s.slots := rfl

@[simp] theorem State.countDiscard_enh (s : State) :
    (s.countDiscard).enh = s.enh := rfl

@[simp] theorem State.countDiscard_comp (s : State) :
    (s.countDiscard).comp = s.comp := rfl

@[simp] theorem State.countDiscard_view (s : State) :
    (s.countDiscard).view = s.view := rfl

@[simp] theorem State.countDiscard_store (s : State) :
    (s.countDiscard).store = s.store := rfl

@[simp] theorem State.countDiscard_timer (s : State) :
    (s.countDiscard).timer = s.timer := rfl

@[simp] theorem State.countDiscard_cu (s : State) :
    (s.countDiscard).cu = s.cu := rfl

@[simp] theorem State.countDiscard_pending (s : State) :
    (s.countDiscard).pending = s.pending := rfl

/-! ## answerTxn -/

@[simp] theorem State.answerTxn_resetN (s : State) (t : Txn) :
    (s.answerTxn t).resetN = s.resetN := rfl

@[simp] theorem State.answerTxn_port (s : State) (t : Txn) :
    (s.answerTxn t).port = s.port := rfl

@[simp] theorem State.answerTxn_asm (s : State) (t : Txn) :
    (s.answerTxn t).asm = s.asm := rfl

@[simp] theorem State.answerTxn_slots (s : State) (t : Txn) :
    (s.answerTxn t).slots = s.slots := rfl

@[simp] theorem State.answerTxn_enh (s : State) (t : Txn) :
    (s.answerTxn t).enh = s.enh := rfl

@[simp] theorem State.answerTxn_comp (s : State) (t : Txn) :
    (s.answerTxn t).comp = s.comp := rfl

@[simp] theorem State.answerTxn_view (s : State) (t : Txn) :
    (s.answerTxn t).view = s.view := rfl

@[simp] theorem State.answerTxn_store (s : State) (t : Txn) :
    (s.answerTxn t).store = s.store := rfl

@[simp] theorem State.answerTxn_timer (s : State) (t : Txn) :
    (s.answerTxn t).timer = s.timer := rfl

@[simp] theorem State.answerTxn_cu (s : State) (t : Txn) :
    (s.answerTxn t).cu = s.cu := rfl

@[simp] theorem State.answerTxn_pending (s : State) (t : Txn) :
    (s.answerTxn t).pending = s.pending := rfl

/-! ## passPiece -/

@[simp] theorem State.passPiece_resetN (s : State) (t : Txn) (p : Piece) (a : Nat) (f : Bool) :
    (s.passPiece t p a f).resetN = s.resetN := rfl

@[simp] theorem State.passPiece_asm (s : State) (t : Txn) (p : Piece) (a : Nat) (f : Bool) :
    (s.passPiece t p a f).asm = s.asm := rfl

@[simp] theorem State.passPiece_slots (s : State) (t : Txn) (p : Piece) (a : Nat) (f : Bool) :
    (s.passPiece t p a f).slots = s.slots := rfl

@[simp] theorem State.passPiece_enh (s : State) (t : Txn) (p : Piece) (a : Nat) (f : Bool) :
    (s.passPiece t p a f).enh = s.enh := rfl

@[simp] theorem State.passPiece_comp (s : State) (t : Txn) (p : Piece) (a : Nat) (f : Bool) :
    (s.passPiece t p a f).comp = s.comp := rfl

@[simp] theorem State.passPiece_view (s : State) (t : Txn) (p : Piece) (a : Nat) (f : Bool) :
    (s.passPiece t p a f).view = s.view := rfl

@[simp] theorem State.passPiece_store (s : State) (t : Txn) (p : Piece) (a : Nat) (f : Bool) :
    (s.passPiece t p a f).store = s.store := rfl

@[simp] theorem State.passPiece_timer (s : State) (t : Txn) (p : Piece) (a : Nat) (f : Bool) :
    (s.passPiece t p a f).timer = s.timer := rfl

@[simp] theorem State.passPiece_cu (s : State) (t : Txn) (p : Piece) (a : Nat) (f : Bool) :
    (s.passPiece t p a f).cu = s.cu := rfl

@[simp] theorem State.passPiece_pending (s : State) (t : Txn) (p : Piece) (a : Nat) (f : Bool) :
    (s.passPiece t p a f).pending = s.pending := rfl

/-! ## setCurrent -/

@[simp] theorem State.setCurrent_resetN (s : State) (c : ViewContext) :
    (s.setCurrent c).resetN = s.resetN := rfl

@[simp] theorem State.setCurrent_bridge (s : State) (c : ViewContext) :
    (s.setCurrent c).bridge = s.bridge := rfl

@[simp] theorem State.setCurrent_port (s : State) (c : ViewContext) :
    (s.setCurrent c).port = s.port := rfl

@[simp] theorem State.setCurrent_asm (s : State) (c : ViewContext) :
    (s.setCurrent c).asm = s.asm := rfl

@[simp] theorem State.setCurrent_slots (s : State) (c : ViewContext) :
    (s.setCurrent c).slots = s.slots := rfl

@[simp] theorem State.setCurrent_enh (s : State) (c : ViewContext) :
    (s.setCurrent c).enh = s.enh := rfl

@[simp] theorem State.setCurrent_comp (s : State) (c : ViewContext) :
    (s.setCurrent c).comp = s.comp := rfl

@[simp] theorem State.setCurrent_store (s : State) (c : ViewContext) :
    (s.setCurrent c).store = s.store := rfl

@[simp] theorem State.setCurrent_timer (s : State) (c : ViewContext) :
    (s.setCurrent c).timer = s.timer := rfl

@[simp] theorem State.setCurrent_cu (s : State) (c : ViewContext) :
    (s.setCurrent c).cu = s.cu := rfl

@[simp] theorem State.setCurrent_pending (s : State) (c : ViewContext) :
    (s.setCurrent c).pending = s.pending := rfl

/-! ## idleTrav -/

@[simp] theorem State.idleTrav_resetN (s : State) :
    (s.idleTrav).resetN = s.resetN := rfl

@[simp] theorem State.idleTrav_bridge (s : State) :
    (s.idleTrav).bridge = s.bridge := rfl

@[simp] theorem State.idleTrav_port (s : State) :
    (s.idleTrav).port = s.port := rfl

@[simp] theorem State.idleTrav_asm (s : State) :
    (s.idleTrav).asm = s.asm := rfl

@[simp] theorem State.idleTrav_slots (s : State) :
    (s.idleTrav).slots = s.slots := rfl

@[simp] theorem State.idleTrav_enh (s : State) :
    (s.idleTrav).enh = s.enh := rfl

@[simp] theorem State.idleTrav_comp (s : State) :
    (s.idleTrav).comp = s.comp := rfl

@[simp] theorem State.idleTrav_view (s : State) :
    (s.idleTrav).view = s.view := rfl

@[simp] theorem State.idleTrav_timer (s : State) :
    (s.idleTrav).timer = s.timer := rfl

@[simp] theorem State.idleTrav_cu (s : State) :
    (s.idleTrav).cu = s.cu := rfl

@[simp] theorem State.idleTrav_pending (s : State) :
    (s.idleTrav).pending = s.pending := rfl

/-! ## useTrav -/

@[simp] theorem State.useTrav_resetN (s : State) (o : TravOp) :
    (s.useTrav o).resetN = s.resetN := rfl

@[simp] theorem State.useTrav_bridge (s : State) (o : TravOp) :
    (s.useTrav o).bridge = s.bridge := rfl

@[simp] theorem State.useTrav_port (s : State) (o : TravOp) :
    (s.useTrav o).port = s.port := rfl

@[simp] theorem State.useTrav_asm (s : State) (o : TravOp) :
    (s.useTrav o).asm = s.asm := rfl

@[simp] theorem State.useTrav_slots (s : State) (o : TravOp) :
    (s.useTrav o).slots = s.slots := rfl

@[simp] theorem State.useTrav_enh (s : State) (o : TravOp) :
    (s.useTrav o).enh = s.enh := rfl

@[simp] theorem State.useTrav_comp (s : State) (o : TravOp) :
    (s.useTrav o).comp = s.comp := rfl

@[simp] theorem State.useTrav_view (s : State) (o : TravOp) :
    (s.useTrav o).view = s.view := rfl

@[simp] theorem State.useTrav_timer (s : State) (o : TravOp) :
    (s.useTrav o).timer = s.timer := rfl

@[simp] theorem State.useTrav_cu (s : State) (o : TravOp) :
    (s.useTrav o).cu = s.cu := rfl

@[simp] theorem State.useTrav_pending (s : State) (o : TravOp) :
    (s.useTrav o).pending = s.pending := rfl

/-! ## zoomStep -/

@[simp] theorem State.zoomStep_resetN (s : State) (n : Nat) :
    (s.zoomStep n).resetN = s.resetN := rfl

@[simp] theorem State.zoomStep_bridge (s : State) (n : Nat) :
    (s.zoomStep n).bridge = s.bridge := rfl

@[simp] theorem State.zoomStep_port (s : State) (n : Nat) :
    (s.zoomStep n).port = s.port := rfl

@[simp] theorem State.zoomStep_asm (s : State) (n : Nat) :
    (s.zoomStep n).asm = s.asm := rfl

@[simp] theorem State.zoomStep_slots (s : State) (n : Nat) :
    (s.zoomStep n).slots = s.slots := rfl

@[simp] theorem State.zoomStep_enh (s : State) (n : Nat) :
    (s.zoomStep n).enh = s.enh := rfl

@[simp] theorem State.zoomStep_comp (s : State) (n : Nat) :
    (s.zoomStep n).comp = s.comp := rfl

@[simp] theorem State.zoomStep_store (s : State) (n : Nat) :
    (s.zoomStep n).store = s.store := rfl

@[simp] theorem State.zoomStep_timer (s : State) (n : Nat) :
    (s.zoomStep n).timer = s.timer := rfl

@[simp] theorem State.zoomStep_cu (s : State) (n : Nat) :
    (s.zoomStep n).cu = s.cu := rfl

@[simp] theorem State.zoomStep_pending (s : State) (n : Nat) :
    (s.zoomStep n).pending = s.pending := rfl

/-! ## advanceSource -/

@[simp] theorem State.advanceSource_resetN (s : State) (g : PagePart) :
    (s.advanceSource g).resetN = s.resetN := by
  simp [State.advanceSource]

@[simp] theorem State.advanceSource_bridge (s : State) (g : PagePart) :
    (s.advanceSource g).bridge = s.bridge := by
  simp [State.advanceSource]

@[simp] theorem State.advanceSource_port (s : State) (g : PagePart) :
    (s.advanceSource g).port = s.port := by
  simp [State.advanceSource]

@[simp] theorem State.advanceSource_asm (s : State) (g : PagePart) :
    (s.advanceSource g).asm = s.asm := by
  simp [State.advanceSource]

@[simp] theorem State.advanceSource_enh (s : State) (g : PagePart) :
    (s.advanceSource g).enh = s.enh := by
  simp [State.advanceSource]

@[simp] theorem State.advanceSource_comp (s : State) (g : PagePart) :
    (s.advanceSource g).comp = s.comp := by
  simp [State.advanceSource]

@[simp] theorem State.advanceSource_store (s : State) (g : PagePart) :
    (s.advanceSource g).store = s.store := by
  simp [State.advanceSource]

@[simp] theorem State.advanceSource_timer (s : State) (g : PagePart) :
    (s.advanceSource g).timer = s.timer := by
  simp [State.advanceSource]

@[simp] theorem State.advanceSource_cu (s : State) (g : PagePart) :
    (s.advanceSource g).cu = s.cu := by
  simp [State.advanceSource]

@[simp] theorem State.advanceSource_pending (s : State) (g : PagePart) :
    (s.advanceSource g).pending = s.pending := by
  simp [State.advanceSource]

/-! ## giveUpCurrent -/

@[simp] theorem State.giveUpCurrent_resetN (s : State) (push : Bool) :
    (s.giveUpCurrent push).resetN = s.resetN := by
  unfold State.giveUpCurrent; split <;> simp

@[simp] theorem State.giveUpCurrent_bridge (s : State) (push : Bool) :
    (s.giveUpCurrent push).bridge = s.bridge := by
  unfold State.giveUpCurrent; split <;> simp

@[simp] theorem State.giveUpCurrent_port (s : State) (push : Bool) :
    (s.giveUpCurrent push).port = s.port := by
  unfold State.giveUpCurrent; split <;> simp

@[simp] theorem State.giveUpCurrent_asm (s : State) (push : Bool) :
    (s.giveUpCurrent push).asm = s.asm := by
  unfold State.giveUpCurrent; split <;> simp

@[simp] theorem State.giveUpCurrent_enh (s : State) (push : Bool) :
    (s.giveUpCurrent push).enh = s.enh := by
  unfold State.giveUpCurrent; split <;> simp

@[simp] theorem State.giveUpCurrent_comp (s : State) (push : Bool) :
    (s.giveUpCurrent push).comp = s.comp := by
  unfold State.giveUpCurrent; split <;> simp

@[simp] theorem State.giveUpCurrent_store (s : State) (push : Bool) :
    (s.giveUpCurrent push).store = s.store := by
  unfold State.giveUpCurrent; split <;> simp

@[simp] theorem State.giveUpCurrent_timer (s : State) (push : Bool) :
    (s.giveUpCurrent push).timer = s.timer := by
  unfold State.giveUpCurrent; split <;> simp

@[simp] theorem State.giveUpCurrent_cu (s : State) (push : Bool) :
    (s.giveUpCurrent push).cu = s.cu := by
  unfold State.giveUpCurrent; split <;> simp

@[simp] theorem State.giveUpCurrent_pending (s : State) (push : Bool) :
    (s.giveUpCurrent push).pending = s.pending := by
  unfold State.giveUpCurrent; split <;> simp

/-! ## setPosition -/

@[simp] theorem State.setPosition_resetN (s : State) (p : Option Nat) :
    (s.setPosition p).resetN = s.resetN := rfl

@[simp] theorem State.setPosition_bridge (s : State) (p : Option Nat) :
    (s.setPosition p).bridge = s.bridge := rfl

@[simp] theorem State.setPosition_port (s : State) (p : Option Nat) :
    (s.setPosition p).port = s.port := rfl

@[simp] theorem State.setPosition_asm (s : State) (p : Option Nat) :
    (s.setPosition p).asm = s.asm := rfl

@[simp] theorem State.setPosition_slots (s : State) (p : Option Nat) :
    (s.setPosition p).slots = s.slots := rfl

@[simp] theorem State.setPosition_enh (s : State) (p : Option Nat) :
    (s.setPosition p).enh = s.enh := rfl

@[simp] theorem State.setPosition_comp (s : State) (p : Option Nat) :
    (s.setPosition p).comp = s.comp := rfl

@[simp] theorem State.setPosition_view (s : State) (p : Option Nat) :
    (s.setPosition p).view = s.view := rfl

@[simp] theorem State.setPosition_timer (s : State) (p : Option Nat) :
    (s.setPosition p).timer = s.timer := rfl

@[simp] theorem State.setPosition_cu (s : State) (p : Option Nat) :
    (s.setPosition p).cu = s.cu := rfl

@[simp] theorem State.setPosition_pending (s : State) (p : Option Nat) :
    (s.setPosition p).pending = s.pending := rfl

/-! ## overrun -/

@[simp] theorem State.overrun_resetN (s : State) :
    (s.overrun).resetN = s.resetN := rfl

@[simp] theorem State.overrun_bridge (s : State) :
    (s.overrun).bridge = s.bridge := rfl

@[simp] theorem State.overrun_port (s : State) :
    (s.overrun).port = s.port := rfl

@[simp] theorem State.overrun_asm (s : State) :
    (s.overrun).asm = s.asm := rfl

@[simp] theorem State.overrun_slots (s : State) :
    (s.overrun).slots = s.slots := rfl

@[simp] theorem State.overrun_enh (s : State) :
    (s.overrun).enh = s.enh := rfl

@[simp] theorem State.overrun_comp (s : State) :
    (s.overrun).comp = s.comp := rfl

@[simp] theorem State.overrun_view (s : State) :
    (s.overrun).view = s.view := rfl

@[simp] theorem State.overrun_store (s : State) :
    (s.overrun).store = s.store := rfl

@[simp] theorem State.overrun_cu (s : State) :
    (s.overrun).cu = s.cu := rfl

@[simp] theorem State.overrun_pending (s : State) :
    (s.overrun).pending = s.pending := rfl

/-! ## startScan -/

@[simp] theorem State.startScan_resetN (s : State) (c : RegionChange) :
    (s.startScan c).resetN = s.resetN := rfl

@[simp] theorem State.startScan_bridge (s : State) (c : RegionChange) :
    (s.startScan c).bridge = s.bridge := rfl

@[simp] theorem State.startScan_asm (s : State) (c : RegionChange) :
    (s.startScan c).asm = s.asm := rfl

@[simp] theorem State.startScan_slots (s : State) (c : RegionChange) :
    (s.startScan c).slots = s.slots := rfl

@[simp] theorem State.startScan_enh (s : State) (c : RegionChange) :
    (s.startScan c).enh = s.enh := rfl

@[simp] theorem State.startScan_comp (s : State) (c : RegionChange) :
    (s.startScan c).comp = s.comp := rfl

@[simp] theorem State.startScan_view (s : State) (c : RegionChange) :
    (s.startScan c).view = s.view := rfl

@[simp] theorem State.startScan_timer (s : State) (c : RegionChange) :
    (s.startScan c).timer = s.timer := rfl

@[simp] theorem State.startScan_cu (s : State) (c : RegionChange) :
    (s.startScan c).cu = s.cu := rfl

@[simp] theorem State.startScan_pending (s : State) (c : RegionChange) :
    (s.startScan c).pending = s.pending := rfl

/-! ## useCopy -/

@[simp] theorem State.useCopy_resetN (s : State) (c : CopyOp) :
    (s.useCopy c).resetN = s.resetN := rfl

@[simp] theorem State.useCopy_bridge (s : State) (c : CopyOp) :
    (s.useCopy c).bridge = s.bridge := rfl

@[simp] theorem State.useCopy_port (s : State) (c : CopyOp) :
    (s.useCopy c).port = s.port := rfl

@[simp] theorem State.useCopy_asm (s : State) (c : CopyOp) :
    (s.useCopy c).asm = s.asm := rfl

@[simp] theorem State.useCopy_slots (s : State) (c : CopyOp) :
    (s.useCopy c).slots = s.slots := rfl

@[simp] theorem State.useCopy_enh (s : State) (c : CopyOp) :
    (s.useCopy c).enh = s.enh := rfl

@[simp] theorem State.useCopy_comp (s : State) (c : CopyOp) :
    (s.useCopy c).comp = s.comp := rfl

@[simp] theorem State.useCopy_view (s : State) (c : CopyOp) :
    (s.useCopy c).view = s.view := rfl

@[simp] theorem State.useCopy_timer (s : State) (c : CopyOp) :
    (s.useCopy c).timer = s.timer := rfl

@[simp] theorem State.useCopy_cu (s : State) (c : CopyOp) :
    (s.useCopy c).cu = s.cu := rfl

@[simp] theorem State.useCopy_pending (s : State) (c : CopyOp) :
    (s.useCopy c).pending = s.pending := rfl

/-! ## copyFrom -/

@[simp] theorem State.copyFrom_resetN (s : State) (c : CopyOp) (n : Nat) :
    (s.copyFrom c n).resetN = s.resetN := by
  simp only [State.copyFrom]; repeat' (first | rfl | split)

@[simp] theorem State.copyFrom_bridge (s : State) (c : CopyOp) (n : Nat) :
    (s.copyFrom c n).bridge = s.bridge := by
  simp only [State.copyFrom]; repeat' (first | rfl | split)

@[simp] theorem State.copyFrom_asm (s : State) (c : CopyOp) (n : Nat) :
    (s.copyFrom c n).asm = s.asm := by
  simp only [State.copyFrom]; repeat' (first | rfl | split)

@[simp] theorem State.copyFrom_slots (s : State) (c : CopyOp) (n : Nat) :
    (s.copyFrom c n).slots = s.slots := by
  simp only [State.copyFrom]; repeat' (first | rfl | split)

@[simp] theorem State.copyFrom_enh (s : State) (c : CopyOp) (n : Nat) :
    (s.copyFrom c n).enh = s.enh := by
  simp only [State.copyFrom]; repeat' (first | rfl | split)

@[simp] theorem State.copyFrom_comp (s : State) (c : CopyOp) (n : Nat) :
    (s.copyFrom c n).comp = s.comp := by
  simp only [State.copyFrom]; repeat' (first | rfl | split)

@[simp] theorem State.copyFrom_view (s : State) (c : CopyOp) (n : Nat) :
    (s.copyFrom c n).view = s.view := by
  simp only [State.copyFrom]; repeat' (first | rfl | split)

@[simp] theorem State.copyFrom_timer (s : State) (c : CopyOp) (n : Nat) :
    (s.copyFrom c n).timer = s.timer := by
  simp only [State.copyFrom]; repeat' (first | rfl | split)

@[simp] theorem State.copyFrom_cu (s : State) (c : CopyOp) (n : Nat) :
    (s.copyFrom c n).cu = s.cu := by
  simp only [State.copyFrom]; repeat' (first | rfl | split)

@[simp] theorem State.copyFrom_pending (s : State) (c : CopyOp) (n : Nat) :
    (s.copyFrom c n).pending = s.pending := by
  simp only [State.copyFrom]; repeat' (first | rfl | split)

/-! ## endCopy -/

@[simp] theorem State.endCopy_resetN (s : State) (c : CopyOp) :
    (s.endCopy c).resetN = s.resetN := by
  simp [State.endCopy]

@[simp] theorem State.endCopy_bridge (s : State) (c : CopyOp) :
    (s.endCopy c).bridge = s.bridge := by
  simp [State.endCopy]

@[simp] theorem State.endCopy_port (s : State) (c : CopyOp) :
    (s.endCopy c).port = s.port := by
  simp [State.endCopy]

@[simp] theorem State.endCopy_asm (s : State) (c : CopyOp) :
    (s.endCopy c).asm = s.asm := by
  simp [State.endCopy]

@[simp] theorem State.endCopy_enh (s : State) (c : CopyOp) :
    (s.endCopy c).enh = s.enh := by
  simp [State.endCopy]

@[simp] theorem State.endCopy_comp (s : State) (c : CopyOp) :
    (s.endCopy c).comp = s.comp := by
  simp [State.endCopy]

@[simp] theorem State.endCopy_view (s : State) (c : CopyOp) :
    (s.endCopy c).view = s.view := by
  simp [State.endCopy]

@[simp] theorem State.endCopy_timer (s : State) (c : CopyOp) :
    (s.endCopy c).timer = s.timer := by
  simp [State.endCopy]

@[simp] theorem State.endCopy_cu (s : State) (c : CopyOp) :
    (s.endCopy c).cu = s.cu := by
  simp [State.endCopy]

@[simp] theorem State.endCopy_pending (s : State) (c : CopyOp) :
    (s.endCopy c).pending = s.pending := by
  simp [State.endCopy]

/-! ## moveStop -/

@[simp] theorem State.moveStop_resetN (s : State) (c : TermClass) (r : Reason) (l n : Nat) :
    (s.moveStop c r l n).resetN = s.resetN := by
  simp [State.moveStop]

@[simp] theorem State.moveStop_bridge (s : State) (c : TermClass) (r : Reason) (l n : Nat) :
    (s.moveStop c r l n).bridge = s.bridge := by
  simp [State.moveStop]

@[simp] theorem State.moveStop_asm (s : State) (c : TermClass) (r : Reason) (l n : Nat) :
    (s.moveStop c r l n).asm = s.asm := by
  simp [State.moveStop]

@[simp] theorem State.moveStop_slots (s : State) (c : TermClass) (r : Reason) (l n : Nat) :
    (s.moveStop c r l n).slots = s.slots := by
  simp [State.moveStop]

@[simp] theorem State.moveStop_enh (s : State) (c : TermClass) (r : Reason) (l n : Nat) :
    (s.moveStop c r l n).enh = s.enh := by
  simp [State.moveStop]

@[simp] theorem State.moveStop_comp (s : State) (c : TermClass) (r : Reason) (l n : Nat) :
    (s.moveStop c r l n).comp = s.comp := by
  simp [State.moveStop]

@[simp] theorem State.moveStop_view (s : State) (c : TermClass) (r : Reason) (l n : Nat) :
    (s.moveStop c r l n).view = s.view := by
  simp [State.moveStop]

@[simp] theorem State.moveStop_timer (s : State) (c : TermClass) (r : Reason) (l n : Nat) :
    (s.moveStop c r l n).timer = s.timer := by
  simp [State.moveStop]

@[simp] theorem State.moveStop_pending (s : State) (c : TermClass) (r : Reason) (l n : Nat) :
    (s.moveStop c r l n).pending = s.pending := by
  simp [State.moveStop]

/-! ## moveLost -/

@[simp] theorem State.moveLost_resetN (s : State) (l n : Nat) :
    (s.moveLost l n).resetN = s.resetN := by
  simp [State.moveLost]

@[simp] theorem State.moveLost_bridge (s : State) (l n : Nat) :
    (s.moveLost l n).bridge = s.bridge := by
  simp [State.moveLost]

@[simp] theorem State.moveLost_asm (s : State) (l n : Nat) :
    (s.moveLost l n).asm = s.asm := by
  simp [State.moveLost]

@[simp] theorem State.moveLost_slots (s : State) (l n : Nat) :
    (s.moveLost l n).slots = s.slots := by
  simp [State.moveLost]

@[simp] theorem State.moveLost_enh (s : State) (l n : Nat) :
    (s.moveLost l n).enh = s.enh := by
  simp [State.moveLost]

@[simp] theorem State.moveLost_comp (s : State) (l n : Nat) :
    (s.moveLost l n).comp = s.comp := by
  simp [State.moveLost]

@[simp] theorem State.moveLost_view (s : State) (l n : Nat) :
    (s.moveLost l n).view = s.view := by
  simp [State.moveLost]

@[simp] theorem State.moveLost_timer (s : State) (l n : Nat) :
    (s.moveLost l n).timer = s.timer := by
  simp [State.moveLost]

@[simp] theorem State.moveLost_pending (s : State) (l n : Nat) :
    (s.moveLost l n).pending = s.pending := by
  simp [State.moveLost]

/-! ## moveStep -/

@[simp] theorem State.moveStep_resetN (s : State) (m : MoveMode) (l n : Nat) :
    (s.moveStep m l n).resetN = s.resetN := by
  unfold State.moveStep; repeat' (first | simp; done | split)

@[simp] theorem State.moveStep_bridge (s : State) (m : MoveMode) (l n : Nat) :
    (s.moveStep m l n).bridge = s.bridge := by
  unfold State.moveStep; repeat' (first | simp; done | split)

@[simp] theorem State.moveStep_asm (s : State) (m : MoveMode) (l n : Nat) :
    (s.moveStep m l n).asm = s.asm := by
  unfold State.moveStep; repeat' (first | simp; done | split)

@[simp] theorem State.moveStep_slots (s : State) (m : MoveMode) (l n : Nat) :
    (s.moveStep m l n).slots = s.slots := by
  unfold State.moveStep; repeat' (first | simp; done | split)

@[simp] theorem State.moveStep_enh (s : State) (m : MoveMode) (l n : Nat) :
    (s.moveStep m l n).enh = s.enh := by
  unfold State.moveStep; repeat' (first | simp; done | split)

@[simp] theorem State.moveStep_comp (s : State) (m : MoveMode) (l n : Nat) :
    (s.moveStep m l n).comp = s.comp := by
  unfold State.moveStep; repeat' (first | simp; done | split)

@[simp] theorem State.moveStep_view (s : State) (m : MoveMode) (l n : Nat) :
    (s.moveStep m l n).view = s.view := by
  unfold State.moveStep; repeat' (first | simp; done | split)

@[simp] theorem State.moveStep_timer (s : State) (m : MoveMode) (l n : Nat) :
    (s.moveStep m l n).timer = s.timer := by
  unfold State.moveStep; repeat' (first | simp; done | split)

@[simp] theorem State.moveStep_pending (s : State) (m : MoveMode) (l n : Nat) :
    (s.moveStep m l n).pending = s.pending := by
  unfold State.moveStep; repeat' (first | simp; done | split)

/-! ## movePass -/

@[simp] theorem State.movePass_resetN (s : State) (m : MoveMode) (l n dest : Nat) (k : Kind) :
    (s.movePass m l n dest k).resetN = s.resetN := by
  simp only [State.movePass]; repeat' (first | simp; done | split)

@[simp] theorem State.movePass_bridge (s : State) (m : MoveMode) (l n dest : Nat) (k : Kind) :
    (s.movePass m l n dest k).bridge = s.bridge := by
  simp only [State.movePass]; repeat' (first | simp; done | split)

@[simp] theorem State.movePass_asm (s : State) (m : MoveMode) (l n dest : Nat) (k : Kind) :
    (s.movePass m l n dest k).asm = s.asm := by
  simp only [State.movePass]; repeat' (first | simp; done | split)

@[simp] theorem State.movePass_slots (s : State) (m : MoveMode) (l n dest : Nat) (k : Kind) :
    (s.movePass m l n dest k).slots = s.slots := by
  simp only [State.movePass]; repeat' (first | simp; done | split)

@[simp] theorem State.movePass_enh (s : State) (m : MoveMode) (l n dest : Nat) (k : Kind) :
    (s.movePass m l n dest k).enh = s.enh := by
  simp only [State.movePass]; repeat' (first | simp; done | split)

@[simp] theorem State.movePass_comp (s : State) (m : MoveMode) (l n dest : Nat) (k : Kind) :
    (s.movePass m l n dest k).comp = s.comp := by
  simp only [State.movePass]; repeat' (first | simp; done | split)

@[simp] theorem State.movePass_view (s : State) (m : MoveMode) (l n dest : Nat) (k : Kind) :
    (s.movePass m l n dest k).view = s.view := by
  simp only [State.movePass]; repeat' (first | simp; done | split)

@[simp] theorem State.movePass_timer (s : State) (m : MoveMode) (l n dest : Nat) (k : Kind) :
    (s.movePass m l n dest k).timer = s.timer := by
  simp only [State.movePass]; repeat' (first | simp; done | split)

@[simp] theorem State.movePass_pending (s : State) (m : MoveMode) (l n dest : Nat) (k : Kind) :
    (s.movePass m l n dest k).pending = s.pending := by
  simp only [State.movePass]; repeat' (first | simp; done | split)

/-! ## advanceAt -/

@[simp] theorem State.advanceAt_resetN (s : State) (p : Nat) (f : Bool) :
    (s.advanceAt p f).resetN = s.resetN := by
  unfold State.advanceAt; split <;> simp

@[simp] theorem State.advanceAt_bridge (s : State) (p : Nat) (f : Bool) :
    (s.advanceAt p f).bridge = s.bridge := by
  unfold State.advanceAt; split <;> simp

@[simp] theorem State.advanceAt_asm (s : State) (p : Nat) (f : Bool) :
    (s.advanceAt p f).asm = s.asm := by
  unfold State.advanceAt; split <;> simp

@[simp] theorem State.advanceAt_slots (s : State) (p : Nat) (f : Bool) :
    (s.advanceAt p f).slots = s.slots := by
  unfold State.advanceAt; split <;> simp

@[simp] theorem State.advanceAt_enh (s : State) (p : Nat) (f : Bool) :
    (s.advanceAt p f).enh = s.enh := by
  unfold State.advanceAt; split <;> simp

@[simp] theorem State.advanceAt_comp (s : State) (p : Nat) (f : Bool) :
    (s.advanceAt p f).comp = s.comp := by
  unfold State.advanceAt; split <;> simp

@[simp] theorem State.advanceAt_view (s : State) (p : Nat) (f : Bool) :
    (s.advanceAt p f).view = s.view := by
  unfold State.advanceAt; split <;> simp

@[simp] theorem State.advanceAt_timer (s : State) (p : Nat) (f : Bool) :
    (s.advanceAt p f).timer = s.timer := by
  unfold State.advanceAt; split <;> simp

@[simp] theorem State.advanceAt_pending (s : State) (p : Nat) (f : Bool) :
    (s.advanceAt p f).pending = s.pending := by
  unfold State.advanceAt; split <;> simp

/-! ## endScan -/

@[simp] theorem State.endScan_resetN (s : State) :
    (s.endScan).resetN = s.resetN := by
  simp only [State.endScan]; repeat' (first | simp; done | split)

@[simp] theorem State.endScan_bridge (s : State) :
    (s.endScan).bridge = s.bridge := by
  simp only [State.endScan]; repeat' (first | simp; done | split)

@[simp] theorem State.endScan_asm (s : State) :
    (s.endScan).asm = s.asm := by
  simp only [State.endScan]; repeat' (first | simp; done | split)

@[simp] theorem State.endScan_slots (s : State) :
    (s.endScan).slots = s.slots := by
  simp only [State.endScan]; repeat' (first | simp; done | split)

@[simp] theorem State.endScan_enh (s : State) :
    (s.endScan).enh = s.enh := by
  simp only [State.endScan]; repeat' (first | simp; done | split)

@[simp] theorem State.endScan_comp (s : State) :
    (s.endScan).comp = s.comp := by
  simp only [State.endScan]; repeat' (first | simp; done | split)

@[simp] theorem State.endScan_view (s : State) :
    (s.endScan).view = s.view := by
  simp only [State.endScan]; repeat' (first | simp; done | split)

@[simp] theorem State.endScan_timer (s : State) :
    (s.endScan).timer = s.timer := by
  simp only [State.endScan]; repeat' (first | simp; done | split)

@[simp] theorem State.endScan_pending (s : State) :
    (s.endScan).pending = s.pending := by
  simp only [State.endScan]; repeat' (first | simp; done | split)

/-! ## setControl -/

@[simp] theorem State.setControl_resetN (s : State) (o a : Bool) :
    (s.setControl o a).resetN = s.resetN := rfl

@[simp] theorem State.setControl_bridge (s : State) (o a : Bool) :
    (s.setControl o a).bridge = s.bridge := rfl

@[simp] theorem State.setControl_port (s : State) (o a : Bool) :
    (s.setControl o a).port = s.port := rfl

@[simp] theorem State.setControl_asm (s : State) (o a : Bool) :
    (s.setControl o a).asm = s.asm := rfl

@[simp] theorem State.setControl_slots (s : State) (o a : Bool) :
    (s.setControl o a).slots = s.slots := rfl

@[simp] theorem State.setControl_enh (s : State) (o a : Bool) :
    (s.setControl o a).enh = s.enh := rfl

@[simp] theorem State.setControl_comp (s : State) (o a : Bool) :
    (s.setControl o a).comp = s.comp := rfl

@[simp] theorem State.setControl_view (s : State) (o a : Bool) :
    (s.setControl o a).view = s.view := rfl

@[simp] theorem State.setControl_store (s : State) (o a : Bool) :
    (s.setControl o a).store = s.store := rfl

@[simp] theorem State.setControl_timer (s : State) (o a : Bool) :
    (s.setControl o a).timer = s.timer := rfl

@[simp] theorem State.setControl_pending (s : State) (o a : Bool) :
    (s.setControl o a).pending = s.pending := rfl

/-! ## setLatch -/

@[simp] theorem State.setLatch_resetN (s : State) (l : ViewLatch) :
    (s.setLatch l).resetN = s.resetN := rfl

@[simp] theorem State.setLatch_bridge (s : State) (l : ViewLatch) :
    (s.setLatch l).bridge = s.bridge := rfl

@[simp] theorem State.setLatch_port (s : State) (l : ViewLatch) :
    (s.setLatch l).port = s.port := rfl

@[simp] theorem State.setLatch_asm (s : State) (l : ViewLatch) :
    (s.setLatch l).asm = s.asm := rfl

@[simp] theorem State.setLatch_slots (s : State) (l : ViewLatch) :
    (s.setLatch l).slots = s.slots := rfl

@[simp] theorem State.setLatch_enh (s : State) (l : ViewLatch) :
    (s.setLatch l).enh = s.enh := rfl

@[simp] theorem State.setLatch_view (s : State) (l : ViewLatch) :
    (s.setLatch l).view = s.view := rfl

@[simp] theorem State.setLatch_store (s : State) (l : ViewLatch) :
    (s.setLatch l).store = s.store := rfl

@[simp] theorem State.setLatch_timer (s : State) (l : ViewLatch) :
    (s.setLatch l).timer = s.timer := rfl

@[simp] theorem State.setLatch_cu (s : State) (l : ViewLatch) :
    (s.setLatch l).cu = s.cu := rfl

@[simp] theorem State.setLatch_pending (s : State) (l : ViewLatch) :
    (s.setLatch l).pending = s.pending := rfl

/-! ## acceptRecord -/

@[simp] theorem State.acceptRecord_resetN (s : State) (p : Nat) (f : Format) (i : Fin 3) (v tr : Bool) :
    (s.acceptRecord p f i v tr).resetN = s.resetN := by
  simp [State.acceptRecord]

@[simp] theorem State.acceptRecord_bridge (s : State) (p : Nat) (f : Format) (i : Fin 3) (v tr : Bool) :
    (s.acceptRecord p f i v tr).bridge = s.bridge := by
  simp [State.acceptRecord]

@[simp] theorem State.acceptRecord_asm (s : State) (p : Nat) (f : Format) (i : Fin 3) (v tr : Bool) :
    (s.acceptRecord p f i v tr).asm = s.asm := by
  simp [State.acceptRecord]

@[simp] theorem State.acceptRecord_enh (s : State) (p : Nat) (f : Format) (i : Fin 3) (v tr : Bool) :
    (s.acceptRecord p f i v tr).enh = s.enh := by
  simp [State.acceptRecord]

@[simp] theorem State.acceptRecord_comp (s : State) (p : Nat) (f : Format) (i : Fin 3) (v tr : Bool) :
    (s.acceptRecord p f i v tr).comp = s.comp := by
  simp [State.acceptRecord]

@[simp] theorem State.acceptRecord_view (s : State) (p : Nat) (f : Format) (i : Fin 3) (v tr : Bool) :
    (s.acceptRecord p f i v tr).view = s.view := by
  simp [State.acceptRecord]

@[simp] theorem State.acceptRecord_timer (s : State) (p : Nat) (f : Format) (i : Fin 3) (v tr : Bool) :
    (s.acceptRecord p f i v tr).timer = s.timer := by
  simp [State.acceptRecord]

@[simp] theorem State.acceptRecord_cu (s : State) (p : Nat) (f : Format) (i : Fin 3) (v tr : Bool) :
    (s.acceptRecord p f i v tr).cu = s.cu := by
  simp [State.acceptRecord]

@[simp] theorem State.acceptRecord_pending (s : State) (p : Nat) (f : Format) (i : Fin 3) (v tr : Bool) :
    (s.acceptRecord p f i v tr).pending = s.pending := by
  simp [State.acceptRecord]

/-! ## acceptMark -/

@[simp] theorem State.acceptMark_resetN (s : State) (p l : Nat) (tr : Bool) :
    (s.acceptMark p l tr).resetN = s.resetN := by
  simp [State.acceptMark]

@[simp] theorem State.acceptMark_bridge (s : State) (p l : Nat) (tr : Bool) :
    (s.acceptMark p l tr).bridge = s.bridge := by
  simp [State.acceptMark]

@[simp] theorem State.acceptMark_asm (s : State) (p l : Nat) (tr : Bool) :
    (s.acceptMark p l tr).asm = s.asm := by
  simp [State.acceptMark]

@[simp] theorem State.acceptMark_slots (s : State) (p l : Nat) (tr : Bool) :
    (s.acceptMark p l tr).slots = s.slots := by
  simp [State.acceptMark]

@[simp] theorem State.acceptMark_enh (s : State) (p l : Nat) (tr : Bool) :
    (s.acceptMark p l tr).enh = s.enh := by
  simp [State.acceptMark]

@[simp] theorem State.acceptMark_comp (s : State) (p l : Nat) (tr : Bool) :
    (s.acceptMark p l tr).comp = s.comp := by
  simp [State.acceptMark]

@[simp] theorem State.acceptMark_view (s : State) (p l : Nat) (tr : Bool) :
    (s.acceptMark p l tr).view = s.view := by
  simp [State.acceptMark]

@[simp] theorem State.acceptMark_timer (s : State) (p l : Nat) (tr : Bool) :
    (s.acceptMark p l tr).timer = s.timer := by
  simp [State.acceptMark]

@[simp] theorem State.acceptMark_cu (s : State) (p l : Nat) (tr : Bool) :
    (s.acceptMark p l tr).cu = s.cu := by
  simp [State.acceptMark]

@[simp] theorem State.acceptMark_pending (s : State) (p l : Nat) (tr : Bool) :
    (s.acceptMark p l tr).pending = s.pending := by
  simp [State.acceptMark]

/-! ## takeLatch -/

@[simp] theorem State.takeLatch_resetN (s : State) (f : Bool) :
    (s.takeLatch f).resetN = s.resetN := by
  simp only [State.takeLatch]; repeat' (first | simp [State.latchSlot]; done | split)

@[simp] theorem State.takeLatch_bridge (s : State) (f : Bool) :
    (s.takeLatch f).bridge = s.bridge := by
  simp only [State.takeLatch]; repeat' (first | simp [State.latchSlot]; done | split)

@[simp] theorem State.takeLatch_port (s : State) (f : Bool) :
    (s.takeLatch f).port = s.port := by
  simp only [State.takeLatch]; repeat' (first | simp [State.latchSlot]; done | split)

@[simp] theorem State.takeLatch_asm (s : State) (f : Bool) :
    (s.takeLatch f).asm = s.asm := by
  simp only [State.takeLatch]; repeat' (first | simp [State.latchSlot]; done | split)

@[simp] theorem State.takeLatch_enh (s : State) (f : Bool) :
    (s.takeLatch f).enh = s.enh := by
  simp only [State.takeLatch]; repeat' (first | simp [State.latchSlot]; done | split)

@[simp] theorem State.takeLatch_view (s : State) (f : Bool) :
    (s.takeLatch f).view = s.view := by
  simp only [State.takeLatch]; repeat' (first | simp [State.latchSlot]; done | split)

@[simp] theorem State.takeLatch_store (s : State) (f : Bool) :
    (s.takeLatch f).store = s.store := by
  simp only [State.takeLatch]; repeat' (first | simp [State.latchSlot]; done | split)

@[simp] theorem State.takeLatch_timer (s : State) (f : Bool) :
    (s.takeLatch f).timer = s.timer := by
  simp only [State.takeLatch]; repeat' (first | simp [State.latchSlot]; done | split)

@[simp] theorem State.takeLatch_cu (s : State) (f : Bool) :
    (s.takeLatch f).cu = s.cu := by
  simp only [State.takeLatch]; repeat' (first | simp [State.latchSlot]; done | split)

@[simp] theorem State.takeLatch_pending (s : State) (f : Bool) :
    (s.takeLatch f).pending = s.pending := by
  simp only [State.takeLatch]; repeat' (first | simp [State.latchSlot]; done | split)

/-! ## Ending a piece -/

@[simp] theorem State.settlePieces_resetN (ps : List Piece) (s : State) (t : Txn) :
    (s.settlePieces t ps).resetN = s.resetN := by
  induction ps generalizing s t with
  | nil => rfl
  | cons p ps ih => unfold State.settlePieces; split <;> simp [ih]

@[simp] theorem State.settle_resetN (s : State) (t : Txn) : (s.settle t).resetN = s.resetN := by
  simp [State.settle]

@[simp] theorem State.finishPiece_resetN (s : State) (ws : List Word) (e : Bool) :
    (s.finishPiece ws e).resetN = s.resetN := by
  unfold State.finishPiece; split <;> simp

@[simp] theorem State.discardPiece_resetN (s : State) : (s.discardPiece).resetN = s.resetN := by
  simp [State.discardPiece]

@[simp] theorem State.settlePieces_port (ps : List Piece) (s : State) (t : Txn) :
    (s.settlePieces t ps).port = s.port := by
  induction ps generalizing s t with
  | nil => rfl
  | cons p ps ih => unfold State.settlePieces; split <;> simp [ih]

@[simp] theorem State.settle_port (s : State) (t : Txn) : (s.settle t).port = s.port := by
  simp [State.settle]

@[simp] theorem State.finishPiece_port (s : State) (ws : List Word) (e : Bool) :
    (s.finishPiece ws e).port = s.port := by
  unfold State.finishPiece; split <;> simp

@[simp] theorem State.discardPiece_port (s : State) : (s.discardPiece).port = s.port := by
  simp [State.discardPiece]

@[simp] theorem State.settlePieces_asm (ps : List Piece) (s : State) (t : Txn) :
    (s.settlePieces t ps).asm = s.asm := by
  induction ps generalizing s t with
  | nil => rfl
  | cons p ps ih => unfold State.settlePieces; split <;> simp [ih]

@[simp] theorem State.settle_asm (s : State) (t : Txn) : (s.settle t).asm = s.asm := by
  simp [State.settle]

@[simp] theorem State.finishPiece_asm (s : State) (ws : List Word) (e : Bool) :
    (s.finishPiece ws e).asm = s.asm := by
  unfold State.finishPiece; split <;> simp

@[simp] theorem State.discardPiece_asm (s : State) : (s.discardPiece).asm = s.asm := by
  simp [State.discardPiece]

@[simp] theorem State.settlePieces_slots (ps : List Piece) (s : State) (t : Txn) :
    (s.settlePieces t ps).slots = s.slots := by
  induction ps generalizing s t with
  | nil => rfl
  | cons p ps ih => unfold State.settlePieces; split <;> simp [ih]

@[simp] theorem State.settle_slots (s : State) (t : Txn) : (s.settle t).slots = s.slots := by
  simp [State.settle]

@[simp] theorem State.finishPiece_slots (s : State) (ws : List Word) (e : Bool) :
    (s.finishPiece ws e).slots = s.slots := by
  unfold State.finishPiece; split <;> simp

@[simp] theorem State.discardPiece_slots (s : State) : (s.discardPiece).slots = s.slots := by
  simp [State.discardPiece]

@[simp] theorem State.settlePieces_enh (ps : List Piece) (s : State) (t : Txn) :
    (s.settlePieces t ps).enh = s.enh := by
  induction ps generalizing s t with
  | nil => rfl
  | cons p ps ih => unfold State.settlePieces; split <;> simp [ih]

@[simp] theorem State.settle_enh (s : State) (t : Txn) : (s.settle t).enh = s.enh := by
  simp [State.settle]

@[simp] theorem State.finishPiece_enh (s : State) (ws : List Word) (e : Bool) :
    (s.finishPiece ws e).enh = s.enh := by
  unfold State.finishPiece; split <;> simp

@[simp] theorem State.discardPiece_enh (s : State) : (s.discardPiece).enh = s.enh := by
  simp [State.discardPiece]

@[simp] theorem State.settlePieces_comp (ps : List Piece) (s : State) (t : Txn) :
    (s.settlePieces t ps).comp = s.comp := by
  induction ps generalizing s t with
  | nil => rfl
  | cons p ps ih => unfold State.settlePieces; split <;> simp [ih]

@[simp] theorem State.settle_comp (s : State) (t : Txn) : (s.settle t).comp = s.comp := by
  simp [State.settle]

@[simp] theorem State.finishPiece_comp (s : State) (ws : List Word) (e : Bool) :
    (s.finishPiece ws e).comp = s.comp := by
  unfold State.finishPiece; split <;> simp

@[simp] theorem State.discardPiece_comp (s : State) : (s.discardPiece).comp = s.comp := by
  simp [State.discardPiece]

@[simp] theorem State.settlePieces_view (ps : List Piece) (s : State) (t : Txn) :
    (s.settlePieces t ps).view = s.view := by
  induction ps generalizing s t with
  | nil => rfl
  | cons p ps ih => unfold State.settlePieces; split <;> simp [ih]

@[simp] theorem State.settle_view (s : State) (t : Txn) : (s.settle t).view = s.view := by
  simp [State.settle]

@[simp] theorem State.finishPiece_view (s : State) (ws : List Word) (e : Bool) :
    (s.finishPiece ws e).view = s.view := by
  unfold State.finishPiece; split <;> simp

@[simp] theorem State.discardPiece_view (s : State) : (s.discardPiece).view = s.view := by
  simp [State.discardPiece]

@[simp] theorem State.settlePieces_store (ps : List Piece) (s : State) (t : Txn) :
    (s.settlePieces t ps).store = s.store := by
  induction ps generalizing s t with
  | nil => rfl
  | cons p ps ih => unfold State.settlePieces; split <;> simp [ih]

@[simp] theorem State.settle_store (s : State) (t : Txn) : (s.settle t).store = s.store := by
  simp [State.settle]

@[simp] theorem State.finishPiece_store (s : State) (ws : List Word) (e : Bool) :
    (s.finishPiece ws e).store = s.store := by
  unfold State.finishPiece; split <;> simp

@[simp] theorem State.discardPiece_store (s : State) : (s.discardPiece).store = s.store := by
  simp [State.discardPiece]

@[simp] theorem State.settlePieces_timer (ps : List Piece) (s : State) (t : Txn) :
    (s.settlePieces t ps).timer = s.timer := by
  induction ps generalizing s t with
  | nil => rfl
  | cons p ps ih => unfold State.settlePieces; split <;> simp [ih]

@[simp] theorem State.settle_timer (s : State) (t : Txn) : (s.settle t).timer = s.timer := by
  simp [State.settle]

@[simp] theorem State.finishPiece_timer (s : State) (ws : List Word) (e : Bool) :
    (s.finishPiece ws e).timer = s.timer := by
  unfold State.finishPiece; split <;> simp

@[simp] theorem State.discardPiece_timer (s : State) : (s.discardPiece).timer = s.timer := by
  simp [State.discardPiece]

@[simp] theorem State.settlePieces_cu (ps : List Piece) (s : State) (t : Txn) :
    (s.settlePieces t ps).cu = s.cu := by
  induction ps generalizing s t with
  | nil => rfl
  | cons p ps ih => unfold State.settlePieces; split <;> simp [ih]

@[simp] theorem State.settle_cu (s : State) (t : Txn) : (s.settle t).cu = s.cu := by
  simp [State.settle]

@[simp] theorem State.finishPiece_cu (s : State) (ws : List Word) (e : Bool) :
    (s.finishPiece ws e).cu = s.cu := by
  unfold State.finishPiece; split <;> simp

@[simp] theorem State.discardPiece_cu (s : State) : (s.discardPiece).cu = s.cu := by
  simp [State.discardPiece]

@[simp] theorem State.settlePieces_pending (ps : List Piece) (s : State) (t : Txn) :
    (s.settlePieces t ps).pending = s.pending := by
  induction ps generalizing s t with
  | nil => rfl
  | cons p ps ih => unfold State.settlePieces; split <;> simp [ih]

@[simp] theorem State.settle_pending (s : State) (t : Txn) : (s.settle t).pending = s.pending := by
  simp [State.settle]

@[simp] theorem State.finishPiece_pending (s : State) (ws : List Word) (e : Bool) :
    (s.finishPiece ws e).pending = s.pending := by
  unfold State.finishPiece; split <;> simp

@[simp] theorem State.discardPiece_pending (s : State) : (s.discardPiece).pending = s.pending := by
  simp [State.discardPiece]

end Sys2Proof.Machine
end

