-- ==== Sys2Proof/Laws/Ops.lean ====
section
/-! SUPPORT. What the shared operations can do, said once each: the gates of commands, answers and pieces, the
memory port, holds, and the completion of a command. -/

set_option Elab.async false

namespace Sys2Proof.Machine

/-! ## The gates -/

theorem State.whenAwake_of {s n : State} (h : s.awake = true) : s.whenAwake n = .next n := by
  simp [State.whenAwake, h]

/-- A gated command answers the state as it stands or the state it makes. -/
theorem State.whenAwake_cases {s n t : State} (h : s.whenAwake n = .next t) : t = s ∨ t = n := by
  unfold State.whenAwake at h
  split at h <;> cases h
  · exact .inr rfl
  · exact .inl rfl

theorem State.dispatched_eq {s : State} {n : Nat} {p : Packet} :
    s.dispatched n = some p ↔
      s.cu.cmd = some { packet := some p, stage := .dispatched } ∧ p.code = n := by
  unfold State.dispatched
  rcases hc : s.cu.cmd with _ | ⟨pk, st⟩
  · simp
  · cases st <;> cases pk <;> simp
    · constructor
      · rintro ⟨h, rfl⟩; exact ⟨rfl, h⟩
      · rintro ⟨rfl, h⟩; exact ⟨h, rfl⟩

theorem State.onCommand_of {s : State} {n : Nat} {p : Packet} {k : Packet → State}
    (h : s.awake = true) (hp : s.dispatched n = some p) : s.onCommand n k = .next (k p) := by
  simp [State.onCommand, h, hp]

/-- A command of an owning block answers the state as it stands, or has taken a dispatched packet of its
code. -/
theorem State.onCommand_cases {s t : State} {n : Nat} {k : Packet → State}
    (h : s.onCommand n k = .next t) : t = s ∨ ∃ p, s.dispatched n = some p ∧ t = k p := by
  unfold State.onCommand at h
  split at h
  · split at h
    · next p hp => cases h; exact .inr ⟨p, hp, rfl⟩
    · cases h; exact .inl rfl
  · cases h; exact .inl rfl

theorem State.onMove_of {s : State} {m : MoveMode} {p : Packet} {k : Nat → State}
    (h : s.awake = true) (hp : s.dispatched 8 = some p) (hm : MoveMode.ofCode (field p.p1 0 8) = some m) :
    s.onMove m k = .next (k (field p.p1 16 16)) := by
  simp [State.onMove, h, hp, hm]

/-- A MOVE command answers the state as it stands, has taken a MOVE of its mode, or has refused a MOVE of no
mode. -/
theorem State.onMove_cases {s t : State} {m : MoveMode} {k : Nat → State} (h : s.onMove m k = .next t) :
    t = s ∨ ∃ p, s.dispatched 8 = some p
      ∧ (t = k (field p.p1 16 16) ∨ t = s.complete (Result.refuse .badValue)) := by
  unfold State.onMove at h
  split at h
  · split at h
    · next p hp =>
      split at h
      · split at h
        · cases h; exact .inr ⟨p, hp, .inl rfl⟩
        · cases h; exact .inl rfl
      · cases h; exact .inr ⟨p, hp, .inr rfl⟩
    · cases h; exact .inl rfl
  · cases h; exact .inl rfl

theorem State.onFront_of {s : State} {sel : Treatment → Bool} {k : Txn → Piece → State} {t : Txn}
    {p : Piece} {tr : Treatment} (h : s.awake = true) (hf : s.front = some (t, p, tr))
    (hs : sel tr = true) : s.onFront sel k = .next (k t p) := by
  simp [State.onFront, h, hf, hs]

/-- A command that treats the front piece answers the state as it stands, or has treated a front piece of
one of its treatments. -/
theorem State.onFront_cases {s u : State} {sel : Treatment → Bool} {k : Txn → Piece → State}
    (h : s.onFront sel k = .next u) :
    u = s ∨ ∃ t p tr, s.front = some (t, p, tr) ∧ sel tr = true ∧ u = k t p := by
  unfold State.onFront at h
  split at h
  · split at h
    · next t p tr hf =>
      split at h
      · next hs => cases h; exact .inr ⟨t, p, tr, hf, hs, rfl⟩
      · cases h; exact .inl rfl
    · cases h; exact .inl rfl
  · cases h; exact .inl rfl

theorem State.onReport_of {s : State} {sel : Report → Bool} {eff : Report → State → State} {t : Txn}
    {p : Piece} {k : Nat} (h : s.awake = true) (hr : s.reporting = some (t, p, k))
    (hs : sel (s.reportAt t p k) = true) :
    s.onReport sel eff = .next ((eff (s.reportAt t p k) s).endReport t p k) := by
  simp [State.onReport, h, hr, hs]

/-- A command that treats a control-page write report answers the state as it stands, or has treated a
report of its kind. -/
theorem State.onReport_cases {s u : State} {sel : Report → Bool} {eff : Report → State → State}
    (h : s.onReport sel eff = .next u) :
    u = s ∨ ∃ t p k, s.reporting = some (t, p, k) ∧ sel (s.reportAt t p k) = true
      ∧ u = (eff (s.reportAt t p k) s).endReport t p k := by
  unfold State.onReport at h
  split at h
  · split at h
    · next t p k hr =>
      simp only at h
      split at h
      · next hs => cases h; exact .inr ⟨t, p, k, hr, hs, rfl⟩
      · cases h; exact .inl rfl
    · cases h; exact .inl rfl
  · cases h; exact .inl rfl

/-! ## Answers of the memory port -/

theorem State.onAnswer_live {s : State} {sel : Purpose → Bool} {a : Answer} {k : Request → State → State}
    {r : Request} (h : s.awake = true) (hg : s.port.granted = some { request := r, live := true })
    (hs : sel r.purpose = true) (hf : answerFits a r.burst = true) :
    s.onAnswer sel a k = .next (k r s.portFreed) := by
  simp [State.onAnswer, h, State.answered, hg, hs, hf, State.portFreed]

theorem State.onAnswer_stale {s : State} {sel : Purpose → Bool} {a : Answer}
    {k : Request → State → State} {r : Request} (h : s.awake = true)
    (hg : s.port.granted = some { request := r, live := false }) (hs : sel r.purpose = true)
    (hf : answerFits a r.burst = true) : s.onAnswer sel a k = .next s.portFreed := by
  simp [State.onAnswer, h, State.answered, hg, hs, hf, State.portFreed]

/-- An answer leaves the state as it stands, frees the port alone, or goes to the requester of the granted
transaction. -/
theorem State.onAnswer_cases {s t : State} {sel : Purpose → Bool} {a : Answer}
    {k : Request → State → State} (h : s.onAnswer sel a k = .next t) :
    t = s ∨ t = s.portFreed
      ∨ ∃ r, s.port.granted = some { request := r, live := true } ∧ sel r.purpose = true
          ∧ answerFits a r.burst = true ∧ t = k r s.portFreed := by
  unfold State.onAnswer at h
  split at h
  · split at h
    · next g s' hg =>
      unfold State.answered at hg
      split at hg
      · next g' hgr =>
        split at hg
        · next hc =>
          simp only [Option.some.injEq, Prod.mk.injEq] at hg
          obtain ⟨rfl, rfl⟩ := hg
          simp only [Bool.and_eq_true] at hc
          split at h
          · next hl =>
            cases h
            refine .inr (.inr ⟨g'.request, ?_, hc.1, hc.2, rfl⟩)
            rw [hgr]; cases g'; simp_all
          · cases h; exact .inr (.inl rfl)
        · cases hg
      · cases hg
    · cases h; exact .inl rfl
  · cases h; exact .inl rfl

@[simp] theorem State.portFreed_granted (s : State) : s.portFreed.port.granted = none := rfl

@[simp] theorem State.portFreed_waiting (s : State) (q : Requester) :
    s.portFreed.port.waiting q = s.port.waiting q := by cases q <;> rfl

/-! ## Requests -/

@[simp] theorem MemoryPort.put_waiting (m : MemoryPort) (q q' : Requester) (r : Option Request) :
    (m.put q r).waiting q' = if q = q' then r else m.waiting q' := by
  cases q <;> cases q' <;> rfl

@[simp] theorem MemoryPort.put_granted (m : MemoryPort) (q : Requester) (r : Option Request) :
    (m.put q r).granted = m.granted := by cases q <;> rfl

theorem State.present_port (s : State) (p : Purpose) (b : Burst) :
    (s.present p b).port = s.port.put p.requester (some { purpose := p, burst := b }) := rfl

/-- A transaction of the command in progress is presented, or waits behind the NOTICE in flight. -/
theorem State.presentCommand_spec (s : State) (p : Purpose) (b : Burst) :
    CommandPresents s (s.presentCommand p b) p b := by
  unfold CommandPresents State.presentCommand
  split <;> simp [Presents, State.present_port]

/-! ## The completion of a command -/

@[simp] theorem State.setCmdStage_cmd (s : State) (st : CmdStage) :
    (s.setCmdStage st).cu.cmd = s.cu.cmd.map fun c => { c with stage := st } := by
  unfold State.setCmdStage
  split <;> simp_all

@[simp] theorem State.presentCommand_cmd (s : State) (p : Purpose) (b : Burst) :
    (s.presentCommand p b).cu.cmd = s.cu.cmd := by
  unfold State.presentCommand
  split <;> simp

/-- The message words depend on the blocks that report, and on nothing of the command in progress. -/
theorem State.messageWords_congr {s t : State} (hs : t.slots = s.slots) (hb : t.bridge = s.bridge)
    (hc : t.comp = s.comp) (he : t.enh = s.enh) (hst : t.store = s.store) (ht : t.timer = s.timer)
    (hn : t.cu.notices = s.cu.notices) (o : Result) (code : Nat) (ie rel rep : Bool) :
    t.messageWords o code ie rel rep = s.messageWords o code ie rel rep := by
  simp [State.messageWords, State.reportWords, hs, hb, hc, he, hst, ht, hn]

theorem State.complete_cu (s : State) (o : Result) :
    (s.complete o).cu = { s.cu with cmd := (s.complete o).cu.cmd, held := (s.complete o).cu.held } := by
  unfold State.complete State.completeWith State.setCmdStage State.presentCommand
  cases hc : s.cu.cmd with
  | none => simp
  | some c => cases hn : s.cu.notice.isSome <;> simp [hn, State.present]

@[simp] theorem State.complete_notices (s : State) (o : Result) :
    (s.complete o).cu.notices = s.cu.notices := by rw [State.complete_cu]

@[simp] theorem State.complete_msgAddr (s : State) (o : Result) :
    (s.complete o).cu.msgAddr = s.cu.msgAddr := by rw [State.complete_cu]

/-- The completion event of a command whose packet was read: its message is assembled from the state as it
stands and its upper half presented (R165 step 1). -/
theorem State.complete_spec {s : State} {p : Packet} {st : CmdStage} (o : Result)
    (h : s.cu.cmd = some { packet := some p, stage := st }) : Completed s (s.complete o) p o := by
  have hw : replyOf (s.complete o) p o false = replyOf s p o false := by
    simp [replyOf, State.messageWords_congr (s := s) (t := s.complete o)]
  rw [Completed, hw]
  constructor
  · simp [State.complete, State.completeWith, h, replyOf]
  · simp only [State.complete, State.completeWith, h, CommandPresents, Presents]
    simp only [State.presentCommand, State.setCmdStage, h]
    by_cases hn : s.cu.notice.isSome = true <;>
      simp [hn, replyOf, State.present, Purpose.requester]

/-- The same for a command whose packet was not read (R165). -/
theorem State.complete_spec_unread {s : State} {st : CmdStage} (o : Result)
    (h : s.cu.cmd = some { packet := none, stage := st }) : CompletedUnread s (s.complete o) o := by
  unfold CompletedUnread
  simp only [State.messageWords_congr (s := s) (t := s.complete o) (by simp) (by simp) (by simp) (by simp)
    (by simp) (by simp) (by simp), State.complete_msgAddr]
  constructor
  · simp [State.complete, State.completeWith, h]
  · simp only [State.complete, State.completeWith, h, CommandPresents, Presents]
    simp only [State.presentCommand, State.setCmdStage, h]
    by_cases hn : s.cu.notice.isSome = true <;>
      simp [hn, State.present, Purpose.requester]

/-! ## Holds -/

@[simp] theorem State.setRec_slotRec (s : State) (i j : Fin 3) (r : SlotRec) :
    (s.setRec i r).slotRec j = if i = j then r else s.slotRec j := by
  simp only [State.setRec, State.slotRec, State.setSlots_slots]
  by_cases h : i = j
  · subst h; simp
  · simp [h, Fin.val_inj]

@[simp] theorem State.takeHold_slotRec (s : State) (i j : Fin 3) :
    (s.takeHold i).slotRec j =
      if i = j then { s.slotRec i with hold := (s.slotRec i).hold + 1 } else s.slotRec j := by
  simp [State.takeHold]

/-- A release gives up one hold of its slot; it empties the slot, or changes nothing else of it; no other
slot changes (R21). -/
theorem State.releaseHold_slotRec (s : State) (i j : Fin 3) :
    (s.releaseHold i).slotRec j =
      if i = j then
        { s.slotRec i with
          hold := (s.slotRec i).hold - 1,
          state := if (s.slotRec i).hold - 1 = 0 ∧ (s.slotRec i).state = .complete ∧ s.newest ≠ some i
            then .empty else (s.slotRec i).state }
      else s.slotRec j := by
  simp only [State.releaseHold]
  split <;> by_cases h : i = j <;> simp_all

/-- The newest slot is COMPLETE (R18). -/
theorem State.newest_complete {s : State} {i : Fin 3} (h : s.newest = some i) :
    (s.slotRec i).state = .complete := by
  have step : ∀ (best : Option (Fin 3)) (k : Fin 3),
      (∀ j, best = some j → (s.slotRec j).state = .complete) →
      ∀ j, s.slots.newer s.timer.frameNumber best k = some j → (s.slotRec j).state = .complete := by
    intro best k hb j hj
    simp only [SlotManager.newer] at hj
    split at hj
    · next hk =>
      split at hj
      · cases hj; exact hk
      · next b =>
        split at hj
        · cases hj; exact hk
        · cases hj; exact hb _ rfl
    · exact hb _ hj
  have h0 : ∀ j, (none : Option (Fin 3)) = some j → (s.slotRec j).state = .complete := by simp
  exact step _ 2 (step _ 1 (step _ 0 h0)) i h

end Sys2Proof.Machine
end

