-- ==== Sys2Proof/Laws/FramesCapture.lean ====
section
/-! SUPPORT. The frames of the operations of capture frames, line events and the line writer: each block that an
operation leaves alone. -/

set_option Elab.async false

namespace Sys2Proof.Machine

/-! ## copyFailed -/

@[simp] theorem State.copyFailed_resetN (s : State) (c : CopyOp) :
    (s.copyFailed c).resetN = s.resetN := by
  unfold State.copyFailed; split <;> simp

@[simp] theorem State.copyFailed_bridge (s : State) (c : CopyOp) :
    (s.copyFailed c).bridge = s.bridge := by
  unfold State.copyFailed; split <;> simp

@[simp] theorem State.copyFailed_asm (s : State) (c : CopyOp) :
    (s.copyFailed c).asm = s.asm := by
  unfold State.copyFailed; split <;> simp

@[simp] theorem State.copyFailed_slots (s : State) (c : CopyOp) :
    (s.copyFailed c).slots = s.slots := by
  unfold State.copyFailed; split <;> simp

@[simp] theorem State.copyFailed_enh (s : State) (c : CopyOp) :
    (s.copyFailed c).enh = s.enh := by
  unfold State.copyFailed; split <;> simp

@[simp] theorem State.copyFailed_comp (s : State) (c : CopyOp) :
    (s.copyFailed c).comp = s.comp := by
  unfold State.copyFailed; split <;> simp

@[simp] theorem State.copyFailed_view (s : State) (c : CopyOp) :
    (s.copyFailed c).view = s.view := by
  unfold State.copyFailed; split <;> simp

@[simp] theorem State.copyFailed_store (s : State) (c : CopyOp) :
    (s.copyFailed c).store = s.store := by
  unfold State.copyFailed; split <;> simp

@[simp] theorem State.copyFailed_timer (s : State) (c : CopyOp) :
    (s.copyFailed c).timer = s.timer := by
  unfold State.copyFailed; split <;> simp

@[simp] theorem State.copyFailed_pending (s : State) (c : CopyOp) :
    (s.copyFailed c).pending = s.pending := by
  unfold State.copyFailed; split <;> simp

/-! ## triggerCapture -/

@[simp] theorem State.triggerCapture_resetN (s : State) (a : Half) :
    (s.triggerCapture a).resetN = s.resetN := by
  unfold State.triggerCapture; repeat' (first | rfl | (simp; done) | split)

@[simp] theorem State.triggerCapture_bridge (s : State) (a : Half) :
    (s.triggerCapture a).bridge = s.bridge := by
  unfold State.triggerCapture; repeat' (first | rfl | (simp; done) | split)

@[simp] theorem State.triggerCapture_asm (s : State) (a : Half) :
    (s.triggerCapture a).asm = s.asm := by
  unfold State.triggerCapture; repeat' (first | rfl | (simp; done) | split)

@[simp] theorem State.triggerCapture_enh (s : State) (a : Half) :
    (s.triggerCapture a).enh = s.enh := by
  unfold State.triggerCapture; repeat' (first | rfl | (simp; done) | split)

@[simp] theorem State.triggerCapture_comp (s : State) (a : Half) :
    (s.triggerCapture a).comp = s.comp := by
  unfold State.triggerCapture; repeat' (first | rfl | (simp; done) | split)

@[simp] theorem State.triggerCapture_view (s : State) (a : Half) :
    (s.triggerCapture a).view = s.view := by
  unfold State.triggerCapture; repeat' (first | rfl | (simp; done) | split)

@[simp] theorem State.triggerCapture_pending (s : State) (a : Half) :
    (s.triggerCapture a).pending = s.pending := by
  unfold State.triggerCapture; repeat' (first | rfl | (simp; done) | split)

/-! ## triggerMark -/

@[simp] theorem State.triggerMark_resetN (s : State) (a : Half) :
    (s.triggerMark a).resetN = s.resetN := by
  unfold State.triggerMark; repeat' (first | rfl | (simp; done) | split)

@[simp] theorem State.triggerMark_bridge (s : State) (a : Half) :
    (s.triggerMark a).bridge = s.bridge := by
  unfold State.triggerMark; repeat' (first | rfl | (simp; done) | split)

@[simp] theorem State.triggerMark_asm (s : State) (a : Half) :
    (s.triggerMark a).asm = s.asm := by
  unfold State.triggerMark; repeat' (first | rfl | (simp; done) | split)

@[simp] theorem State.triggerMark_slots (s : State) (a : Half) :
    (s.triggerMark a).slots = s.slots := by
  unfold State.triggerMark; repeat' (first | rfl | (simp; done) | split)

@[simp] theorem State.triggerMark_enh (s : State) (a : Half) :
    (s.triggerMark a).enh = s.enh := by
  unfold State.triggerMark; repeat' (first | rfl | (simp; done) | split)

@[simp] theorem State.triggerMark_comp (s : State) (a : Half) :
    (s.triggerMark a).comp = s.comp := by
  unfold State.triggerMark; repeat' (first | rfl | (simp; done) | split)

@[simp] theorem State.triggerMark_view (s : State) (a : Half) :
    (s.triggerMark a).view = s.view := by
  unfold State.triggerMark; repeat' (first | rfl | (simp; done) | split)

@[simp] theorem State.triggerMark_pending (s : State) (a : Half) :
    (s.triggerMark a).pending = s.pending := by
  unfold State.triggerMark; repeat' (first | rfl | (simp; done) | split)

/-! ## triggerAdvance -/

@[simp] theorem State.triggerAdvance_resetN (s : State) :
    (s.triggerAdvance).resetN = s.resetN := by
  unfold State.triggerAdvance; repeat' (first | rfl | (simp; done) | split)

@[simp] theorem State.triggerAdvance_bridge (s : State) :
    (s.triggerAdvance).bridge = s.bridge := by
  unfold State.triggerAdvance; repeat' (first | rfl | (simp; done) | split)

@[simp] theorem State.triggerAdvance_asm (s : State) :
    (s.triggerAdvance).asm = s.asm := by
  unfold State.triggerAdvance; repeat' (first | rfl | (simp; done) | split)

@[simp] theorem State.triggerAdvance_slots (s : State) :
    (s.triggerAdvance).slots = s.slots := by
  unfold State.triggerAdvance; repeat' (first | rfl | (simp; done) | split)

@[simp] theorem State.triggerAdvance_enh (s : State) :
    (s.triggerAdvance).enh = s.enh := by
  unfold State.triggerAdvance; repeat' (first | rfl | (simp; done) | split)

@[simp] theorem State.triggerAdvance_comp (s : State) :
    (s.triggerAdvance).comp = s.comp := by
  unfold State.triggerAdvance; repeat' (first | rfl | (simp; done) | split)

@[simp] theorem State.triggerAdvance_view (s : State) :
    (s.triggerAdvance).view = s.view := by
  unfold State.triggerAdvance; repeat' (first | rfl | (simp; done) | split)

@[simp] theorem State.triggerAdvance_pending (s : State) :
    (s.triggerAdvance).pending = s.pending := by
  unfold State.triggerAdvance; repeat' (first | rfl | (simp; done) | split)

/-! ## runAction -/

@[simp] theorem State.runAction_resetN (s : State) (x : Action) (a : Half) :
    (s.runAction x a).resetN = s.resetN := by
  cases x <;> simp [State.runAction]

@[simp] theorem State.runAction_bridge (s : State) (x : Action) (a : Half) :
    (s.runAction x a).bridge = s.bridge := by
  cases x <;> simp [State.runAction]

@[simp] theorem State.runAction_asm (s : State) (x : Action) (a : Half) :
    (s.runAction x a).asm = s.asm := by
  cases x <;> simp [State.runAction]

@[simp] theorem State.runAction_enh (s : State) (x : Action) (a : Half) :
    (s.runAction x a).enh = s.enh := by
  cases x <;> simp [State.runAction]

@[simp] theorem State.runAction_comp (s : State) (x : Action) (a : Half) :
    (s.runAction x a).comp = s.comp := by
  cases x <;> simp [State.runAction]

@[simp] theorem State.runAction_pending (s : State) (x : Action) (a : Half) :
    (s.runAction x a).pending = s.pending := by
  cases x <;> simp [State.runAction]

/-! ## lineEvent -/

@[simp] theorem State.lineEvent_resetN (s : State) (n : Nat) :
    (s.lineEvent n).resetN = s.resetN := by
  unfold State.lineEvent; split <;> simp

@[simp] theorem State.lineEvent_bridge (s : State) (n : Nat) :
    (s.lineEvent n).bridge = s.bridge := by
  unfold State.lineEvent; split <;> simp

@[simp] theorem State.lineEvent_asm (s : State) (n : Nat) :
    (s.lineEvent n).asm = s.asm := by
  unfold State.lineEvent; split <;> simp

@[simp] theorem State.lineEvent_enh (s : State) (n : Nat) :
    (s.lineEvent n).enh = s.enh := by
  unfold State.lineEvent; split <;> simp

@[simp] theorem State.lineEvent_comp (s : State) (n : Nat) :
    (s.lineEvent n).comp = s.comp := by
  unfold State.lineEvent; split <;> simp

@[simp] theorem State.lineEvent_pending (s : State) (n : Nat) :
    (s.lineEvent n).pending = s.pending := by
  unfold State.lineEvent; split <;> simp

/-! ## timerFrameStart -/

@[simp] theorem State.timerFrameStart_resetN (s : State) :
    (s.timerFrameStart).resetN = s.resetN := by
  simp only [State.timerFrameStart]; split <;> simp

@[simp] theorem State.timerFrameStart_bridge (s : State) :
    (s.timerFrameStart).bridge = s.bridge := by
  simp only [State.timerFrameStart]; split <;> simp

@[simp] theorem State.timerFrameStart_asm (s : State) :
    (s.timerFrameStart).asm = s.asm := by
  simp only [State.timerFrameStart]; split <;> simp

@[simp] theorem State.timerFrameStart_slots (s : State) :
    (s.timerFrameStart).slots = s.slots := by
  simp only [State.timerFrameStart]; split <;> simp

@[simp] theorem State.timerFrameStart_enh (s : State) :
    (s.timerFrameStart).enh = s.enh := by
  simp only [State.timerFrameStart]; split <;> simp

@[simp] theorem State.timerFrameStart_comp (s : State) :
    (s.timerFrameStart).comp = s.comp := by
  simp only [State.timerFrameStart]; split <;> simp

@[simp] theorem State.timerFrameStart_view (s : State) :
    (s.timerFrameStart).view = s.view := by
  simp only [State.timerFrameStart]; split <;> simp

@[simp] theorem State.timerFrameStart_store (s : State) :
    (s.timerFrameStart).store = s.store := by
  simp only [State.timerFrameStart]; split <;> simp

@[simp] theorem State.timerFrameStart_pending (s : State) :
    (s.timerFrameStart).pending = s.pending := by
  simp only [State.timerFrameStart]; split <;> simp

/-! ## expireWatch -/

@[simp] theorem State.expireWatch_resetN (s : State) :
    (s.expireWatch).resetN = s.resetN := by
  simp [State.expireWatch]

@[simp] theorem State.expireWatch_bridge (s : State) :
    (s.expireWatch).bridge = s.bridge := by
  simp [State.expireWatch]

@[simp] theorem State.expireWatch_asm (s : State) :
    (s.expireWatch).asm = s.asm := by
  simp [State.expireWatch]

@[simp] theorem State.expireWatch_slots (s : State) :
    (s.expireWatch).slots = s.slots := by
  simp [State.expireWatch]

@[simp] theorem State.expireWatch_enh (s : State) :
    (s.expireWatch).enh = s.enh := by
  simp [State.expireWatch]

@[simp] theorem State.expireWatch_comp (s : State) :
    (s.expireWatch).comp = s.comp := by
  simp [State.expireWatch]

@[simp] theorem State.expireWatch_view (s : State) :
    (s.expireWatch).view = s.view := by
  simp [State.expireWatch]

@[simp] theorem State.expireWatch_store (s : State) :
    (s.expireWatch).store = s.store := by
  simp [State.expireWatch]

@[simp] theorem State.expireWatch_pending (s : State) :
    (s.expireWatch).pending = s.pending := by
  simp [State.expireWatch]

/-! ## endFrame -/

@[simp] theorem State.endFrame_resetN (s : State) :
    (s.endFrame).resetN = s.resetN := by
  simp only [State.endFrame]; repeat' (first | rfl | (simp; done) | split)

@[simp] theorem State.endFrame_bridge (s : State) :
    (s.endFrame).bridge = s.bridge := by
  simp only [State.endFrame]; repeat' (first | rfl | (simp; done) | split)

@[simp] theorem State.endFrame_enh (s : State) :
    (s.endFrame).enh = s.enh := by
  simp only [State.endFrame]; repeat' (first | rfl | (simp; done) | split)

@[simp] theorem State.endFrame_comp (s : State) :
    (s.endFrame).comp = s.comp := by
  simp only [State.endFrame]; repeat' (first | rfl | (simp; done) | split)

@[simp] theorem State.endFrame_view (s : State) :
    (s.endFrame).view = s.view := by
  simp only [State.endFrame]; repeat' (first | rfl | (simp; done) | split)

@[simp] theorem State.endFrame_store (s : State) :
    (s.endFrame).store = s.store := by
  simp only [State.endFrame]; repeat' (first | rfl | (simp; done) | split)

@[simp] theorem State.endFrame_timer (s : State) :
    (s.endFrame).timer = s.timer := by
  simp only [State.endFrame]; repeat' (first | rfl | (simp; done) | split)

@[simp] theorem State.endFrame_cu (s : State) :
    (s.endFrame).cu = s.cu := by
  simp only [State.endFrame]; repeat' (first | rfl | (simp; done) | split)

@[simp] theorem State.endFrame_pending (s : State) :
    (s.endFrame).pending = s.pending := by
  simp only [State.endFrame]; repeat' (first | rfl | (simp; done) | split)

/-! ## newGeometry -/

@[simp] theorem State.newGeometry_resetN (s : State) :
    (s.newGeometry).resetN = s.resetN := by
  simp only [State.newGeometry]; split <;> simp

@[simp] theorem State.newGeometry_bridge (s : State) :
    (s.newGeometry).bridge = s.bridge := by
  simp only [State.newGeometry]; split <;> simp

@[simp] theorem State.newGeometry_asm (s : State) :
    (s.newGeometry).asm = s.asm := by
  simp only [State.newGeometry]; split <;> simp

@[simp] theorem State.newGeometry_enh (s : State) :
    (s.newGeometry).enh = s.enh := by
  simp only [State.newGeometry]; split <;> simp

@[simp] theorem State.newGeometry_store (s : State) :
    (s.newGeometry).store = s.store := by
  simp only [State.newGeometry]; split <;> simp

@[simp] theorem State.newGeometry_timer (s : State) :
    (s.newGeometry).timer = s.timer := by
  simp only [State.newGeometry]; split <;> simp

@[simp] theorem State.newGeometry_pending (s : State) :
    (s.newGeometry).pending = s.pending := by
  simp only [State.newGeometry]; split <;> simp

/-! ## applyStaged -/

@[simp] theorem State.applyStaged_resetN (s : State) (g : StagedCapture) :
    (s.applyStaged g).resetN = s.resetN := by
  simp only [State.applyStaged]; split <;> simp

@[simp] theorem State.applyStaged_bridge (s : State) (g : StagedCapture) :
    (s.applyStaged g).bridge = s.bridge := by
  simp only [State.applyStaged]; split <;> simp

@[simp] theorem State.applyStaged_asm (s : State) (g : StagedCapture) :
    (s.applyStaged g).asm = s.asm := by
  simp only [State.applyStaged]; split <;> simp

@[simp] theorem State.applyStaged_store (s : State) (g : StagedCapture) :
    (s.applyStaged g).store = s.store := by
  simp only [State.applyStaged]; split <;> simp

@[simp] theorem State.applyStaged_timer (s : State) (g : StagedCapture) :
    (s.applyStaged g).timer = s.timer := by
  simp only [State.applyStaged]; split <;> simp

@[simp] theorem State.applyStaged_pending (s : State) (g : StagedCapture) :
    (s.applyStaged g).pending = s.pending := by
  simp only [State.applyStaged]; split <;> simp

/-! ## applyPending -/

@[simp] theorem State.applyPending_resetN (s : State) :
    (s.applyPending).resetN = s.resetN := by
  unfold State.applyPending; repeat' (first | rfl | (simp; done) | split)

@[simp] theorem State.applyPending_bridge (s : State) :
    (s.applyPending).bridge = s.bridge := by
  unfold State.applyPending; repeat' (first | rfl | (simp; done) | split)

@[simp] theorem State.applyPending_asm (s : State) :
    (s.applyPending).asm = s.asm := by
  unfold State.applyPending; repeat' (first | rfl | (simp; done) | split)

@[simp] theorem State.applyPending_store (s : State) :
    (s.applyPending).store = s.store := by
  unfold State.applyPending; repeat' (first | rfl | (simp; done) | split)

@[simp] theorem State.applyPending_timer (s : State) :
    (s.applyPending).timer = s.timer := by
  unfold State.applyPending; repeat' (first | rfl | (simp; done) | split)

@[simp] theorem State.applyPending_pending (s : State) :
    (s.applyPending).pending = s.pending := by
  unfold State.applyPending; repeat' (first | rfl | (simp; done) | split)

/-! ## fillSlot -/

@[simp] theorem State.fillSlot_resetN (s : State) (c : Option (Fin 3)) :
    (s.fillSlot c).resetN = s.resetN := by
  unfold State.fillSlot; split <;> simp

@[simp] theorem State.fillSlot_bridge (s : State) (c : Option (Fin 3)) :
    (s.fillSlot c).bridge = s.bridge := by
  unfold State.fillSlot; split <;> simp

@[simp] theorem State.fillSlot_port (s : State) (c : Option (Fin 3)) :
    (s.fillSlot c).port = s.port := by
  unfold State.fillSlot; split <;> simp

@[simp] theorem State.fillSlot_asm (s : State) (c : Option (Fin 3)) :
    (s.fillSlot c).asm = s.asm := by
  unfold State.fillSlot; split <;> simp

@[simp] theorem State.fillSlot_enh (s : State) (c : Option (Fin 3)) :
    (s.fillSlot c).enh = s.enh := by
  unfold State.fillSlot; split <;> simp

@[simp] theorem State.fillSlot_comp (s : State) (c : Option (Fin 3)) :
    (s.fillSlot c).comp = s.comp := by
  unfold State.fillSlot; split <;> simp

@[simp] theorem State.fillSlot_view (s : State) (c : Option (Fin 3)) :
    (s.fillSlot c).view = s.view := by
  unfold State.fillSlot; split <;> simp

@[simp] theorem State.fillSlot_store (s : State) (c : Option (Fin 3)) :
    (s.fillSlot c).store = s.store := by
  unfold State.fillSlot; split <;> simp

@[simp] theorem State.fillSlot_timer (s : State) (c : Option (Fin 3)) :
    (s.fillSlot c).timer = s.timer := by
  unfold State.fillSlot; split <;> simp

@[simp] theorem State.fillSlot_cu (s : State) (c : Option (Fin 3)) :
    (s.fillSlot c).cu = s.cu := by
  unfold State.fillSlot; split <;> simp

@[simp] theorem State.fillSlot_pending (s : State) (c : Option (Fin 3)) :
    (s.fillSlot c).pending = s.pending := by
  unfold State.fillSlot; split <;> simp

/-! ## freshFrame -/

@[simp] theorem State.freshFrame_resetN (s : State) (c : Option (Fin 3)) :
    (s.freshFrame c).resetN = s.resetN := rfl

@[simp] theorem State.freshFrame_bridge (s : State) (c : Option (Fin 3)) :
    (s.freshFrame c).bridge = s.bridge := rfl

@[simp] theorem State.freshFrame_port (s : State) (c : Option (Fin 3)) :
    (s.freshFrame c).port = s.port := rfl

@[simp] theorem State.freshFrame_slots (s : State) (c : Option (Fin 3)) :
    (s.freshFrame c).slots = s.slots := rfl

@[simp] theorem State.freshFrame_enh (s : State) (c : Option (Fin 3)) :
    (s.freshFrame c).enh = s.enh := rfl

@[simp] theorem State.freshFrame_comp (s : State) (c : Option (Fin 3)) :
    (s.freshFrame c).comp = s.comp := rfl

@[simp] theorem State.freshFrame_view (s : State) (c : Option (Fin 3)) :
    (s.freshFrame c).view = s.view := rfl

@[simp] theorem State.freshFrame_store (s : State) (c : Option (Fin 3)) :
    (s.freshFrame c).store = s.store := rfl

@[simp] theorem State.freshFrame_timer (s : State) (c : Option (Fin 3)) :
    (s.freshFrame c).timer = s.timer := rfl

@[simp] theorem State.freshFrame_cu (s : State) (c : Option (Fin 3)) :
    (s.freshFrame c).cu = s.cu := rfl

@[simp] theorem State.freshFrame_pending (s : State) (c : Option (Fin 3)) :
    (s.freshFrame c).pending = s.pending := rfl

/-! ## frameStart -/

@[simp] theorem State.frameStart_resetN (s : State) :
    (s.frameStart).resetN = s.resetN := by
  simp [State.frameStart]

@[simp] theorem State.frameStart_bridge (s : State) :
    (s.frameStart).bridge = s.bridge := by
  simp [State.frameStart]

@[simp] theorem State.frameStart_store (s : State) :
    (s.frameStart).store = s.store := by
  simp [State.frameStart]

@[simp] theorem State.frameStart_pending (s : State) :
    (s.frameStart).pending = s.pending := by
  simp [State.frameStart]

/-! ## markBroken -/

@[simp] theorem State.markBroken_resetN (s : State) :
    (s.markBroken).resetN = s.resetN := by
  simp only [State.markBroken]; repeat' (first | rfl | (simp; done) | split)

@[simp] theorem State.markBroken_bridge (s : State) :
    (s.markBroken).bridge = s.bridge := by
  simp only [State.markBroken]; repeat' (first | rfl | (simp; done) | split)

@[simp] theorem State.markBroken_port (s : State) :
    (s.markBroken).port = s.port := by
  simp only [State.markBroken]; repeat' (first | rfl | (simp; done) | split)

@[simp] theorem State.markBroken_asm (s : State) :
    (s.markBroken).asm = s.asm := by
  simp only [State.markBroken]; repeat' (first | rfl | (simp; done) | split)

@[simp] theorem State.markBroken_enh (s : State) :
    (s.markBroken).enh = s.enh := by
  simp only [State.markBroken]; repeat' (first | rfl | (simp; done) | split)

@[simp] theorem State.markBroken_comp (s : State) :
    (s.markBroken).comp = s.comp := by
  simp only [State.markBroken]; repeat' (first | rfl | (simp; done) | split)

@[simp] theorem State.markBroken_view (s : State) :
    (s.markBroken).view = s.view := by
  simp only [State.markBroken]; repeat' (first | rfl | (simp; done) | split)

@[simp] theorem State.markBroken_store (s : State) :
    (s.markBroken).store = s.store := by
  simp only [State.markBroken]; repeat' (first | rfl | (simp; done) | split)

@[simp] theorem State.markBroken_timer (s : State) :
    (s.markBroken).timer = s.timer := by
  simp only [State.markBroken]; repeat' (first | rfl | (simp; done) | split)

@[simp] theorem State.markBroken_cu (s : State) :
    (s.markBroken).cu = s.cu := by
  simp only [State.markBroken]; repeat' (first | rfl | (simp; done) | split)

@[simp] theorem State.markBroken_pending (s : State) :
    (s.markBroken).pending = s.pending := by
  simp only [State.markBroken]; repeat' (first | rfl | (simp; done) | split)

/-! ## frameCompletes -/

@[simp] theorem State.frameCompletes_resetN (s : State) (i : Fin 3) :
    (s.frameCompletes i).resetN = s.resetN := by
  simp only [State.frameCompletes]; split <;> simp

@[simp] theorem State.frameCompletes_bridge (s : State) (i : Fin 3) :
    (s.frameCompletes i).bridge = s.bridge := by
  simp only [State.frameCompletes]; split <;> simp

@[simp] theorem State.frameCompletes_port (s : State) (i : Fin 3) :
    (s.frameCompletes i).port = s.port := by
  simp only [State.frameCompletes]; split <;> simp

@[simp] theorem State.frameCompletes_comp (s : State) (i : Fin 3) :
    (s.frameCompletes i).comp = s.comp := by
  simp only [State.frameCompletes]; split <;> simp

@[simp] theorem State.frameCompletes_view (s : State) (i : Fin 3) :
    (s.frameCompletes i).view = s.view := by
  simp only [State.frameCompletes]; split <;> simp

@[simp] theorem State.frameCompletes_store (s : State) (i : Fin 3) :
    (s.frameCompletes i).store = s.store := by
  simp only [State.frameCompletes]; split <;> simp

@[simp] theorem State.frameCompletes_timer (s : State) (i : Fin 3) :
    (s.frameCompletes i).timer = s.timer := by
  simp only [State.frameCompletes]; split <;> simp

@[simp] theorem State.frameCompletes_cu (s : State) (i : Fin 3) :
    (s.frameCompletes i).cu = s.cu := by
  simp only [State.frameCompletes]; split <;> simp

@[simp] theorem State.frameCompletes_pending (s : State) (i : Fin 3) :
    (s.frameCompletes i).pending = s.pending := by
  simp only [State.frameCompletes]; split <;> simp

/-! ## completeIfBoth -/

@[simp] theorem State.completeIfBoth_resetN (s : State) :
    (s.completeIfBoth).resetN = s.resetN := by
  unfold State.completeIfBoth; repeat' (first | rfl | (simp; done) | split)

@[simp] theorem State.completeIfBoth_bridge (s : State) :
    (s.completeIfBoth).bridge = s.bridge := by
  unfold State.completeIfBoth; repeat' (first | rfl | (simp; done) | split)

@[simp] theorem State.completeIfBoth_port (s : State) :
    (s.completeIfBoth).port = s.port := by
  unfold State.completeIfBoth; repeat' (first | rfl | (simp; done) | split)

@[simp] theorem State.completeIfBoth_comp (s : State) :
    (s.completeIfBoth).comp = s.comp := by
  unfold State.completeIfBoth; repeat' (first | rfl | (simp; done) | split)

@[simp] theorem State.completeIfBoth_view (s : State) :
    (s.completeIfBoth).view = s.view := by
  unfold State.completeIfBoth; repeat' (first | rfl | (simp; done) | split)

@[simp] theorem State.completeIfBoth_store (s : State) :
    (s.completeIfBoth).store = s.store := by
  unfold State.completeIfBoth; repeat' (first | rfl | (simp; done) | split)

@[simp] theorem State.completeIfBoth_timer (s : State) :
    (s.completeIfBoth).timer = s.timer := by
  unfold State.completeIfBoth; repeat' (first | rfl | (simp; done) | split)

@[simp] theorem State.completeIfBoth_cu (s : State) :
    (s.completeIfBoth).cu = s.cu := by
  unfold State.completeIfBoth; repeat' (first | rfl | (simp; done) | split)

@[simp] theorem State.completeIfBoth_pending (s : State) :
    (s.completeIfBoth).pending = s.pending := by
  unfold State.completeIfBoth; repeat' (first | rfl | (simp; done) | split)

/-! ## checkLumaHalf -/

@[simp] theorem State.checkLumaHalf_resetN (s : State) :
    (s.checkLumaHalf).resetN = s.resetN := by
  unfold State.checkLumaHalf; split <;> simp

@[simp] theorem State.checkLumaHalf_bridge (s : State) :
    (s.checkLumaHalf).bridge = s.bridge := by
  unfold State.checkLumaHalf; split <;> simp

@[simp] theorem State.checkLumaHalf_port (s : State) :
    (s.checkLumaHalf).port = s.port := by
  unfold State.checkLumaHalf; split <;> simp

@[simp] theorem State.checkLumaHalf_comp (s : State) :
    (s.checkLumaHalf).comp = s.comp := by
  unfold State.checkLumaHalf; split <;> simp

@[simp] theorem State.checkLumaHalf_view (s : State) :
    (s.checkLumaHalf).view = s.view := by
  unfold State.checkLumaHalf; split <;> simp

@[simp] theorem State.checkLumaHalf_store (s : State) :
    (s.checkLumaHalf).store = s.store := by
  unfold State.checkLumaHalf; split <;> simp

@[simp] theorem State.checkLumaHalf_timer (s : State) :
    (s.checkLumaHalf).timer = s.timer := by
  unfold State.checkLumaHalf; split <;> simp

@[simp] theorem State.checkLumaHalf_cu (s : State) :
    (s.checkLumaHalf).cu = s.cu := by
  unfold State.checkLumaHalf; split <;> simp

@[simp] theorem State.checkLumaHalf_pending (s : State) :
    (s.checkLumaHalf).pending = s.pending := by
  unfold State.checkLumaHalf; split <;> simp

/-! ## recordChroma -/

@[simp] theorem State.recordChroma_resetN (s : State) :
    (s.recordChroma).resetN = s.resetN := by
  unfold State.recordChroma; split <;> simp

@[simp] theorem State.recordChroma_bridge (s : State) :
    (s.recordChroma).bridge = s.bridge := by
  unfold State.recordChroma; split <;> simp

@[simp] theorem State.recordChroma_port (s : State) :
    (s.recordChroma).port = s.port := by
  unfold State.recordChroma; split <;> simp

@[simp] theorem State.recordChroma_comp (s : State) :
    (s.recordChroma).comp = s.comp := by
  unfold State.recordChroma; split <;> simp

@[simp] theorem State.recordChroma_view (s : State) :
    (s.recordChroma).view = s.view := by
  unfold State.recordChroma; split <;> simp

@[simp] theorem State.recordChroma_store (s : State) :
    (s.recordChroma).store = s.store := by
  unfold State.recordChroma; split <;> simp

@[simp] theorem State.recordChroma_timer (s : State) :
    (s.recordChroma).timer = s.timer := by
  unfold State.recordChroma; split <;> simp

@[simp] theorem State.recordChroma_cu (s : State) :
    (s.recordChroma).cu = s.cu := by
  unfold State.recordChroma; split <;> simp

@[simp] theorem State.recordChroma_pending (s : State) :
    (s.recordChroma).pending = s.pending := by
  unfold State.recordChroma; split <;> simp

/-! ## lineCompleted -/

@[simp] theorem State.lineCompleted_resetN (s : State) (m : Nat) :
    (s.lineCompleted m).resetN = s.resetN := by
  simp [State.lineCompleted]

@[simp] theorem State.lineCompleted_bridge (s : State) (m : Nat) :
    (s.lineCompleted m).bridge = s.bridge := by
  simp [State.lineCompleted]

@[simp] theorem State.lineCompleted_enh (s : State) (m : Nat) :
    (s.lineCompleted m).enh = s.enh := by
  simp [State.lineCompleted]

@[simp] theorem State.lineCompleted_comp (s : State) (m : Nat) :
    (s.lineCompleted m).comp = s.comp := by
  simp [State.lineCompleted]

@[simp] theorem State.lineCompleted_pending (s : State) (m : Nat) :
    (s.lineCompleted m).pending = s.pending := by
  simp [State.lineCompleted]

/-! ## takeWord -/

@[simp] theorem State.takeWord_resetN (s : State) (w : Word) :
    (s.takeWord w).resetN = s.resetN := by
  simp only [State.takeWord]; split <;> split <;> simp

@[simp] theorem State.takeWord_bridge (s : State) (w : Word) :
    (s.takeWord w).bridge = s.bridge := by
  simp only [State.takeWord]; split <;> split <;> simp

@[simp] theorem State.takeWord_enh (s : State) (w : Word) :
    (s.takeWord w).enh = s.enh := by
  simp only [State.takeWord]; split <;> split <;> simp

@[simp] theorem State.takeWord_comp (s : State) (w : Word) :
    (s.takeWord w).comp = s.comp := by
  simp only [State.takeWord]; split <;> split <;> simp

@[simp] theorem State.takeWord_pending (s : State) (w : Word) :
    (s.takeWord w).pending = s.pending := by
  simp only [State.takeWord]; split <;> split <;> simp

/-! ## pieceLineEvent -/

@[simp] theorem State.pieceLineEvent_resetN (s : State) (o n : Nat) :
    (s.pieceLineEvent o n).resetN = s.resetN := by
  unfold State.pieceLineEvent; split <;> simp

@[simp] theorem State.pieceLineEvent_bridge (s : State) (o n : Nat) :
    (s.pieceLineEvent o n).bridge = s.bridge := by
  unfold State.pieceLineEvent; split <;> simp

@[simp] theorem State.pieceLineEvent_asm (s : State) (o n : Nat) :
    (s.pieceLineEvent o n).asm = s.asm := by
  unfold State.pieceLineEvent; split <;> simp

@[simp] theorem State.pieceLineEvent_enh (s : State) (o n : Nat) :
    (s.pieceLineEvent o n).enh = s.enh := by
  unfold State.pieceLineEvent; split <;> simp

@[simp] theorem State.pieceLineEvent_comp (s : State) (o n : Nat) :
    (s.pieceLineEvent o n).comp = s.comp := by
  unfold State.pieceLineEvent; split <;> simp

@[simp] theorem State.pieceLineEvent_pending (s : State) (o n : Nat) :
    (s.pieceLineEvent o n).pending = s.pending := by
  unfold State.pieceLineEvent; split <;> simp

/-! ## takeRaw -/

@[simp] theorem State.takeRaw_resetN (s : State) (i : Fin 4) (o : Nat) (bs : List Beat) :
    (s.takeRaw i o bs).resetN = s.resetN := by
  simp only [State.takeRaw]; split <;> simp

@[simp] theorem State.takeRaw_bridge (s : State) (i : Fin 4) (o : Nat) (bs : List Beat) :
    (s.takeRaw i o bs).bridge = s.bridge := by
  simp only [State.takeRaw]; split <;> simp

@[simp] theorem State.takeRaw_enh (s : State) (i : Fin 4) (o : Nat) (bs : List Beat) :
    (s.takeRaw i o bs).enh = s.enh := by
  simp only [State.takeRaw]; split <;> simp

@[simp] theorem State.takeRaw_comp (s : State) (i : Fin 4) (o : Nat) (bs : List Beat) :
    (s.takeRaw i o bs).comp = s.comp := by
  simp only [State.takeRaw]; split <;> simp

@[simp] theorem State.takeRaw_pending (s : State) (i : Fin 4) (o : Nat) (bs : List Beat) :
    (s.takeRaw i o bs).pending = s.pending := by
  simp only [State.takeRaw]; split <;> simp

/-! ## trackDropped -/

@[simp] theorem State.trackDropped_resetN (s : State) (o n : Nat) :
    (s.trackDropped o n).resetN = s.resetN := by
  simp [State.trackDropped]

@[simp] theorem State.trackDropped_bridge (s : State) (o n : Nat) :
    (s.trackDropped o n).bridge = s.bridge := by
  simp [State.trackDropped]

@[simp] theorem State.trackDropped_enh (s : State) (o n : Nat) :
    (s.trackDropped o n).enh = s.enh := by
  simp [State.trackDropped]

@[simp] theorem State.trackDropped_comp (s : State) (o n : Nat) :
    (s.trackDropped o n).comp = s.comp := by
  simp [State.trackDropped]

@[simp] theorem State.trackDropped_pending (s : State) (o n : Nat) :
    (s.trackDropped o n).pending = s.pending := by
  simp [State.trackDropped]

/-! ## sequenceBreak -/

@[simp] theorem State.sequenceBreak_resetN (s : State) :
    (s.sequenceBreak).resetN = s.resetN := by
  simp [State.sequenceBreak]

@[simp] theorem State.sequenceBreak_bridge (s : State) :
    (s.sequenceBreak).bridge = s.bridge := by
  simp [State.sequenceBreak]

@[simp] theorem State.sequenceBreak_port (s : State) :
    (s.sequenceBreak).port = s.port := by
  simp [State.sequenceBreak]

@[simp] theorem State.sequenceBreak_comp (s : State) :
    (s.sequenceBreak).comp = s.comp := by
  simp [State.sequenceBreak]

@[simp] theorem State.sequenceBreak_view (s : State) :
    (s.sequenceBreak).view = s.view := by
  simp [State.sequenceBreak]

@[simp] theorem State.sequenceBreak_store (s : State) :
    (s.sequenceBreak).store = s.store := by
  simp [State.sequenceBreak]

@[simp] theorem State.sequenceBreak_timer (s : State) :
    (s.sequenceBreak).timer = s.timer := by
  simp [State.sequenceBreak]

@[simp] theorem State.sequenceBreak_cu (s : State) :
    (s.sequenceBreak).cu = s.cu := by
  simp [State.sequenceBreak]

@[simp] theorem State.sequenceBreak_pending (s : State) :
    (s.sequenceBreak).pending = s.pending := by
  simp [State.sequenceBreak]

/-! ## itemCounts -/

@[simp] theorem State.itemCounts_resetN (s : State) (x : WorkItem) :
    (s.itemCounts x).resetN = s.resetN := by
  unfold State.itemCounts; repeat' (first | rfl | (simp; done) | split)

@[simp] theorem State.itemCounts_bridge (s : State) (x : WorkItem) :
    (s.itemCounts x).bridge = s.bridge := by
  unfold State.itemCounts; repeat' (first | rfl | (simp; done) | split)

@[simp] theorem State.itemCounts_port (s : State) (x : WorkItem) :
    (s.itemCounts x).port = s.port := by
  unfold State.itemCounts; repeat' (first | rfl | (simp; done) | split)

@[simp] theorem State.itemCounts_asm (s : State) (x : WorkItem) :
    (s.itemCounts x).asm = s.asm := by
  unfold State.itemCounts; repeat' (first | rfl | (simp; done) | split)

@[simp] theorem State.itemCounts_slots (s : State) (x : WorkItem) :
    (s.itemCounts x).slots = s.slots := by
  unfold State.itemCounts; repeat' (first | rfl | (simp; done) | split)

@[simp] theorem State.itemCounts_comp (s : State) (x : WorkItem) :
    (s.itemCounts x).comp = s.comp := by
  unfold State.itemCounts; repeat' (first | rfl | (simp; done) | split)

@[simp] theorem State.itemCounts_view (s : State) (x : WorkItem) :
    (s.itemCounts x).view = s.view := by
  unfold State.itemCounts; repeat' (first | rfl | (simp; done) | split)

@[simp] theorem State.itemCounts_store (s : State) (x : WorkItem) :
    (s.itemCounts x).store = s.store := by
  unfold State.itemCounts; repeat' (first | rfl | (simp; done) | split)

@[simp] theorem State.itemCounts_timer (s : State) (x : WorkItem) :
    (s.itemCounts x).timer = s.timer := by
  unfold State.itemCounts; repeat' (first | rfl | (simp; done) | split)

@[simp] theorem State.itemCounts_cu (s : State) (x : WorkItem) :
    (s.itemCounts x).cu = s.cu := by
  unfold State.itemCounts; repeat' (first | rfl | (simp; done) | split)

@[simp] theorem State.itemCounts_pending (s : State) (x : WorkItem) :
    (s.itemCounts x).pending = s.pending := by
  unfold State.itemCounts; repeat' (first | rfl | (simp; done) | split)

/-! ## takeHeldRaw -/

/-- A held piece is the one that goes on. -/
theorem State.resume_of {s : State} {t : Txn} {p : Piece} {ps : List Piece} {taken : Nat}
    (ht : s.bridge.txn = some t) (hst : t.stage = .held taken) (hp : t.pieces = p :: ps) :
    s.resume = s.resumeHeld t p taken := by
  simp [State.resume, ht, hst, hp]

/-- With no piece held nothing goes on. -/
theorem State.resume_of_not_held {s : State}
    (h : ∀ t taken, s.bridge.txn = some t → t.stage ≠ .held taken) : s.resume = s := by
  unfold State.resume
  split
  · next t ht =>
    split
    · next hst _ => exact absurd hst (h t _ ht)
    · rfl
  · rfl

/-- What taking a held raw piece can do: nothing, or the front piece of the transaction is held in a RAW frame,
an entry is free, and the piece is taken into the first free one and ends (R45). -/
theorem State.takeHeldRaw_cases (s : State) :
    s.takeHeldRaw = s
      ∨ ∃ t p ps taken i, s.bridge.txn = some t ∧ t.pieces = p :: ps ∧ t.stage = .held taken
          ∧ s.asm.mode = .raw ∧ s.asm.freeEntry = some i
          ∧ s.takeHeldRaw =
              (s.takeRaw i (s.apertureOffset t p) (pieceBeats t.burst p)).finishPiece [] false := by
  unfold State.takeHeldRaw
  split
  next hm =>
    unfold State.resume
    split
    next t ht =>
      split
      next taken p ps hst hps =>
        cases hf : s.asm.freeEntry with
        | none => left; simp [State.resumeHeld, hm, hf]
        | some i =>
          exact .inr ⟨t, p, ps, taken, i, ht, hps, hst, hm, rfl, by
            simp [State.resumeHeld, State.rawLuma, hm, hf]⟩
      next => exact .inl rfl
    next => exact .inl rfl
  next => exact .inl rfl

/-- Outside a RAW frame no held piece is taken at the finish of an item (R39). -/
theorem State.takeHeldRaw_of_not_raw {s : State} (h : s.asm.mode ≠ .raw) : s.takeHeldRaw = s := by
  simp [State.takeHeldRaw, h]

/-- With no piece held nothing is taken. -/
theorem State.takeHeldRaw_of_not_held {s : State}
    (h : ∀ t taken, s.bridge.txn = some t → t.stage ≠ .held taken) : s.takeHeldRaw = s := by
  obtain e | ⟨t, _, _, k, _, ht, _, hst, _⟩ := s.takeHeldRaw_cases
  · exact e
  · exact absurd hst (h t k ht)

@[simp] theorem State.takeHeldRaw_resetN (s : State) : s.takeHeldRaw.resetN = s.resetN := by
  obtain e | ⟨_, _, _, _, _, _, _, _, _, _, e⟩ := s.takeHeldRaw_cases <;> simp [e]

@[simp] theorem State.takeHeldRaw_enh (s : State) : s.takeHeldRaw.enh = s.enh := by
  obtain e | ⟨_, _, _, _, _, _, _, _, _, _, e⟩ := s.takeHeldRaw_cases <;> simp [e]

@[simp] theorem State.takeHeldRaw_comp (s : State) : s.takeHeldRaw.comp = s.comp := by
  obtain e | ⟨_, _, _, _, _, _, _, _, _, _, e⟩ := s.takeHeldRaw_cases <;> simp [e]

@[simp] theorem State.takeHeldRaw_pending (s : State) : s.takeHeldRaw.pending = s.pending := by
  obtain e | ⟨_, _, _, _, _, _, _, _, _, _, e⟩ := s.takeHeldRaw_cases <;> simp [e]

/-! ## finishItem -/

@[simp] theorem State.finishItem_resetN (s : State) :
    (s.finishItem).resetN = s.resetN := by
  unfold State.finishItem; split <;> simp

@[simp] theorem State.finishItem_comp (s : State) :
    (s.finishItem).comp = s.comp := by
  unfold State.finishItem; split <;> simp

@[simp] theorem State.finishItem_pending (s : State) :
    (s.finishItem).pending = s.pending := by
  unfold State.finishItem; split <;> simp

/-! ## lineWrites -/

@[simp] theorem State.lineWrites_resetN (s : State) (ws : List Burst) :
    (s.lineWrites ws).resetN = s.resetN := by
  unfold State.lineWrites; split <;> simp

@[simp] theorem State.lineWrites_comp (s : State) (ws : List Burst) :
    (s.lineWrites ws).comp = s.comp := by
  unfold State.lineWrites; split <;> simp

@[simp] theorem State.lineWrites_pending (s : State) (ws : List Burst) :
    (s.lineWrites ws).pending = s.pending := by
  unfold State.lineWrites; split <;> simp

/-! ## beginItem -/

@[simp] theorem State.beginItem_resetN (s : State) (x : WorkItem) :
    (s.beginItem x).resetN = s.resetN := by
  simp [State.beginItem]

@[simp] theorem State.beginItem_comp (s : State) (x : WorkItem) :
    (s.beginItem x).comp = s.comp := by
  simp [State.beginItem]

@[simp] theorem State.beginItem_pending (s : State) (x : WorkItem) :
    (s.beginItem x).pending = s.pending := by
  simp [State.beginItem]

end Sys2Proof.Machine
end

