-- ==== Sys2Proof/Laws/PerInstr.lean ====
section
/-! SUPPORT. The form of each command's operands, one lemma a constructor. -/

set_option Elab.async false

namespace Sys2Proof.Laws

/-- A command is well-formed exactly when the answer it carries has at most 8 words and the burst it carries
has the form of the port (00_scope.md, Signals). -/
def OperandForm.Statement (i : Instr) : Prop :=
  i.wf = true ↔
    (∀ a, i.answer = some a → a.words.length ≤ 8)
      ∧ ∀ b, i = .transactionAccept b →
          b.addr % 4 = 0 ∧ b.addr < memoryTop ∧ 1 ≤ b.len ∧ b.len ≤ 8

theorem OperandForm.resetNFall : OperandForm.Statement .resetNFall := by
  simp [OperandForm.Statement, Instr.wf, Instr.answer]

theorem OperandForm.resetNRise (straps : BitVec 2) : OperandForm.Statement (.resetNRise straps) := by
  simp [OperandForm.Statement, Instr.wf, Instr.answer]

theorem OperandForm.reloadReadAnswer (a : Answer) : OperandForm.Statement (.reloadReadAnswer a) := by
  simp [OperandForm.Statement, Instr.wf, Instr.answer, Answer.wf]

theorem OperandForm.transactionAccept (b : Burst) : OperandForm.Statement (.transactionAccept b) := by
  simp [OperandForm.Statement, Instr.wf, Instr.answer, Burst.wf, and_assoc]

theorem OperandForm.passThroughPiece : OperandForm.Statement .passThroughPiece := by
  simp [OperandForm.Statement, Instr.wf, Instr.answer]

theorem OperandForm.passThroughAnswer (a : Answer) : OperandForm.Statement (.passThroughAnswer a) := by
  simp [OperandForm.Statement, Instr.wf, Instr.answer, Answer.wf]

theorem OperandForm.controlPageWrite : OperandForm.Statement .controlPageWrite := by
  simp [OperandForm.Statement, Instr.wf, Instr.answer]

theorem OperandForm.openControl : OperandForm.Statement .openControl := by
  simp [OperandForm.Statement, Instr.wf, Instr.answer]

theorem OperandForm.closeControl : OperandForm.Statement .closeControl := by
  simp [OperandForm.Statement, Instr.wf, Instr.answer]

theorem OperandForm.restart : OperandForm.Statement .restart := by
  simp [OperandForm.Statement, Instr.wf, Instr.answer]

theorem OperandForm.commandPointer : OperandForm.Statement .commandPointer := by
  simp [OperandForm.Statement, Instr.wf, Instr.answer]

theorem OperandForm.statusWord : OperandForm.Statement .statusWord := by
  simp [OperandForm.Statement, Instr.wf, Instr.answer]

theorem OperandForm.captureLumaPiece : OperandForm.Statement .captureLumaPiece := by
  simp [OperandForm.Statement, Instr.wf, Instr.answer]

theorem OperandForm.heldPieceResume : OperandForm.Statement .heldPieceResume := by
  simp [OperandForm.Statement, Instr.wf, Instr.answer]

theorem OperandForm.captureChromaPiece : OperandForm.Statement .captureChromaPiece := by
  simp [OperandForm.Statement, Instr.wf, Instr.answer]

theorem OperandForm.apertureReadPiece : OperandForm.Statement .apertureReadPiece := by
  simp [OperandForm.Statement, Instr.wf, Instr.answer]

theorem OperandForm.displayReadPiece : OperandForm.Statement .displayReadPiece := by
  simp [OperandForm.Statement, Instr.wf, Instr.answer]

theorem OperandForm.composerFetchAnswer (a : Answer) : OperandForm.Statement (.composerFetchAnswer a) := by
  simp [OperandForm.Statement, Instr.wf, Instr.answer, Answer.wf]

theorem OperandForm.memoryPortGrant : OperandForm.Statement .memoryPortGrant := by
  simp [OperandForm.Statement, Instr.wf, Instr.answer]

theorem OperandForm.emission : OperandForm.Statement .emission := by
  simp [OperandForm.Statement, Instr.wf, Instr.answer]

theorem OperandForm.lineWriteAnswer (a : Answer) : OperandForm.Statement (.lineWriteAnswer a) := by
  simp [OperandForm.Statement, Instr.wf, Instr.answer, Answer.wf]

theorem OperandForm.packetFetch (a : Answer) : OperandForm.Statement (.packetFetch a) := by
  simp [OperandForm.Statement, Instr.wf, Instr.answer, Answer.wf]

theorem OperandForm.setup : OperandForm.Statement .setup := by
  simp [OperandForm.Statement, Instr.wf, Instr.answer]

theorem OperandForm.setupBlockReadAnswer (a : Answer) : OperandForm.Statement (.setupBlockReadAnswer a) := by
  simp [OperandForm.Statement, Instr.wf, Instr.answer, Answer.wf]

theorem OperandForm.mountScanReadAnswer (a : Answer) : OperandForm.Statement (.mountScanReadAnswer a) := by
  simp [OperandForm.Statement, Instr.wf, Instr.answer, Answer.wf]

theorem OperandForm.deferredMountScan : OperandForm.Statement .deferredMountScan := by
  simp [OperandForm.Statement, Instr.wf, Instr.answer]

theorem OperandForm.status : OperandForm.Statement .status := by
  simp [OperandForm.Statement, Instr.wf, Instr.answer]

theorem OperandForm.statusClear : OperandForm.Statement .statusClear := by
  simp [OperandForm.Statement, Instr.wf, Instr.answer]

theorem OperandForm.view : OperandForm.Statement .view := by
  simp [OperandForm.Statement, Instr.wf, Instr.answer]

theorem OperandForm.viewPush : OperandForm.Statement .viewPush := by
  simp [OperandForm.Statement, Instr.wf, Instr.answer]

theorem OperandForm.viewPop : OperandForm.Statement .viewPop := by
  simp [OperandForm.Statement, Instr.wf, Instr.answer]

theorem OperandForm.viewPageHeaderRead (a : Answer) : OperandForm.Statement (.viewPageHeaderRead a) := by
  simp [OperandForm.Statement, Instr.wf, Instr.answer, Answer.wf]

theorem OperandForm.viewPopHeaderRead (a : Answer) : OperandForm.Statement (.viewPopHeaderRead a) := by
  simp [OperandForm.Statement, Instr.wf, Instr.answer, Answer.wf]

theorem OperandForm.record : OperandForm.Statement .record := by
  simp [OperandForm.Statement, Instr.wf, Instr.answer]

theorem OperandForm.mark : OperandForm.Statement .mark := by
  simp [OperandForm.Statement, Instr.wf, Instr.answer]

theorem OperandForm.copyTransactionAnswer (a : Answer) : OperandForm.Statement (.copyTransactionAnswer a) := by
  simp [OperandForm.Statement, Instr.wf, Instr.answer, Answer.wf]

theorem OperandForm.commit (a : Answer) : OperandForm.Statement (.commit a) := by
  simp [OperandForm.Statement, Instr.wf, Instr.answer, Answer.wf]

theorem OperandForm.storeClear : OperandForm.Statement .storeClear := by
  simp [OperandForm.Statement, Instr.wf, Instr.answer]

theorem OperandForm.storeClearWriteAnswer (a : Answer) : OperandForm.Statement (.storeClearWriteAnswer a) := by
  simp [OperandForm.Statement, Instr.wf, Instr.answer, Answer.wf]

theorem OperandForm.storeProtect : OperandForm.Statement .storeProtect := by
  simp [OperandForm.Statement, Instr.wf, Instr.answer]

theorem OperandForm.stepFwd : OperandForm.Statement .stepFwd := by
  simp [OperandForm.Statement, Instr.wf, Instr.answer]

theorem OperandForm.stepRev : OperandForm.Statement .stepRev := by
  simp [OperandForm.Statement, Instr.wf, Instr.answer]

theorem OperandForm.skipFwd : OperandForm.Statement .skipFwd := by
  simp [OperandForm.Statement, Instr.wf, Instr.answer]

theorem OperandForm.skipRev : OperandForm.Statement .skipRev := by
  simp [OperandForm.Statement, Instr.wf, Instr.answer]

theorem OperandForm.rewind : OperandForm.Statement .rewind := by
  simp [OperandForm.Statement, Instr.wf, Instr.answer]

theorem OperandForm.toEnd : OperandForm.Statement .toEnd := by
  simp [OperandForm.Statement, Instr.wf, Instr.answer]

theorem OperandForm.traversalReadAnswer (a : Answer) : OperandForm.Statement (.traversalReadAnswer a) := by
  simp [OperandForm.Statement, Instr.wf, Instr.answer, Answer.wf]

theorem OperandForm.advanceReadAnswer (a : Answer) : OperandForm.Statement (.advanceReadAnswer a) := by
  simp [OperandForm.Statement, Instr.wf, Instr.answer, Answer.wf]

theorem OperandForm.triggers : OperandForm.Statement .triggers := by
  simp [OperandForm.Statement, Instr.wf, Instr.answer]

theorem OperandForm.triggerListReadAnswer (a : Answer) : OperandForm.Statement (.triggerListReadAnswer a) := by
  simp [OperandForm.Statement, Instr.wf, Instr.answer, Answer.wf]

theorem OperandForm.watchExpiry : OperandForm.Statement .watchExpiry := by
  simp [OperandForm.Statement, Instr.wf, Instr.answer]

theorem OperandForm.messageWriteAnswer (a : Answer) : OperandForm.Statement (.messageWriteAnswer a) := by
  simp [OperandForm.Statement, Instr.wf, Instr.answer, Answer.wf]

theorem OperandForm.noticeWriteAnswer (a : Answer) : OperandForm.Statement (.noticeWriteAnswer a) := by
  simp [OperandForm.Statement, Instr.wf, Instr.answer, Answer.wf]

theorem OperandForm.localTimeAdvance : OperandForm.Statement .localTimeAdvance := by
  simp [OperandForm.Statement, Instr.wf, Instr.answer]

end Sys2Proof.Laws
end

