-- ==== Sys2Proof/Laws/Pieces.lean ====
section
/-! SUPPORT. What the end of a piece does, said once: the pieces behind it, the answer of the transaction, and the
pieces as the region map cuts them. -/

set_option Elab.async false

namespace Sys2Proof.Machine

/-! ## The region map -/

/-- The area of an address depends on the map's items alone. -/
theorem State.areaOf_congr {s t : State} (hr : t.bridge.run = s.bridge.run)
    (hs : t.bridge.straps = s.bridge.straps) (hg : t.bridge.regions = s.bridge.regions)
    (hsl : t.slots.wc = s.slots.wc ∧ t.slots.hc = s.slots.hc)
    (hv : t.comp.latch.set = s.comp.latch.set)
    (hst : t.store.base = s.store.base ∧ t.store.limit = s.store.limit)
    (hm : t.cu.msgAddr = s.cu.msgAddr) (addr : Nat) : t.areaOf addr = s.areaOf addr := by
  simp only [State.areaOf, State.apertureSpan, State.slotSpan, State.slotBase, State.windowSpan,
    State.storeSpan, State.messageSpan, hr, hs, hg, hsl.1, hsl.2, hv, hst.1, hst.2, hm]
  rfl

@[simp] theorem State.countDiscard_areaOf (s : State) (addr : Nat) :
    s.countDiscard.areaOf addr = s.areaOf addr :=
  State.areaOf_congr (by simp [State.countDiscard]) (by simp [State.countDiscard])
    (by simp [State.countDiscard]) (by simp) (by simp) (by simp) (by simp) addr

theorem State.countDiscard_bridge (s : State) :
    s.countDiscard.bridge = { s.bridge with guard := s.bridge.guard + 1 } := rfl

/-- The treatment of a piece depends on the region map, the protected flag, and burst and class of its
transaction. -/
theorem State.treatment_congr {s t : State} {x y : Txn} (p : Piece)
    (ha : ∀ addr, t.areaOf addr = s.areaOf addr) (hs : t.bridge.straps = s.bridge.straps)
    (hp : t.store.protect = s.store.protect) (hb : y.burst = x.burst) (hc : y.cls = x.cls) :
    t.treatment y p = s.treatment x p := by
  simp only [State.treatment, ha, hb, hc, hp, State.pageIndex, State.ctrlBase, hs]
  rfl

@[simp] theorem State.treatment_words (s : State) (x : Txn) (ps : List Piece) (st : Stage) (ws : List Word)
    (e : Bool) (p : Piece) :
    s.treatment { x with pieces := ps, stage := st, words := ws, error := e } p = s.treatment x p := rfl

theorem State.cut_congr {s t : State} (ha : ∀ addr, t.areaOf addr = s.areaOf addr) (b : Burst)
    (n first : Nat) : t.cut b first n = s.cut b first n := by
  induction n generalizing first with
  | zero => rfl
  | succ n ih => simp only [State.cut, ih, ha]

theorem State.recut_congr {s t : State} (ha : ∀ addr, t.areaOf addr = s.areaOf addr) (b : Burst)
    (ps : List Piece) : t.recut b ps = s.recut b ps := by
  simp only [State.recut, State.cut_congr ha]

/-! ## The end of a piece -/

theorem State.settlePieces_bridge_of (s : State) (x : Txn) (ps : List Piece) :
    ∃ ended rest, ps = ended ++ rest
      ∧ (∀ p ∈ ended, (s.treatment x p).atOnce = true)
      ∧ (∀ p, rest.head? = some p → (s.treatment x p).atOnce = false)
      ∧ (s.settlePieces x ps).bridge = s.bridgeAfter x ended rest := by
  induction ps generalizing s x with
  | nil =>
    refine ⟨[], [], rfl, by simp, by simp, ?_⟩
    simp [State.settlePieces, State.answerTxn, State.bridgeAfter]
  | cons p ps ih =>
    have hcong : ∀ (s' : State) (x' : Txn), (s' = s ∨ s' = s.countDiscard) → x'.burst = x.burst →
        x'.cls = x.cls → ∀ q, s'.treatment x' q = s.treatment x q := by
      rintro s' x' (rfl | rfl) hb hc q
      · exact State.treatment_congr q (fun _ => rfl) rfl rfl hb hc
      · exact State.treatment_congr q (fun _ => State.countDiscard_areaOf s _)
          (by simp [State.countDiscard]) (by simp) hb hc
    rw [State.settlePieces]
    split
    · next htr =>
      obtain ⟨e, r, rfl, he, hr, hbr⟩ :=
        ih s { x with words := x.words ++ endWords x.burst p, error := true }
      have hc := hcong s { x with words := x.words ++ endWords x.burst p, error := true } (.inl rfl) rfl rfl
      refine ⟨p :: e, r, rfl, ?_, ?_, ?_⟩
      · intro q hq
        rcases List.mem_cons.1 hq with rfl | hq
        · simp [htr, Treatment.atOnce]
        · rw [← hc]; exact he q hq
      · intro q hq; rw [← hc]; exact hr q hq
      · rw [hbr]
        simp [State.bridgeAfter, htr, endWords]
    · next htr =>
      obtain ⟨e, r, rfl, he, hr, hbr⟩ := ih s.countDiscard x
      have hc := hcong s.countDiscard x (.inr rfl) rfl rfl
      refine ⟨p :: e, r, rfl, ?_, ?_, ?_⟩
      · intro q hq
        rcases List.mem_cons.1 hq with rfl | hq
        · simp [htr, Treatment.atOnce]
        · rw [← hc]; exact he q hq
      · intro q hq; rw [← hc]; exact hr q hq
      · rw [hbr]
        simp [State.bridgeAfter, hc, htr, State.countDiscard_bridge, BitVec.add_assoc,
          BitVec.ofNat_add, BitVec.add_comm]
    · next h1 h2 =>
      refine ⟨[], p :: ps, rfl, by simp, ?_, ?_⟩
      · intro q hq
        simp only [List.head?_cons, Option.some.injEq] at hq
        subst hq
        cases hq : s.treatment x p <;> simp_all [Treatment.atOnce]
      · simp [State.bridgeAfter, State.setTxn]

/-- The pieces of a transaction are treated up to the first that waits (R5, R6). -/
theorem State.settle_spec (s : State) (x : Txn) : Settles s (s.settle x) x (s.recut x.burst x.pieces) := by
  obtain ⟨e, r, h, he, hr, hb⟩ := State.settlePieces_bridge_of s x (s.recut x.burst x.pieces)
  exact ⟨e, r, h, he, hr, hb⟩

/-- The front piece ends, and the pieces behind it follow (R5, R6). -/
theorem State.finishPiece_spec {s : State} {x : Txn} (h : s.bridge.txn = some x) (words : List Word)
    (error : Bool) : PieceEnds s (s.finishPiece words error) x words error := by
  unfold PieceEnds State.finishPiece
  rw [h]
  exact State.settle_spec s
    { x with pieces := x.pieces.tail, words := x.words ++ words, error := x.error || error }

/-- What the end of a piece does depends on the region map, the protected flag, and the bridge but for the
transaction in treatment. -/
theorem Settles.congr {s u t : State} {x : Txn} {ps : List Piece}
    (hb : u.bridge = { s.bridge with txn := u.bridge.txn })
    (hsl : u.slots.wc = s.slots.wc ∧ u.slots.hc = s.slots.hc)
    (hv : u.comp.latch.set = s.comp.latch.set)
    (hst : u.store.base = s.store.base ∧ u.store.limit = s.store.limit
      ∧ u.store.protect = s.store.protect)
    (hm : u.cu.msgAddr = s.cu.msgAddr) (h : Settles u t x ps) : Settles s t x ps := by
  have ha : ∀ addr, u.areaOf addr = s.areaOf addr :=
    State.areaOf_congr (by rw [hb]) (by rw [hb]) (by rw [hb]) hsl hv ⟨hst.1, hst.2.1⟩ hm
  have ht : ∀ p, u.treatment x p = s.treatment x p := fun p =>
    State.treatment_congr p ha (by rw [hb]) hst.2.2 rfl rfl
  obtain ⟨e, r, hps, he, hr, hbr⟩ := h
  refine ⟨e, r, hps, ?_, ?_, ?_⟩
  · intro p hp; rw [← ht]; exact he p hp
  · intro p hp; rw [← ht]; exact hr p hp
  · rw [hbr]
    simp only [State.bridgeAfter, ht]
    rw [hb]

theorem PieceEnds.congr {s u t : State} {x : Txn} {ws : List Word} {e : Bool}
    (hb : u.bridge = { s.bridge with txn := u.bridge.txn })
    (hsl : u.slots.wc = s.slots.wc ∧ u.slots.hc = s.slots.hc)
    (hv : u.comp.latch.set = s.comp.latch.set)
    (hst : u.store.base = s.store.base ∧ u.store.limit = s.store.limit
      ∧ u.store.protect = s.store.protect)
    (hm : u.cu.msgAddr = s.cu.msgAddr) (h : PieceEnds u t x ws e) : PieceEnds s t x ws e := by
  have ha : ∀ addr, u.areaOf addr = s.areaOf addr :=
    State.areaOf_congr (by rw [hb]) (by rw [hb]) (by rw [hb]) hsl hv ⟨hst.1, hst.2.1⟩ hm
  unfold PieceEnds at h ⊢
  rw [← State.recut_congr ha]
  exact h.congr hb hsl hv hst hm

end Sys2Proof.Machine
end

