-- ==== Sys2Proof/Tests/Slice0.lean ====
section
/-! SUPPORT. Tests: what WellFormed refuses, the worked examples of the spec, and for each statement of
Certificates/Slice0/Obligations.lean a state and operands that meet the hypotheses of each of its clauses. -/

set_option Elab.async false

namespace Sys2Proof.Tests

open Sys2Proof.Machine

/-! ## States -/

/-- The state after a command, or the state itself where the command stops. -/
def after (c : Instr) (s : State) : State :=
  match exec c s with
  | .next t => t
  | _ => s

/-- Right after a reload that found no setup block: BYPASS, control CLOSED. -/
def bypassed : State :=
  (State.reset.setResetN true).setCu { State.reset.cu with reloadResult := .invalid }

/-- In RUN with a small setup: 64 by 16 capture, 320 by 240 view, a store of 65,536 bytes; tag 0 is CONTROL,
tag 1 CAPTURE, tag 2 DISPLAY; the store is FORMATTED with a record of 36 bytes. -/
def running : State :=
  { bypassed with
    bridge := { bypassed.bridge with
      run := .run, classes := #v[.control, .capture, .display, .plain, .plain, .plain, .plain, .plain],
      regions :=
        { apertureBase := 0x1000, slotSize := 0x1000, slotBase := #v[0x2000, 0x3000, 0x4000],
          viewBase := 0x10000 } },
    slots := { bypassed.slots with wc := 64, hc := 16 },
    comp := { bypassed.comp with
      staged := { ViewSet.reset with wv := 320, hv := 240, kc := 1 },
      latch := { bypassed.comp.latch with set := { ViewSet.reset with wv := 320, hv := 240, kc := 1 } } },
    store := { bypassed.store with
      base := 0x100000, limit := 0x110000, formatted := true, eod := 36, serial := 1 },
    timer := { bypassed.timer with frameNumber := 9, interval := 1, signal := true },
    cu := { bypassed.cu with opened := true, reloadResult := .loaded } }

/-- Slot 0 is COMPLETE with a frame of the geometry in force, and held `n` times. -/
def filled (n : Nat) : SlotManager :=
  { running.slots with
    recs := running.slots.recs.set 0
      { state := .complete, gen := 3, frame := 8, wc := 64, hc := 16, broken := false, hold := n } }

/-- A frame in progress that fills slot 1, `k` bytes of its luma taken; slot 0 is COMPLETE. -/
def capturing (mode : FrameMode) (k : Nat) : State :=
  { running with
    slots := { filled 0 with
      recs := (filled 0).recs.set 1
        { state := .filling, gen := 1, frame := 9, wc := 64, hc := 16, broken := false, hold := 0 } },
    asm := { running.asm with
      frame := some { number := 9, slot := if mode = .dropped then none else some 1 }, mode := mode,
      wc := 64, hc := 16, ptr := k } }

/-- A packet of a command. -/
def packet (code modifier : Nat) (p1 p2 : Word) : Packet :=
  { code := code, modifier := modifier, ie := true, release := false, p1 := p1, p2 := p2, p3 := 0 }

/-- A command in progress at a stage. -/
def doing (s : State) (p : Packet) (st : CmdStage) : State :=
  s.setCu { s.cu with cmd := some { packet := some p, stage := st } }

/-- A command handed to its owning block. -/
def handed (s : State) (p : Packet) : State := doing s p .dispatched

/-- A transaction of a purpose has the memory port. -/
def asked (s : State) (p : Purpose) (b : Burst) : State :=
  s.setPort { s.port with granted := some { request := { purpose := p, burst := b }, live := true } }

/-- A read and a write of a master of the controller port. -/
def reading (tag : Fin 8) (addr n : Nat) : Burst := { tag := tag, addr := addr, body := .read n }

def writing (tag : Fin 8) (addr : Nat) (ws : List Word) : Burst :=
  { tag := tag, addr := addr, body := .write (fullBeats ws) }

/-- A transaction of the controller port in treatment. -/
def taking (s : State) (b : Burst) : State := after (.transactionAccept b) s

/-- A reload at a stage, with a read of `n` words granted. -/
def reloading (st : ReloadStage) (n : Nat) : State :=
  asked (bypassed.setCu { bypassed.cu with reloadResult := .none, reload := some st }) .reloadRead
    (reading 0 0x200000 n)

/-- The answers of the memory port. -/
def ok (ws : List Word) : Answer := { error := false, words := ws }

def bad (ws : List Word) : Answer := { error := true, words := ws }

/-- The transaction in treatment is at a stage. -/
def staged (s : State) (st : Stage) : State :=
  match s.bridge.txn with
  | some x => s.setTxn (some { x with stage := st })
  | none => s

/-! ## How a hypothesis is met -/

theorem hands_of {s : State} {n : Nat} {p : Packet} (h : s.awake = true ∧ s.dispatched n = some p) :
    s.hands n p := h

theorem replied_asked {s : State} {p : Purpose} {b : Burst} {a : Answer}
    (h : s.awake = true ∧ answerFits a b = true) : (asked s p b).replied p a :=
  ⟨h.1, b, rfl, h.2⟩

/-- Whether the front piece of a state awaits a treatment, and passes a test. -/
def frontIs (s : State) (tr : Treatment) (f : Txn → Piece → Bool) : Bool :=
  match s.front with
  | some (x, p, t) => s.awake && t == tr && f x p
  | none => false

theorem faces_of {s : State} {tr : Treatment} {f : Txn → Piece → Bool} (h : frontIs s tr f = true) :
    ∃ x p, s.faces x p tr ∧ f x p = true := by
  unfold frontIs at h
  split at h
  · next x p t hf =>
    simp only [Bool.and_eq_true, beq_iff_eq] at h
    obtain ⟨⟨ha, rfl⟩, hx⟩ := h
    exact ⟨x, p, ⟨ha, hf⟩, hx⟩
  · exact absurd h (by simp)

/-- Whether the next word to be reported passes a test of its index and beat. -/
def reportIs (s : State) (f : Txn → Nat → Beat → Bool) : Bool :=
  match s.reporting with
  | some (x, p, k) =>
    s.awake && f x ((wordAddr x.burst p.first - s.ctrlBase) / 4 + k)
      ((pieceBeats x.burst p).getD k { data := 0, be := 0 })
  | none => false

theorem reports_of {s : State} {f : Txn → Nat → Beat → Bool} (h : reportIs s f = true) :
    ∃ x p k i b, s.reports x p k i b ∧ f x i b = true := by
  unfold reportIs at h
  split at h
  · next x p k hr =>
    rw [Bool.and_eq_true] at h
    exact ⟨x, p, k, _, _, ⟨h.1, hr, rfl, rfl⟩, h.2⟩
  · exact absurd h (by simp)

/-- Whether the transaction in treatment passes a test. -/
def txnIs (s : State) (f : Txn → Bool) : Bool :=
  match s.bridge.txn with
  | some x => s.awake && f x
  | none => false

theorem txn_of {s : State} {f : Txn → Bool} (h : txnIs s f = true) :
    ∃ x, s.awake = true ∧ s.bridge.txn = some x ∧ f x = true := by
  unfold txnIs at h
  split at h
  · next x hx =>
    rw [Bool.and_eq_true] at h
    exact ⟨x, h.1, hx, h.2⟩
  · exact absurd h (by simp)

/-! ## WellFormed -/

theorem test_wf_address_alignment : (Instr.transactionAccept (reading 0 6 1)).wf = false := by decide

theorem test_wf_address_top :
    (Instr.transactionAccept (reading 0 0x1FFFFFC 8)).wf = true
      ∧ (Instr.transactionAccept (reading 0 0x2000000 1)).wf = false := by decide

theorem test_wf_length :
    (Instr.transactionAccept (reading 0 0 0)).wf = false
      ∧ (Instr.transactionAccept (reading 0 0 9)).wf = false
      ∧ (Instr.transactionAccept (writing 0 0 [])).wf = false
      ∧ (Instr.transactionAccept (writing 0 0 (List.replicate 9 0))).wf = false := by decide

theorem test_wf_answer :
    (Instr.packetFetch (ok (List.replicate 9 0))).wf = false
      ∧ (Instr.packetFetch (ok (List.replicate 8 0))).wf = true := by decide

theorem test_ill_formed_refused :
    exec (.transactionAccept (reading 0 6 1)) bypassed = .refused .notABurst := by rfl

theorem test_decode_no_row_has_bits : decodeTableWord 32 0 = none := by decide

theorem test_fetch_word_changes_nothing : running.withFetchWord 32 0 = running := by rfl

/-! ## Worked examples of the spec -/

/-- 4.2: the table of tone slopes. -/
theorem test_tone_slope :
    toneSlope 16 235 = 298 ∧ toneSlope 16 224 = 314 ∧ toneSlope 16 228 = 308 ∧ toneSlope 0 255 = 256
      ∧ toneSlope 200 232 = 2040 := by decide

/-- 4.2: the tone stage with the reset values. -/
theorem test_tone :
    tone Params.reset 128 = 130 ∧ tone Params.reset 234 = 254 ∧ tone Params.reset 235 = 255 := by decide

/-- 3.8: the three pixels followed through the arithmetic with T = 6 and G = 24. -/
theorem test_sharpen :
    sharpen 6 24 { nw := 200, n := 200, ne := 200, w := 200, c := 90, e := 200, sw := 200, s := 200, se := 200 } = 0
      ∧ sharpen 6 24 { nw := 200, n := 200, ne := 200, w := 90, c := 200, e := 200, sw := 200, s := 200, se := 200 } = 212
      ∧ sharpen 6 24 { nw := 210, n := 210, ne := 190, w := 210, c := 210, e := 190, sw := 205, s := 205, se := 200 } = 210 := by
  decide

/-- 4.5: the tracker on a well-lit page. -/
theorem test_tracker :
    let e : Enhancer :=
      { force := Params.reset, latch := { Params.reset with wp := 224, k := 314, auto := true, a := 32 },
        hist := (((((Vector.replicate 64 0).set 0 1453600).set 59 400000).set 60 150000).set 61 60000).set 62 9000
          |>.set 63 1000 }
    (e.track 1920 1080).force.wp = 228 ∧ (e.track 1920 1080).force.k = 308 := by decide +kernel

/-- 5.5: zoom and pan on a live frame, and the mix of view pixel (3, 1). -/
theorem test_latch_and_mix :
    let v : ViewSet := { ViewSet.reset with wv := 1280, hv := 800 }
    let c : ViewContext := { source := .live, z := 128, zt := 128, cx := 600, cy := 400 }
    let l := latchOf v c (.slot 0 0 0) 1920 1080
    l.step = 49152 ∧ l.ox = 7864320 ∧ l.oy = 6553600
      ∧ (l.needs (.luma 3 1)).map (fun n => n.addr) = [192122, 192123, 194042, 194043]
      ∧ l.compose (.luma 3 1) [40, 200, 60, 220] = 95 := by decide +kernel

/-- 12.1: the check halfword of an END header of serial 5. -/
theorem test_end_header :
    (Header.ofEnd 5).toWords = [0x00050003, 0, 0, 0, 0, 0, 0, 0xFFF70000] := by decide +kernel

/-- 12.3: the packet of VIEW FROZEN with RAMP. -/
theorem test_packet :
    let p := Packet.ofWords [0x00001103, 0x01000001, 0x021C03C0, 0]
    p.code = 3 ∧ p.modifier = 1 ∧ p.ie = true ∧ p.release = false
      ∧ p.viewRequest =
        { kind := some .frozen, zoom := 256, ramp := true, useNote := false, cx := 960, cy := 540 } := by
  decide +kernel

/-- 12.5: the status word while the reload reads, and after a reload that ended INVALID. -/
theorem test_status_word :
    (after (.resetNRise 0) State.reset).statusWord = 0x00000070 ∧ bypassed.statusWord = 0x00200070 := by
  decide +kernel

/-- 12.7: the example entry. -/
theorem test_trigger_entry :
    checkEntry 1080 none 0x8000621C 0 =
      .good { line := 540, k := 6, r := 0, action := .capture, arg := 0, enabled := true, fired := false } := by
  decide +kernel

/-- 3.8: the second piece of line 0 completes it; the last piece of line 1 makes the emission of line 0 due. -/
theorem test_lines_complete :
    let piece := fun (k : Nat) =>
      (after .captureLumaPiece (taking (capturing .normal k) (writing 1 (0x1000 + k) (List.replicate 8 0)))).asm
    (piece 32).ptr = 64 ∧ (piece 32).queue = [] ∧ (piece 96).ptr = 128 ∧ (piece 96).queue = [.emit 0 0 1] := by
  decide +kernel

/-- 3.8: a piece out of order is a break, and is taken raw into a free entry. -/
theorem test_break :
    let s := after .captureLumaPiece (taking (capturing .normal 416) (writing 1 0x1200 (List.replicate 8 0)))
    s.asm.mode = .raw ∧ s.asm.queue = [.emit 5 4 5, .partialLine 6, .rawPiece 0] ∧ s.slots.broken = 1 := by
  decide +kernel

/-! ## Witnesses: steps, reset and the memory port -/

theorem witness_step : (running.setPending [.emission]).pending = [.emission] ∧ running.pending = [] := by decide

theorem witness_reset_fall : running.resetN = true := by decide

theorem witness_reset_rise : State.reset.resetN = false ∧ Instr.wf .memoryPortGrant = true := by decide

/-- A message write of the Command Unit waits alone. -/
def waiting : State :=
  running.setPort
    { running.port with command := some { purpose := .message, burst := writing 0 0x60 (List.replicate 8 0) } }

theorem witness_port_grant :
    waiting.awake = true ∧ waiting.port.granted = none ∧ (waiting.port.waiting .command).isSome = true
      ∧ ∀ q : Requester, q.rank < Requester.command.rank → waiting.port.waiting q = none := by
  refine ⟨by decide, by decide, by decide, fun q h => ?_⟩
  cases q <;> first | rfl | (exact absurd h (by decide))

theorem witness_port_answers :
    let r : Request := { purpose := .copy, burst := reading 0 0x2000 8 }
    let s := running.setPort { running.port with granted := some { request := r, live := false } }
    s.awake = true ∧ s.port.granted ≠ none ∧ r.purpose = .copy
      ∧ answerFits (ok (List.replicate 8 0)) r.burst = true ∧ answerFits (ok []) r.burst = false := by decide


theorem witness_local_time : running.resetN = true ∧ (0xFFFFFFFF : Word).toNat = 4294967295 := by decide

theorem witness_frame_number :
    (taking running (writing 1 0x1000 [0])).startsFrame .captureLumaPiece = true
      ∧ ∃ t, exec .captureLumaPiece (taking running (writing 1 0x1000 [0])) = .next t :=
  ⟨by decide +kernel, _, rfl⟩

/-! ## Witnesses: invariants -/

/-- The view shows slot 0 FROZEN, with a BLANK context on the stack. -/
def viewing : State :=
  { running with
    slots := filled 1,
    view :=
      { current := { source := .frozen 0 3, z := 64, zt := 1024, cx := 0, cy := 4095 },
        stack := [{ ctx := { ViewContext.liveDefault with source := .blank }, standing := false }] } }

/-- The view shows the page at offset 0 of a store of two records. -/
def paging : State :=
  { running with
    store := { running.store with eod := 72, position := some 36 },
    view := { running.view with
      current := { ViewContext.liveDefault with
        source := .page { offset := 0, serial := 0, format := .full, w := 64, h := 16 } } } }

theorem witness_holds :
    HoldsInv (viewing.setPending [.emission]) ∧ ∃ t, step (viewing.setPending [.emission]) = .next t :=
  ⟨by unfold HoldsInv; decide +kernel, _, rfl⟩

theorem running_setup (s : State) (hs : s.resetN = true ∧ s.cu.reload = none ∧ s.bridge.run = .run) :
    SetupInv s := by
  obtain ⟨h1, h2, h3⟩ := hs
  refine ⟨?_, ?_, ?_, ?_⟩
  · intro h; rw [h1] at h; exact absurd h (by decide)
  · intro h; exact absurd h2 h
  · intro h; unfold State.reloadReads at h; rw [h2] at h; exact absurd h (by decide)
  · intro h; rw [h3] at h; exact absurd h (by decide)

/-- A part whose reload reads its block, in BYPASS, and one in RUN. -/
theorem witness_setup_inv :
    let s := (reloading (.block 0x200000 []) 8).setPending [.emission]
    (SetupInv s ∧ s.reloadReads = true ∧ s.cu.reload ≠ none ∧ s.bridge.run = .bypass ∧ ∃ t, step s = .next t)
    ∧ SetupInv (running.setPending [.emission]) ∧ SetupInv State.reset ∧ State.reset.resetN = false := by
  refine ⟨⟨⟨?_, fun _ => ⟨rfl, rfl⟩, fun _ => rfl, fun _ => rfl⟩, by decide, by decide, rfl, _, rfl⟩,
    running_setup _ ⟨rfl, rfl, rfl⟩, ⟨fun _ => ⟨rfl, rfl⟩, ?_, ?_, fun _ => rfl⟩, rfl⟩
  · intro h; exact absurd h (by decide)
  · intro h; exact absurd rfl h
  · intro h; exact absurd h (by decide)

theorem witness_changes : SetupInv running ∧ ∃ t, exec .localTimeAdvance running = .next t :=
  ⟨running_setup _ ⟨rfl, rfl, rfl⟩, _, rfl⟩

/-- Each engine of the store is taken by a command that works for it, and RESTART gives it up. -/
theorem witness_engines :
    let copies := after .mark (handed running (packet 7 0 1 0))
    copies.store.copy.isSome = true
      ∧ (after .restart (taking copies (writing 0 0 [3]))).store.copy = none
      ∧ (after .stepFwd (handed running (packet 8 0 0x10000 0))).store.trav.isSome = true := by decide +kernel

theorem running_engines (s : State) (hs : s.store.copy = none ∧ s.store.trav = none ∧ s.bridge.run = .run) :
    EngineInv s := by
  obtain ⟨h1, h2, h3⟩ := hs
  refine ⟨.inl h1, ?_, ?_, ?_, ?_⟩
  · intro op h; rw [h2] at h; exact absurd h (by simp)
  · intro p last h; rw [h2] at h; exact absurd h (by simp)
  · intro c h; rw [h1] at h; exact absurd h (by simp)
  · intro h; rw [h3] at h; exact absurd h (by decide)

theorem witness_view :
    SetupInv (viewing.setPending [.emission]) ∧ ContextInv (viewing.setPending [.emission]) ∧ StackInv (viewing.setPending [.emission])
      ∧ ∃ t, step (viewing.setPending [.emission]) = .next t := by
  refine ⟨running_setup _ ⟨rfl, rfl, rfl⟩, ⟨by unfold ViewContext.inRange; decide, by unfold ViewContext.inRange; decide, ?_⟩,
    ⟨running_engines _ ⟨rfl, rfl, rfl⟩, by decide, ?_⟩, _, rfl⟩
  · intro q push h; exact (Option.some_ne_none _ h.symm).elim
  · intro q h; exact (Option.some_ne_none _ h.symm).elim

/-- A trigger list of two entries. -/
def armed : State :=
  running.setTimer { running.timer with
    triggers :=
      [{ line := 0, k := 0, r := 0, action := .notify, arg := 7, enabled := true, fired := false },
       { line := 15, k := 6, r := 63, action := .advance, arg := 0, enabled := true, fired := false }] }

theorem witness_enhance_and_triggers :
    SetupInv (armed.setPending [.emission]) ∧ EnhanceInv (armed.setPending [.emission]) ∧ TriggerInv (armed.setPending [.emission])
      ∧ ∃ t, step (armed.setPending [.emission]) = .next t := by
  refine ⟨running_setup _ ⟨rfl, rfl, rfl⟩, ⟨by unfold Params.inBounds; decide, by unfold Params.inBounds; decide, ?_, ?_⟩,
    ⟨by decide, by decide, by unfold Trigger.inRange; decide, ?_⟩, _, rfl⟩
  · intro g h; exact (Option.some_ne_none _ h.symm).elim
  · intro h; exact absurd h (by decide)
  · intro addr total got h
    exact (Option.some_ne_none _ h.symm).elim

theorem witness_page :
    SetupInv (paging.setPending [.emission]) ∧ PageInv (paging.setPending [.emission]) ∧ paging.currentPage = some 0
      ∧ ∃ t, step (paging.setPending [.emission]) = .next t := by
  refine ⟨running_setup _ ⟨rfl, rfl, rfl⟩, ⟨running_engines _ ⟨rfl, rfl, rfl⟩, ?_⟩, rfl, _, rfl⟩
  intro p h
  cases h
  exact ⟨by decide, rfl, rfl, fun c h => (Option.some_ne_none _ h.symm).elim⟩

theorem witness_store :
    SetupInv (paging.setPending [.emission]) ∧ StoreInv (paging.setPending [.emission]) ∧ ∃ t, step (paging.setPending [.emission]) = .next t := by
  refine ⟨running_setup _ ⟨rfl, rfl, rfl⟩, ⟨running_engines _ ⟨rfl, rfl, rfl⟩, ?_, fun _ => ⟨by decide, by decide, ?_, ?_⟩⟩, _, rfl⟩
  · intro p h; cases h; decide
  · intro d h; exact (Option.some_ne_none _ h.symm).elim
  · intro c h; exact (Option.some_ne_none _ h.symm).elim

theorem witness_regions :
    SetupInv (running.setPending [.emission]) ∧ RegionsInv (running.setPending [.emission]) ∧ running.bridge.run = .run
      ∧ ∃ t, step (running.setPending [.emission]) = .next t := by
  refine ⟨running_setup _ ⟨rfl, rfl, rfl⟩, fun _ => ?_, rfl, _, rfl⟩
  unfold Span.proper allApart Span.apart
  decide +kernel

/-! ## Witnesses: arithmetic and formats -/

theorem witness_tone :
    (0 + 32 ≤ 32 ∧ 0 + 32 ≤ 255 ∧ 223 + 32 ≤ 255) ∧ Params.reset.inBounds
      ∧ 16 ≤ Params.reset.b ∧ Params.reset.wp ≤ 235 ∧ Params.reset.b < 17 ∧ 17 < Params.reset.wp := by
  unfold Params.inBounds; decide

theorem witness_tracker : Enhancer.reset.latch.inBounds := by
  show Params.reset.inBounds
  unfold Params.inBounds
  decide

/-- The view spans no more than the source, more than it, and exactly it. -/
theorem witness_origin :
    let c : ViewContext := { ViewContext.liveDefault with z := 1024 }
    let at_ := fun (wv hv ws hs : Nat) (c : ViewContext) =>
      (latchOf { ViewSet.reset with wv := wv, hv := hv } c .none ws hs).step * wv
    at_ 1920 1200 2048 1536 c ≤ 2048 * 65536 ∧ 32 * 65536 < at_ 1920 1200 32 1536 ViewContext.liveDefault
      ∧ at_ 320 240 320 240 ViewContext.liveDefault = 320 * 65536 := by decide +kernel

/-- A pixel inside the source, and one at the border. -/
theorem witness_composed :
    let l := latchOf { ViewSet.reset with wv := 320, hv := 240 } ViewContext.liveDefault (.slot 0 0 0) 64 16
    1 ≤ l.ws ∧ 1 ≤ l.hs ∧ l.isBorder 160 120 = false ∧ l.isBorder 0 0 = true := by decide +kernel

theorem witness_zoom :
    let c : ViewContext := { ViewContext.liveDefault with zt := 1024 }
    c.z ≤ c.zt ∧ c.inRange ∧ 960 ≤ 960 := by
  unfold ViewContext.inRange; decide

theorem witness_header :
    let h : Header :=
      { kind := .page, format := .half, broken := true, note := true, cycle := 63, serial := 0xFFFF,
        length := 4294967295, lesson := 255, w := 65535, h := 65535, z := 65535, frame := 0xFFFFFFFF,
        time := 0xFFFFFFFF, cx := 65535, cy := 65535 }
    h.cycle < 64 ∧ h.length < 4294967296 ∧ h.lesson < 256 ∧ h.w < 65536 ∧ h.h < 65536 ∧ h.z < 65536
      ∧ h.cx < 65536 ∧ h.cy < 65536 := by decide

/-- The words of a page header of 64 by 16. -/
def pageWords (serial : Half) : List Word :=
  Header.toWords
    { kind := .page, format := .full, broken := false, note := true, cycle := 8, serial := serial, length := 2084,
      lesson := 0, w := 64, h := 16, z := 2000, frame := 8, time := 0, cx := 5000, cy := 1 }

/-- The words of a mark header. -/
def markWords : List Word :=
  Header.toWords
    { kind := .mark, format := .full, broken := false, note := false, cycle := 9, serial := 0, length := 36,
      lesson := 1, w := 0, h := 0, z := 0, frame := 9, time := 0, cx := 0, cy := 0 }

/-- Each reader's bound, met exactly and missed by one word. -/
theorem witness_judged :
    (judgeScan 2116 0 (pageWords 0)).isSome = true ∧ (judgeScan 2112 0 (pageWords 0)).isSome = false
      ∧ (judgeChain 2084 0 (pageWords 0)).isSome = true ∧ (judgeChain 2080 0 (pageWords 0)).isSome = false
      ∧ (judgeChain 0 0 (Header.ofEnd 0).toWords).isSome = true := by decide +kernel

/-- 12.6: the kind codes 1 to 3 and the format codes 0 and 1 give a header, the codes beside them none, and a
field of all ones stands alone at its bits. -/
theorem test_header_bits :
    ([0x00, 0x01, 0x03, 0x04, 0x0F, 0x12, 0x22, 0xF3].map fun w : Word => (Header.ofWords [w]).isSome)
        = [false, true, true, false, false, true, false, false]
      ∧ (Header.ofWords [0xFC01]).map Header.cycle = some 63
      ∧ (Header.ofWords [0x301]).map Header.broken = some true
      ∧ (Header.ofWords [1, 0, 0xFFFF00FF, 0xFFFF]).map (fun h => (h.lesson, h.w, h.h, h.z))
        = some (255, 65535, 65535, 0)
      ∧ (Header.ofWords [1, 0, 0, 0, 0, 0, 0xFFFF]).map (fun h => (h.cx, h.cy)) = some (65535, 0) := by
  decide +kernel

/-! ## Witnesses: setup blocks -/

/-- A setup block with its check halfword put in. -/
def sealed (ws : List Word) : List Word :=
  let open_ := ws.take 15 ++ [BitVec.ofNat 32 ((wordAt ws 15).toNat % 65536)]
  ws.take 15 ++
    [BitVec.ofNat 32 ((wordAt ws 15).toNat % 65536 + (65535 - halfSum open_) * 65536)]

/-- The block of the setup in force in `running`. -/
def block : List Word :=
  [0x00101040, 0x00F00140, 0x1000, 0x1000, 0x2000, 0x3000, 0x4000, 0x10000, 0x100000, 0x110000, 0, 0x40, 0x39,
   0xEB101004, 0x10010010, 0x8080]

/-- The block with one word other. -/
def blockWith (i : Nat) (w : Word) : List Word := sealed (block.set i w)

/-- A valid block, one whose check fails, and the first and last field that can fail at a boundary. -/
theorem witness_setup_block :
    validateSetup (ctrlSpan 0) (sealed block) = none ∧ validateSetup (ctrlSpan 0) block = some 29
      ∧ validateSetup (ctrlSpan 0) (blockWith 0 0x00102040) = some 1
      ∧ validateSetup (ctrlSpan 0) (blockWith 12 0x07D00039) = none
      ∧ validateSetup (ctrlSpan 0) (blockWith 12 0x07D10039) = some 28 := by decide +kernel

/-- 12.2: the fields of the block that stand in parts of a word, and the requirement that each fails by, at a
boundary. -/
theorem test_setup_fields :
    let b := SetupBlock.ofWords block
    let word12 := SetupBlock.ofWords (block.set 12 0x8001C00E)
    (b.formatNumber, b.wc, b.hc, b.wv, b.hv) = (1, 64, 16, 320, 240)
      ∧ (b.t, b.g, b.b, b.wp, b.a) = (4, 16, 16, 235, 16)
      ∧ (b.kl, b.kc, b.borderY, b.borderCb, b.borderCr) = (0, 1, 16, 128, 128)
      ∧ (word12.auto, word12.interval, word12.classes[(0 : Fin 8)], word12.classes[(1 : Fin 8)],
          word12.classes[(7 : Fin 8)]) = (true, 1, .capture, .display, .display)
      ∧ [(0, 0x00101030), (0, 0x00111040), (2, 0x7C0), (3, 0), (4, 0x17C0), (5, 0x2000), (6, 0x1FFFFC0),
          (1, 0x00F00150 - 8), (1, 0x00EE0140), (7, 0x4FC0), (8, 0x100020), (9, 0x10FFFC), (10, 0x1000001),
          (11, 0), (12, 0x2A), (13, 0xEB101020), (13, 0xEB104004), (13, 0xFFE01004), (13, 0x2F101004),
          (14, 0x10010000)].map (fun f : Nat × Word => validateSetup (ctrlSpan 0) (blockWith f.1 f.2))
        = [some 2, some 3, some 4, some 5, some 6, some 7, some 8, some 9, some 10, some 11, some 12, some 13,
          some 14, some 15, some 16, some 17, some 18, some 19, some 20, some 22] := by decide +kernel

/-! ## Witnesses: transactions of the controller port -/

theorem witness_transactions :
    let b := writing 3 0x2FFC [0, 0]
    b.wf = true ∧ running.awake = true ∧ running.bridge.txn = none ∧ isWrite b = true
      ∧ (taking running b).bridge.guard = 2 ∧ (taking running (reading 3 0x2000 1)).bridge.txn ≠ none := by
  decide +kernel

theorem witness_pass : ∃ x p, (taking running (reading 3 0x2000 8)).faces x p .pass ∧ true = true :=
  faces_of (f := fun _ _ => true) (by decide +kernel)

/-- A piece that waited when the map put its address into a slot, and one above the top of memory. -/
theorem witness_at_once :
    let waits := fun b : Burst =>
      running.setTxn (some
        { burst := b, cls := .plain, pieces := [{ first := 0, len := 1 }], stage := .untreated, words := [],
          error := false })
    (∃ x p, (waits (writing 3 0x2000 [0])).faces x p .discard ∧ true = true)
      ∧ ∃ x p, (waits (reading 3 0x2000000 1)).faces x p .beyond ∧ true = true :=
  ⟨faces_of (f := fun _ _ => true) (by decide +kernel), faces_of (f := fun _ _ => true) (by decide +kernel)⟩

/-- The answer to a pass-through, of the final chroma word in a frame too, with the luma half recorded or not. -/
theorem witness_pass_answer (final : Bool) (half : Bool) :
    let s := staged (taking ((capturing .normal 1024).setAsm { (capturing .normal 1024).asm with lumaHalf := half })
      (writing 1 0x17FC [0])) (.passing final)
    let u := asked s .passThrough (writing 1 0x37FC [0])
    u.replied .passThrough (ok []) ∧ u.asm.slot = some 1 ∧ u.asm.lumaHalf = half
      ∧ ∃ x, u.awake = true ∧ u.bridge.txn = some x ∧ decide (x.stage = .passing final) = true := by
  refine ⟨replied_asked ?_, ?_, ?_, txn_of ?_⟩ <;> cases final <;> cases half <;> decide +kernel

/-- The status word alone, at the foot of a longer piece, and inside one. -/
theorem witness_status_read (addr n : Nat) (h : addr = 8 ∧ n = 1 ∨ addr = 8 ∧ n = 8 ∨ addr = 4 ∧ n = 2) :
    ∃ x p, (taking running (reading 0 addr n)).faces x p .statusRead
      ∧ decide (wordAddr x.burst p.first = addr ∧ p.len = n) = true := by
  apply faces_of
  rcases h with ⟨rfl, rfl⟩ | ⟨rfl, rfl⟩ | ⟨rfl, rfl⟩ <;> decide +kernel

/-- The words below the status word are answered, with words above it to follow (4 words) or none (2). -/
theorem witness_status_below (n : Nat) (h : n = 2 ∨ n = 4) :
    let s := asked (staged (taking running (reading 0 4 n)) (.statusBelow 0x70)) .passThrough (reading 0 4 1)
    s.replied .passThrough (ok [5]) ∧ ∃ x, s.awake = true ∧ s.bridge.txn = some x
      ∧ decide (x.stage = .statusBelow 0x70 ∧ x.pieces = [{ first := 0, len := n }]) = true := by
  refine ⟨replied_asked ?_, txn_of ?_⟩ <;> rcases h with rfl | rfl <;> decide +kernel

theorem witness_status_above :
    let s := asked (staged (taking running (reading 0 8 2)) (.statusAbove [0x70] false)) .passThrough
      (reading 0 12 1)
    s.replied .passThrough (bad [5]) ∧ ∃ x, s.awake = true ∧ s.bridge.txn = some x
      ∧ decide (x.stage = .statusAbove [0x70] false) = true :=
  ⟨replied_asked (by decide +kernel), txn_of (by decide +kernel)⟩

/-! ## Witnesses: the control page and commands -/

/-- OPEN, CLOSE, RESTART and a command pointer by the CONTROL master, and a word it writes elsewhere in the
page; and a word of a PLAIN master. -/
theorem witness_reports (tag : Fin 8) (addr : Nat) (w : Word)
    (h : tag = 0 ∧ addr = 0 ∧ (w = 1 ∨ w = 0 ∨ w = 3) ∨ tag = 0 ∧ addr = 4 ∧ (w = 0x200000 ∨ w = 0x200004)
      ∨ tag = 0 ∧ addr = 8 ∧ w = 1 ∨ tag = 3 ∧ addr = 0 ∧ w = 1) :
    ∃ x p k i b, (taking running (writing tag addr [w])).reports x p k i b
      ∧ decide (b.be = 0xF ∧ b.data = w ∧ 4 * i = addr ∧ (x.cls = .control ↔ tag = 0)) = true := by
  apply reports_of
  rcases h with ⟨rfl, rfl, rfl | rfl | rfl⟩ | ⟨rfl, rfl, rfl | rfl⟩ | ⟨rfl, rfl, rfl⟩ | ⟨rfl, rfl, rfl⟩ <;>
    decide +kernel

/-- The states of the Command Unit that the clauses of a report tell apart. -/
theorem witness_report_states :
    bypassed.cu.opened = false ∧ running.cu.opened = true ∧ running.cu.armed = false ∧ running.cu.cmd = none
      ∧ running.cu.reloadResult ≠ .none ∧ (handed running (packet 2 0 0 0)).cu.cmd ≠ none
      ∧ running.areaOf 0x20000C = .elsewhere := by decide +kernel

/-- A fetched packet, and the codes at the ends of the range and past them. -/
theorem witness_packet (run : State) (h : run = running ∨ run = bypassed) :
    let s := asked (run.setCu { run.cu with cmd := some { packet := none, stage := .fetch } }) .packet
      (reading 0 0x200000 4)
    (∀ w : Word, s.replied .packet (ok [w, 0, 0, 0])) ∧ s.replied .packet (bad [0, 0, 0, 0])
      ∧ s.cu.cmd = some { packet := none, stage := .fetch } := by
  rcases h with rfl | rfl <;>
    exact ⟨fun _ => replied_asked ⟨by decide +kernel, rfl⟩, replied_asked (by decide +kernel), rfl⟩

/-- A copy and a clear whose last write has been granted when RESTART comes, in a part that also shows a
FROZEN view. -/
theorem witness_restart (p : Purpose) (h : p = .commit ∨ p = .clearWrite ∨ p = .copy) :
    let s := asked (taking viewing (writing 0 0 [3])) p (writing 0 0x100000 (List.replicate 8 0))
    (∃ x q k i b, s.reports x q k i b ∧ decide (i = 0 ∧ x.cls = .control ∧ b.be = 0xF ∧ b.data = 3) = true)
      ∧ s.cu.opened = true ∧ s.port.grantedFor (· == p) = true := by
  rcases h with rfl | rfl | rfl <;> exact ⟨reports_of (by decide +kernel), by decide +kernel, by decide +kernel⟩

/-- 2.7: RESTART ends the one hold of a FROZEN view: the slot becomes EMPTY beside a newer COMPLETE one, stays
COMPLETE as the newest, and stays COMPLETE while another holds it. -/
theorem test_restart_holds :
    let slot := fun (n : Nat) (newer : Bool) =>
      let s := viewing.setSlots { filled n with
        recs := if newer then (filled n).recs.set 1 { (filled n).recs[0] with frame := 9, hold := 0 }
          else (filled n).recs }
      ((after .restart (taking s (writing 0 0 [3]))).slotRec 0)
    ((slot 1 true).state = .empty ∧ (slot 1 true).hold = 0)
      ∧ ((slot 1 false).state = .complete ∧ (slot 1 false).hold = 0)
      ∧ ((slot 2 true).state = .complete ∧ (slot 2 true).hold = 1) := by decide +kernel

theorem witness_status (m : Nat) : (handed running (packet 2 m 0 0)).hands 2 (packet 2 m 0 0) :=
  hands_of ⟨rfl, rfl⟩

theorem witness_status_set : running.enh.force.inBounds := by
  show Params.reset.inBounds
  unfold Params.inBounds; decide

/-- A message of which the upper, or the lower, half is being written. -/
theorem witness_message (second : Bool) :
    let w : MessageWrite := { addr := 0x40, words := List.replicate 16 0, second := second }
    let s := asked (doing running (packet 2 0 0 0) (.message w .done .none)) .message
      (writing 0 0x40 (List.replicate 8 0))
    s.replied .message (ok []) ∧ s.cu.cmd = some { packet := some (packet 2 0 0 0), stage := .message w .done .none } :=
  ⟨replied_asked ⟨rfl, by decide⟩, rfl⟩

/-- 12.4: a RECORD with IE refused NO_SPACE at a LOST position, with a note of code 7 and a failed capture for
want of a frame pending, and the message with every flag clear at the bounds of code and residual. -/
theorem test_message_words :
    let s := (running.setStore { running.store with position := none, eod := 36, serial := 1 }).setCu
      { running.cu with notices :=
        { Notices.empty with signalLost := true, triggerNote := some 7, captureFailed := some .noFrame } }
    (s.messageWords { cls := .refused, reason := .noSpace, arg := 0, residual := 3 } 6 true false false).take 8 =
        [0x01061902, 0, 3, 0xFFFFFFFF, 0x24, 0x00310001, 0x001A0007, 0]
      ∧ (running.messageWords { cls := .lost, reason := .headerBad, arg := 9, residual := 65535 } 255 false true
          false).take 3 = [0x02FF3804, 9, 0xFFFF] := by decide +kernel

/-- A NOTICE of which the upper, or the lower, half is being written, with a transaction behind it or none. -/
theorem witness_notice (second : Bool) (held : Option Request) :
    let w : MessageWrite := { addr := 0x40, words := List.replicate 16 0, second := second }
    let s := asked (running.setCu { running.cu with notice := some w, held := held }) .notice
      (writing 0 0x40 (List.replicate 8 0))
    s.replied .notice (bad []) ∧ s.cu.notice = some w ∧ s.cu.held = held :=
  ⟨replied_asked ⟨rfl, by decide⟩, rfl, rfl⟩

/-- The interval of one millisecond, just reached and not yet. -/
theorem witness_watch :
    let at_ := fun t : Word => running.setTimer { running.timer with localTime := t }
    (at_ 1000).awake = true ∧ (at_ 1000).bridge.run = .run ∧ 1 ≤ (at_ 1000).timer.interval
      ∧ (at_ 1000).timer.signal = true
      ∧ (at_ 1000).timer.interval * 1000 ≤ ((at_ 1000).timer.localTime - (at_ 1000).timer.reference).toNat
      ∧ ((at_ 999).timer.localTime - (at_ 999).timer.reference).toNat < (at_ 999).timer.interval * 1000 := by
  decide +kernel

/-! ## Witnesses: setup and the mount scan -/

/-- The block address that still fits below the top of memory, and the next one. -/
theorem witness_setup_read (w : Word) :
    (handed running (packet 1 0 w 0)).hands 1 (packet 1 0 w 0)
      ∧ (0x1FFFFC0 : Nat) + 60 ≤ 0x1FFFFFC ∧ 0x1FFFFFC < 0x1FFFFC4 + 60 :=
  ⟨hands_of ⟨rfl, rfl⟩, by decide, by decide⟩

/-- A SETUP that reads its block, with `got` read so far. -/
def settingUp (s : State) (got : List Word) : State :=
  asked (doing s (packet 1 0 0x200000 0) (.setupRead 0x200000 got)) .setupBlock (reading 0 0x200000 8)

theorem witness_setup_answers (s : State) (h : s = bypassed ∨ s = running) (got ws : List Word) (e : Bool)
    (hw : ws.length = 8) :
    (settingUp s got).replied .setupBlock { error := e, words := ws }
      ∧ (settingUp s got).cu.cmd =
        some { packet := some (packet 1 0 0x200000 0), stage := .setupRead 0x200000 got } := by
  rcases h with rfl | rfl <;> exact ⟨replied_asked ⟨rfl, by simp [answerFits, reading, hw]⟩, rfl⟩

theorem witness_reload (st : ReloadStage) (n : Nat) (ws : List Word) (e : Bool) (hw : ws.length = n) :
    (reloading st n).replied .reloadRead { error := e, words := ws } ∧ (reloading st n).cu.reload = some st :=
  ⟨replied_asked ⟨rfl, by simp [answerFits, reading, hw]⟩, rfl⟩

/-- The block's halves: valid, and invalid in field 1. -/
theorem witness_setup_halves :
    bypassed.bridge.run = .bypass ∧ (sealed block).take 8 ≠ [] ∧ ((sealed block).drop 8).length = 8
      ∧ validateSetup (ctrlSpan bypassed.bridge.straps) ((sealed block).take 8 ++ (sealed block).drop 8) = none
      ∧ validateSetup (ctrlSpan 0) ((blockWith 0 0).take 8 ++ (blockWith 0 0).drop 8) = some 1 := by decide +kernel

/-- Valid blocks each of whose locked fields differs from the one in force. -/
theorem witness_locked :
    let good := fun (i : Nat) (w : Word) => validateSetup (ctrlSpan 0) (blockWith i w) = none
    let r := running.bridge.regions
    good 2 0xFC0 ∧ 0xFC0 ≠ r.slotSize ∧ good 3 0x1040 ∧ 0x1040 ≠ r.apertureBase ∧ good 4 0x5000
      ∧ 0x5000 ≠ r.slotBase[0] ∧ good 5 0x5000 ∧ 0x5000 ≠ r.slotBase[1] ∧ good 6 0x5000 ∧ 0x5000 ≠ r.slotBase[2]
      ∧ good 7 0x10040 ∧ 0x10040 ≠ r.viewBase := by decide +kernel

/-- A valid block that clashes with a region in force beside it, for each of the four fields: the state and the
block. -/
theorem witness_clash :
    let store := fun (base limit : Nat) => running.setStore { running.store with base := base, limit := limit }
    let wide := running.setComp { running.comp with
      latch := { running.comp.latch with set := { running.comp.latch.set with wv := 336 } } }
    let tall := blockWith 0 0x001E1040
    let broad := blockWith 1 0x00F00150
    let near := sealed ((block.set 8 0x36000).set 9 0x46000)
    let far := sealed (((block.set 8 0x200000).set 9 0x210000).set 11 0x100000)
    (∀ b ∈ [tall, broad, near, far], validateSetup (ctrlSpan 0) b = none)
      ∧ (SetupBlock.ofWords tall).aperture.overlaps (store 0x1C00 0x1E00).storeSpan = true
      ∧ (SetupBlock.ofWords broad).window.overlaps (store 0x36000 0x37000).storeSpan = true
      ∧ (SetupBlock.ofWords near).store.overlaps wide.windowSpan = true
      ∧ (SetupBlock.ofWords far).message.overlaps running.storeSpan = true := by decide +kernel

/-- The store region is kept, or moves with the engines idle, in use, or while the view shows a page. -/
theorem witness_region_change :
    let moved := sealed ((block.set 8 0x200000).set 9 0x210000)
    let busy := running.setStore { running.store with trav := some (.advance false) }
    let waits := busy.setStore { busy.store with deferred := some { base := 0x300000, limit := 0x310000, margin := 0 } }
    validateSetup (ctrlSpan 0) moved = none ∧ running.enginesIdle = true ∧ busy.enginesIdle = false
      ∧ waits.awake = true ∧ waits.enginesIdle = false ∧ paging.currentPage ≠ none
      ∧ running.currentPage = none := by decide +kernel

/-- A mount scan that the reload, a SETUP, or nobody any more waits for. -/
def scanning (o : Nat) (cmd : Option Command) (reload : Option ReloadStage) : State :=
  asked
    ((running.setStore { running.store with formatted := false, trav := some (.scan o none) }).setCu
      { running.cu with cmd := cmd, reload := reload })
    .scanRead (reading 0 0x100000 8)

theorem witness_scan (cmd : Option Command) (reload : Option ReloadStage) (ws : List Word) (e : Bool)
    (hw : ws.length = 8) :
    (scanning 0 cmd reload).replied .scanRead { error := e, words := ws }
      ∧ (scanning 0 cmd reload).store.trav = some (.scan 0 none) ∧ (scanning 0 cmd reload).cu.cmd = cmd
      ∧ (scanning 0 cmd reload).cu.reload = reload :=
  ⟨replied_asked ⟨rfl, by simp [answerFits, reading, hw]⟩, rfl, rfl, rfl⟩

theorem witness_scan_headers :
    judgeScan 65536 0 (List.replicate 8 0) = none ∧ (judgeScan 65536 0 (pageWords 0)).isSome = true
      ∧ (judgeScan 65536 65504 (Header.ofEnd 0).toWords).isSome = true
      ∧ (judgeScan 65536 65508 (Header.ofEnd 0).toWords).isSome = false
      ∧ (pageWords 0).length = 8 ∧ (Header.ofEnd 0).toWords.length = 8 := by decide +kernel

theorem witness_deferred_scan :
    let s := running.setStore { running.store with deferred := some { base := 0x300000, limit := 0x310000, margin := 0 } }
    s.resetN = true ∧ s.store.deferred.isSome = true ∧ s.store.copy = none ∧ s.store.trav = none := by decide

/-! ## Witnesses: capture -/

/-- A pending set of the same geometry, and of another one, with the copy engine idle. -/
theorem witness_pending_set :
    let set := fun (s : State) (wc : Nat) => s.setSlots { s.slots with
      staged := some { wc := wc, hc := 16, t := 4, g := 16, b := 223, wp := 255, auto := true, a := 128 } }
    (set viewing 64).slots.staged.isSome = true ∧ (set viewing 64).store.copy = none
      ∧ (set viewing 64).slots.wc = 64 ∧ (set viewing 80).view.current.held ≠ none
      ∧ (set running 80).view.current.held = none := by decide +kernel

/-- A luma piece with no frame in progress, in order, out of order, in a RAW and in a DROPPED frame, and one
that starts a frame. -/
theorem witness_luma (s : State) (o : Nat)
    (h : s = running ∧ (o = 32 ∨ o = 0)
      ∨ (∃ m, s = capturing m 32) ∧ (o = 32 ∨ o = 36 ∨ o = 0)) :
    ∃ x p, (taking s (writing 1 (0x1000 + o) [0])).faces x p .captureLuma
      ∧ decide (x.burst.addr + 4 * p.first - 0x1000 = o) = true := by
  apply faces_of
  rcases h with ⟨rfl, rfl | rfl⟩ | ⟨⟨m, rfl⟩, rfl | rfl | rfl⟩ <;> first | (cases m <;> decide +kernel) | decide +kernel

/-- A held piece whose ring entry is in use or free, in NORMAL and in RAW mode. -/
theorem witness_held (m : FrameMode) (busy : Bool) (h : m ≠ .dropped) :
    let ring : Vector RingEntry 4 := if busy then #v[.line 0 [], .line 1 [], .line 2 [], .line 3 []]
      else #v[.free, .line 1 [], .line 2 [], .line 3 []]
    let s := staged (taking ((capturing m 256).setAsm { (capturing m 256).asm with ring := ring })
      (writing 1 0x1100 [0])) (.held 0)
    (∃ x, s.awake = true ∧ s.bridge.txn = some x ∧ decide (x.stage = .held 0 ∧ x.pieces ≠ []) = true)
      ∧ s.asm.mode = m ∧ s.asm.entryBusy = busy := by
  refine ⟨txn_of ?_, ?_, ?_⟩ <;> cases m <;> cases busy <;> first | exact absurd rfl h | decide +kernel

/-- The frame in slot 1 completes beside the COMPLETE slot 0, and alone carries the current frame number. -/
theorem witness_newest :
    let s := capturing .normal 1024
    (s.slotRec 1).frame = s.timer.frameNumber ∧ (s.slotRec 0).state = .complete
      ∧ (s.slotRec 0).frame ≠ s.timer.frameNumber ∧ (s.slotRec 2).state ≠ .complete
      ∧ s.newest = some 0 ∧ (s.frameCompletes 1).newest = some 1 := by decide +kernel

/-- The treatment at the first and the last word of each region, for a write and a read of four words. -/
theorem witness_treatment :
    let tr := fun (s : State) (c : MasterClass) (w : Bool) (addr : Nat) =>
      s.treatment
        { burst := if w then writing 0 addr [0, 0, 0, 0] else reading 0 addr 4, cls := c, pieces := [],
          stage := .untreated, words := [], error := false } { first := 0, len := 4 }
    let guarded := running.setStore { running.store with protect := true }
    [0x1000, 0x13FC].map (tr running .capture true) = [.captureLuma, .captureLuma]
      ∧ [0x1400, 0x17FC, 0x1800].map (tr running .capture true) = [.captureChroma, .captureChroma, .pass]
      ∧ [0x0FFC, 0x1000, 0x17FC].map (tr running .display true) = [.pass, .discard, .discard]
      ∧ [0x1000, 0x17FC, 0x1800].map (tr running .plain false) = [.apertureRead, .apertureRead, .pass]
      ∧ [0x1FFC, 0x2000, 0x4FFC, 0x5000].map (tr running .control true) = [.pass, .discard, .discard, .pass]
      ∧ tr running .control false 0x2000 = .pass
      ∧ [0xFFFC, 0x10000, 0x357FC, 0x35800].map (tr running .display false)
          = [.pass, .displayRead, .displayRead, .pass]
      ∧ tr running .plain false 0x10000 = .pass ∧ tr running .display true 0x10000 = .pass
      ∧ [0xFFFFC, 0x100000, 0x10FFFC, 0x110000].map (tr guarded .control true)
          = [.pass, .discard, .discard, .pass]
      ∧ tr guarded .control false 0x100000 = .pass ∧ tr running .control true 0x100000 = .pass
      ∧ [0x3C, 0x40, 0x1FFFFFC, 0x2000000].map (tr running .plain true) = [.controlWrite, .pass, .pass, .beyond]
      ∧ [0, 8, 12].map (tr running .plain false) = [.statusRead, .statusRead, .pass]
      ∧ [0x1000, 0x2000, 0x3C].map (tr bypassed .capture true) = [.pass, .pass, .controlWrite] := by decide +kernel

/-- A chroma piece with a slot to fill and with none, and a read of the aperture with a COMPLETE slot and with
none. -/
theorem witness_aperture :
    (∃ x p, (taking (capturing .normal 0) (writing 1 0x17FC [0])).faces x p .captureChroma ∧ true = true)
      ∧ (∃ x p, (taking running (writing 1 0x17FC [0])).faces x p .captureChroma ∧ true = true)
      ∧ (∃ x p, (taking (capturing .normal 0) (reading 3 0x1000 8)).faces x p .apertureRead ∧ true = true)
      ∧ (∃ x p, (taking running (reading 3 0x17FC 1)).faces x p .apertureRead ∧ true = true)
      ∧ (capturing .normal 0).asm.slot = some 1 ∧ running.asm.slot = none
      ∧ (capturing .normal 0).newest = some 0 ∧ running.newest = none :=
  ⟨faces_of (f := fun _ _ => true) (by decide +kernel), faces_of (f := fun _ _ => true) (by decide +kernel),
    faces_of (f := fun _ _ => true) (by decide +kernel), faces_of (f := fun _ _ => true) (by decide +kernel),
    by decide +kernel, by decide +kernel, by decide +kernel, by decide +kernel⟩

/-- A line writer with an item to begin: a line, a partial line and a raw piece. -/
theorem witness_emission (item : WorkItem) (h : item = .emit 15 14 15 ∨ item = .partialLine 0 ∨ item = .rawPiece 3) :
    let ring : Vector RingEntry 4 := #v[.line 0 [1, 2, 3, 4], .free, .free, .piece 64 [{ data := 0, be := 7 }]]
    let s := (capturing .raw 1024).setAsm { (capturing .raw 1024).asm with ring := ring, queue := [item] }
    s.awake = true ∧ s.asm.queue = [item] ∧ s.asm.running = none ∧ s.port.granted = none
      ∧ 4 ≤ s.asm.wc ∧ s.asm.wc % 4 = 0 ∧ (s.asm.lineBytes 0).length % 4 = 0 ∧ s.asm.lineBytes 0 ≠ []
      ∧ s.asm.ring[(3 : Fin 4)] = .piece 64 [{ data := 0, be := 7 }] := by
  rcases h with rfl | rfl | rfl <;> decide +kernel

/-- The answer to a line write with another to follow, and to the last one. -/
theorem witness_line_answer (left : List Burst) (e : Bool) :
    let s := asked ((capturing .normal 128).setAsm
      { (capturing .normal 128).asm with queue := [.emit 0 0 1], running := some left }) .lineWrite
      (writing 0 0x3000 [0])
    s.replied .lineWrite { error := e, words := [] } ∧ s.asm.running = some left ∧ s.asm.queue = [.emit 0 0 1] :=
  ⟨replied_asked ⟨rfl, rfl⟩, rfl, rfl⟩

/-- In a RAW frame the write of the last item is answered while a raw piece is held and every entry is in use:
the held piece is taken in that step, and the frame does not complete. -/
theorem witness_line_answer_held (e : Bool) :
    let b := capturing .raw 1024
    let ring : Vector RingEntry 4 := #v[.piece 0 [], .piece 4 [], .piece 8 [], .piece 64 [{ data := 0, be := 7 }]]
    let s := asked (staged (taking (b.setAsm
        { b.asm with
          ring := ring, queue := [.rawPiece 3], running := some [], finalWord := true, chromaHalf := true })
        (writing 1 0x1040 [5])) (.held 0)) .lineWrite (writing 0 0x3040 [0])
    let t := after (.lineWriteAnswer { error := e, words := [] }) s
    s.replied .lineWrite { error := e, words := [] } ∧ s.asm.running = some [] ∧ s.asm.queue = [.rawPiece 3]
      ∧ s.asm.mode = .raw ∧ (∀ i : Fin 4, s.asm.ring[i] ≠ .free)
      ∧ s.bridge.txn.map Txn.stage = some (.held 0)
      ∧ (s.bridge.txn.bind fun x => x.pieces.head?) = some { first := 0, len := 1 }
      ∧ t.asm.queue = [.rawPiece 0] ∧ t.bridge.txn = none ∧ t.asm.frame.isSome = true := by
  intro b ring s t
  refine ⟨replied_asked ⟨by decide +kernel, rfl⟩, ?_, ?_, ?_, ?_, ?_, ?_, ?_, ?_, ?_⟩ <;>
    cases e <;> decide +kernel

/-! ## Witnesses: display -/

/-- A read that starts a view frame and one that does not, for each kind of source. -/
theorem witness_display (s : State) (a : Nat) (h : s = running ∨ s = viewing ∨ s = paging)
    (ha : a = 0x10000 ∨ a = 0x10004) :
    (∃ x p, (taking s (reading 2 a 8)).faces x p .displayRead
        ∧ decide (x.burst.addr + 4 * p.first = a) = true) ∧ s.comp.latch.latched = false := by
  refine ⟨faces_of ?_, ?_⟩ <;> rcases h with rfl | rfl | rfl <;> rcases ha with rfl | rfl <;> decide +kernel

theorem witness_display_sources :
    running.view.current.source = .live ∧ viewing.view.current.source = .frozen 0 3
      ∧ (viewing.slotRec 0).state = .complete ∧ (viewing.slotRec 0).gen = 3
      ∧ (running.slotRec 0).state ≠ .complete := by decide

/-- A latch of slot 0, and a display piece whose stored bytes, keyed or not, are answered. -/
def showing : State :=
  { viewing with
    comp := { viewing.comp with
      latch := latchOf viewing.comp.latch.set ViewContext.liveDefault (.slot 0 3 0x2000) 64 16 } }

theorem witness_stored (e : Bool) (w : Word) :
    let s := asked (staged (taking showing (reading 2 (0x10000 + 320 * 120 + 160) 1)) .stored) .composerStored
      (reading 0 (0x10000 + 320 * 120 + 160) 1)
    s.replied .composerStored { error := e, words := [w] }
      ∧ ∃ x, s.awake = true ∧ s.bridge.txn = some x
        ∧ decide (x.pieces = [{ first := 0, len := 1 }] ∧ x.stage = .stored) = true :=
  ⟨replied_asked ⟨by decide +kernel, rfl⟩, txn_of (by decide +kernel)⟩

/-- Keyed bytes need source bytes, in their source row and the next; unkeyed bytes and border ones need none. -/
theorem witness_needs :
    let l := showing.comp.latch
    let o := 320 * 120 + 160
    (l.pieceNeeds (l.placed o [0x01010100])).map NeedByte.row = [0x2200, 0x2200, 0x2240, 0x2240]
      ∧ l.pieceNeeds (l.placed 0 [0]) = [] ∧
    (fetchList (l.pieceNeeds (l.placed o [0x00000000]))).length = 2
      ∧ fetchList (l.pieceNeeds (l.placed o [0x01010101])) = [] := by decide +kernel

/-- A view pair inside the source, one whose left pixel is border, and one in the last half-pixel of the source,
where the nearest column is clamped. -/
theorem witness_chroma :
    let l := { showing.comp.latch with ox := 0, oy := 0, step := 65535 }
    1 ≤ l.ws ∧ 1 ≤ l.hs ∧ l.ws = 64 ∧ l.hs = 16 ∧ l.base = 0x2000
      ∧ l.borderByte (.chroma 31 0 false) = false ∧ l.borderByte (.chroma 33 0 true) = true
      ∧ (l.needs (.chroma 31 0 true)).map (fun n => n.addr) = [0x2000 + 64 * 16 + 63]
      ∧ (l.needs (.chroma 32 16 false)).map (fun n => n.addr) = [0x2000 + 64 * 16 + 15 * 64 + 62] := by
  decide +kernel

theorem witness_source (rest : List (Nat × Nat)) (e : Bool) (w : Word) :
    let s := asked (staged (taking showing (reading 2 0x10000 1)) (.fetching [0] ((0x2000, 1) :: rest) []))
      .composerSource (reading 0 0x2000 1)
    s.replied .composerSource { error := e, words := [w] }
      ∧ s.bridge.txn.map Txn.stage = some (.fetching [0] ((0x2000, 1) :: rest) [])
      ∧ s.bridge.txn.map Txn.pieces = some [{ first := 0, len := 1 }] := by
  refine ⟨replied_asked ⟨?_, rfl⟩, ?_, ?_⟩ <;> rfl

/-- A keyed and an unkeyed byte, inside the source and at the border. -/
theorem witness_answer_bytes :
    let l := showing.comp.latch
    l.set.kl = 0 ∧ l.borderByte (.luma 160 120) = false ∧ l.borderByte (.luma 0 0) = true
      ∧ l.needs (.luma 160 120) ≠ [] := by decide +kernel

/-! ## Witnesses: view commands -/

theorem witness_view_command (push : Bool) (p1 p2 : Word) :
    let n := if push then 4 else 3
    (handed viewing (packet n 1 p1 p2)).hands n (packet n 1 p1 p2) := by
  cases push <;> exact hands_of ⟨rfl, rfl⟩

/-- The checks of a request at their bounds. -/
theorem witness_view_checks :
    let q := fun (p1 p2 : Word) => (packet 3 0 p1 p2).viewRequest.valuesGood
    q 0x00400000 0x0FFF0FFF = true ∧ q 0x04000003 0 = true ∧ q 0x003F0000 0 = false ∧ q 0x04010000 0 = false
      ∧ q 0x00400004 0 = false ∧ q 0x00400000 0x1000 = false ∧ q 0x00400000 0x10000000 = false := by decide +kernel

/-- A VIEW PAGE or VIEW_PUSH PAGE whose header read is answered. -/
theorem witness_view_header (push : Bool) (ws : List Word) (e : Bool) (hw : ws.length = 8) :
    let p := packet 3 2 0x00400002 0
    let s := asked (doing (paging.setStore
      { paging.store with eod := 2156, trav := some (.viewHeader p.viewRequest push) }) p .engine) .viewHeader
      (reading 0 0x100024 8)
    s.replied .viewHeader { error := e, words := ws } ∧ s.store.trav = some (.viewHeader p.viewRequest push)
      ∧ s.store.position = some 36 ∧ s.cu.cmd = some { packet := some p, stage := .engine } :=
  ⟨replied_asked ⟨rfl, by simp [answerFits, reading, hw]⟩, rfl, rfl, rfl⟩

/-- What the header may be there: good, of another kind, and bad. -/
theorem witness_view_headers :
    ((judgeChain 2156 36 (pageWords 1)).map Header.kind = some .page)
      ∧ ((judgeChain 2156 36 markWords).map Header.kind = some .mark)
      ∧ judgeChain 2116 36 (pageWords 1) = none := by decide +kernel

/-- VIEW_POP of an empty stack and of each kind of entry. -/
theorem witness_pop (stack : List StackEntry) :
    let s := handed (paging.setView { paging.view with stack := stack }) (packet 5 0 0 0)
    s.hands 5 (packet 5 0 0 0) ∧ s.view.stack = stack ∧ s.enginesIdle = true ∧ s.store.formatted = true
      ∧ s.store.eod = 72 :=
  ⟨hands_of ⟨rfl, rfl⟩, rfl, rfl, rfl, rfl⟩

theorem witness_pop_header (ws : List Word) (e : Bool) (hw : ws.length = 8) :
    let g : PagePart := { offset := 0, serial := 1, format := .full, w := 64, h := 16 }
    let s := asked (doing { paging with
      store := { paging.store with eod := 2084, trav := some .popHeader },
      view := { paging.view with
        stack := [{ ctx := { ViewContext.liveDefault with source := .page g }, standing := false }] } }
      (packet 5 0 0 0) .engine) .popHeader (reading 0 0x100000 8)
    s.replied .popHeader { error := e, words := ws } ∧ s.store.trav = some .popHeader
      ∧ s.cu.cmd = some { packet := some (packet 5 0 0 0), stage := .engine }
      ∧ ((judgeChain 2084 0 (pageWords 1)).map Header.serial = some g.serial)
      ∧ (judgeChain 2084 0 (pageWords 2)).map Header.serial ≠ some g.serial :=
  ⟨replied_asked ⟨rfl, by simp [answerFits, reading, hw]⟩, rfl, rfl, by decide +kernel, by decide +kernel⟩

/-! ## Witnesses: the lesson store -/

/-- RECORD and MARK with a frame to record, the position at the end of data, and the view on slot 0. -/
theorem witness_record (p1 : Word) (n : Nat) (h : n = 6 ∨ n = 7 ∨ n = 8 ∨ n = 9 ∨ n = 10 ∨ n = 11) :
    (handed viewing (packet n 0 p1 0)).hands n (packet n 0 p1 0) := by
  rcases h with rfl | rfl | rfl | rfl | rfl | rfl <;> exact hands_of ⟨rfl, rfl⟩

/-- RECORD is accepted from either source; at the bounds of format, source and space it is not. -/
theorem witness_record_checks :
    let at_ := fun o : Nat => viewing.setStore { viewing.store with position := some o, eod := o }
    viewing.checkRecord 0 0 = .accepted 0 .full 0 ∧ viewing.checkRecord 1 1 = .accepted 0 .half 0
      ∧ viewing.checkRecord 2 0 = .refused .badValue ∧ viewing.checkRecord 0 2 = .refused .badValue
      ∧ (at_ 63420).checkRecord 0 0 = .accepted 63420 .full 0 ∧ (at_ 63424).checkRecord 0 0 = .refused .noSpace
      ∧ (at_ 65468).checkMark 255 = .accepted 65468 ∧ (at_ 65472).checkMark 255 = .refused .noSpace
      ∧ (at_ 0).checkMark 256 = .refused .badValue ∧ 64 ≤ (viewing.slotRec 0).wc ∧ 16 ≤ (viewing.slotRec 0).hc := by
  decide +kernel

/-- A copy at a stage. -/
def copying (f : Format) (trigger : Bool) (st : CopyStage) : CopyOp :=
  { job := .page 0, trigger := trigger, offset := 36, stage := st,
    header :=
      { kind := .page, format := f, broken := false, note := false, cycle := 8, serial := 1,
        length := if f = .full then 2084 else 548, lesson := 0, w := if f = .full then 64 else 32,
        h := if f = .full then 16 else 8, z := 0, frame := 8, time := 0, cx := 0, cy := 0 } }

theorem witness_copy (f : Format) (trigger e : Bool) (st : CopyStage) (p : Purpose) :
    let s := asked (doing (viewing.setStore { viewing.store with copy := some (copying f trigger st) })
      (packet 6 0 0 0) .engine) p (writing 0 0x100000 (List.replicate 8 0))
    s.replied p { error := e, words := [] } ∧ s.store.copy = some (copying f trigger st)
      ∧ s.cu.cmd = some { packet := some (packet 6 0 0 0), stage := .engine } :=
  ⟨replied_asked ⟨rfl, rfl⟩, rfl, rfl⟩

/-- A chunk with more of the payload behind it, and the last one. -/
theorem witness_copy_chunks :
    0 + min 32 (2 * 64 * 16 - 0) < 2 * 64 * 16 ∧ 2 * 64 * 16 ≤ 2016 + min 32 (2 * 64 * 16 - 2016)
      ∧ 480 + min 32 (32 - 480 % 32) = 2 * 32 * 8 := by decide

/-- The smallest HALF page, at its first and its last chunk. -/
theorem witness_half_page :
    (32 : Nat) ≤ 32 ∧ 32 % 8 = 0 ∧ 1 ≤ 8 ∧ 0 < 2 * 32 * 8 ∧ 0 % 32 % 32 = 0 ∧ 480 < 2 * 32 * 8
      ∧ 480 % 32 % 32 = 0 := by decide

theorem witness_clear_answer (e : Bool) :
    let c : CopyOp :=
      { job := .clear, trigger := false, offset := 0, header := Header.ofEnd 0, stage := .clear }
    let s := asked (doing (running.setStore { running.store with copy := some c }) (packet 9 0 0 0) .engine)
      .clearWrite (writing 0 0x100000 (List.replicate 8 0))
    s.replied .clearWrite { error := e, words := [] } ∧ s.store.copy = some c ∧ c.job = .clear
      ∧ s.cu.cmd = some { packet := some (packet 9 0 0 0), stage := .engine } :=
  ⟨replied_asked ⟨rfl, rfl⟩, rfl, rfl, rfl⟩

/-- The answer to a read of a traversal at offset 36 of a chain of 2,120 bytes. -/
theorem witness_traversal (mode : MoveMode) (passed : Nat) (st : MoveStage) (ws : List Word) (e : Bool)
    (hw : ws.length = 8) :
    let s := asked (doing (running.setStore
      { running.store with position := some 36, eod := 2120, trav := some (.move mode 1 passed st) })
      (packet 8 0 0 0) .engine) .moveRead (reading 0 0x100024 8)
    s.replied .moveRead { error := e, words := ws } ∧ s.store.trav = some (.move mode 1 passed st)
      ∧ s.store.position = some 36 ∧ s.cu.cmd = some { packet := some (packet 8 0 0 0), stage := .engine }
      ∧ 1 ≤ 1 :=
  ⟨replied_asked ⟨rfl, by simp [answerFits, reading, hw]⟩, rfl, rfl, rfl, by decide⟩

/-- A page and a mark in the chain, forward and back, and a header past its end. -/
theorem witness_traversal_headers :
    ((judgeChain 2120 36 (pageWords 0)).map Header.length = some 2084)
      ∧ ((judgeChain 2120 0 markWords).map Header.length = some 36)
      ∧ judgeChain 2116 36 (pageWords 0) = none ∧ backLengthGood 36 36 = true ∧ backLengthGood 40 36 = false
      ∧ backLengthGood 32 36 = false := by decide +kernel

/-! ## Witnesses: triggers -/

theorem witness_advance (passed : Bool) (ws : List Word) (e : Bool) (hw : ws.length = 8) :
    let s := asked (paging.setStore
      { paging.store with position := some 0, eod := 2084, trav := some (.advance passed) }) .advanceRead
      (reading 0 0x100000 8)
    s.replied .advanceRead { error := e, words := ws } ∧ s.store.trav = some (.advance passed)
      ∧ s.store.position = some 0 ∧ s.currentPage = some 0
      ∧ ((judgeChain 2084 0 (pageWords 0)).map Header.serial = some 0)
      ∧ (judgeChain 2084 0 (pageWords 9)).map Header.serial ≠ some 0 :=
  ⟨replied_asked ⟨rfl, by simp [answerFits, reading, hw]⟩, rfl, rfl, rfl, by decide +kernel, by decide +kernel⟩

/-- Both entries fire in a frame whose cycle count is 63, and only the first in another; no entry has line 7. -/
theorem witness_line_event :
    let at_ := fun n : Word => armed.setTimer { armed.timer with frameNumber := n }
    armed.timer.triggers.Pairwise (fun x y => x.line < y.line)
      ∧ armed.timer.triggers.map (fun e => e.fires e.line (at_ 63).timer.frameNumber) = [true, true]
      ∧ armed.timer.triggers.map (fun e => e.fires e.line (at_ 62).timer.frameNumber) = [true, false]
      ∧ armed.timer.triggers.map (fun e => e.fires 7 63) = [false, false] := by decide +kernel

/-- A CAPTURE that its checks accept, of a slot of 64 by 16, reads the first eight words of the slot. -/
theorem witness_trigger_capture (half : BitVec 1) :
    let entry : Trigger :=
      { line := 0, k := 0, r := 0, action := .capture, arg := BitVec.setWidth 16 half, enabled := true, fired := false }
    let s := { running with slots := filled 0, timer := { running.timer with triggers := [entry] } }
    s.enginesIdle = true ∧ (s.slotRec 0).wc = 64 ∧ (s.slotRec 0).hc = 16
      ∧ s.checkRecord half.toNat 0 = .accepted 0 (if half = 0 then .full else .half) 0
      ∧ ((s.lineEvent 0).port.waiting .store).map (fun r => r.burst) = some (reading 0 0x2000 8) := by
  have : half = 0 ∨ half = 1 := by revert half; decide
  rcases this with rfl | rfl <;> decide +kernel

/-- A list being read, with more to come or its last words. -/
theorem witness_trigger_list (total : Nat) (ws : List Word) (e : Bool) (hw : ws.length = 8) :
    let s := asked (doing running (packet 11 0 0 0) (.listRead 0x1FFFFC0 total [])) .triggerList
      (reading 0 0x1FFFFC0 8)
    s.replied .triggerList { error := e, words := ws }
      ∧ s.cu.cmd = some { packet := some (packet 11 0 0 0), stage := .listRead 0x1FFFFC0 total [] }
      ∧ 0x1FFFFC0 + 4 * 8 + 4 * min 8 (16 - 8) ≤ 0x2000000 ∧ 0x2000000 < 0x1FFFFE0 + 4 * 8 + 4 * min 8 (16 - 8) :=
  ⟨replied_asked ⟨rfl, by simp [answerFits, reading, hw]⟩, rfl, by decide, by decide⟩

/-- The tests of an entry at their bounds, and of the order. -/
theorem witness_entry :
    checkEntry 16 none 0x803F600F 0 ≠ .bad .badValue ∧ checkEntry 16 none 0x80006010 0 = .bad .badValue
      ∧ checkEntry 16 none 0x8000700F 0 = .bad .badValue ∧ checkEntry 16 none 0x8001000F 0 = .bad .badValue
      ∧ checkEntry 16 none 0x8500000F 0 = .bad .badValue ∧ checkEntry 16 (some 15) 0x8000000F 0 = .bad .listOrder
      ∧ checkEntry 16 (some 14) 0x8400000F 0 ≠ .bad .listOrder := by decide +kernel

end Sys2Proof.Tests
end

/-! The arithmetic of sharpening (R49 to R52): the blur, the cored detail, the boosted detail and the clamp each
have their facts by themselves, and the obligation about the sharpened value is put together from them. -/

namespace Sys2Proof.Machine

/-! ## The blur and the detail (R49, R50) -/

/-- Every value of the neighbourhood is a byte, as raw luma is. -/
structure Neigh.AllBytes (p : Neigh) : Prop where
  nw : p.nw ≤ 255
  n : p.n ≤ 255
  ne : p.ne ≤ 255
  w : p.w ≤ 255
  c : p.c ≤ 255
  e : p.e ≤ 255
  sw : p.sw ≤ 255
  s : p.s ≤ 255
  se : p.se ≤ 255

/-- The weighted sum in the order in which R49 names the weights. -/
def Neigh.weightedSum (p : Neigh) : Nat :=
  4 * p.c + 2 * (p.n + p.w + p.e + p.s) + (p.nw + p.ne + p.sw + p.se)

theorem Neigh.blur_eq_weightedSum (p : Neigh) : p.blur = (p.weightedSum + 8) / 16 := by
  have same_sum : p.nw + p.ne + p.sw + p.se + 2 * (p.n + p.w + p.e + p.s) + 4 * p.c = p.weightedSum := by
    unfold Neigh.weightedSum
    omega
  rw [Neigh.blur, same_sum]

/-- The weights sum to 16, and 16 · 255 = 4080. -/
theorem Neigh.AllBytes.weightedSum_le {p : Neigh} (h : p.AllBytes) : p.weightedSum ≤ 4080 := by
  obtain ⟨hnw, hn, hne, hw, hc, he, hsw, hs, hse⟩ := h
  unfold Neigh.weightedSum
  omega

theorem Neigh.AllBytes.blur_le {p : Neigh} (h : p.AllBytes) : p.blur ≤ 255 := by
  have := h.weightedSum_le
  rw [p.blur_eq_weightedSum]
  omega

theorem Neigh.blur_of_equal {p : Neigh}
    (h : p.n = p.c ∧ p.w = p.c ∧ p.e = p.c ∧ p.s = p.c ∧ p.nw = p.c ∧ p.ne = p.c ∧ p.sw = p.c ∧ p.se = p.c) :
    p.blur = p.c := by
  obtain ⟨hn, hw, he, hs, hnw, hne, hsw, hse⟩ := h
  have sum_eq : p.weightedSum = 16 * p.c := by
    simp only [Neigh.weightedSum, hn, hw, he, hs, hnw, hne, hsw, hse]
    omega
  rw [p.blur_eq_weightedSum, sum_eq]
  omega

theorem Neigh.AllBytes.detail_bounds {p : Neigh} (h : p.AllBytes) : -255 ≤ p.detail ∧ p.detail ≤ 255 := by
  have hb := h.blur_le
  have hc := h.c
  unfold Neigh.detail
  omega

/-! ## Coring (R50) -/

theorem core_of_within {t : Nat} {d : Int} (lo : -(t : Int) ≤ d) (hi : d ≤ t) : core t d = 0 := by
  rw [core, if_neg (Int.not_lt.mpr hi), if_neg (Int.not_lt.mpr lo)]

theorem core_of_above {t : Nat} {d : Int} (h : d > t) : core t d = d - t := if_pos h

theorem core_of_below {t : Nat} {d : Int} (h : d < -(t : Int)) : core t d = d + t := by
  rw [core, if_neg (by omega), if_pos h]

/-- Coring takes the threshold from the size of a detail, down to nothing. -/
theorem core_natAbs (t : Nat) (d : Int) : (core t d).natAbs = d.natAbs - t := by
  rcases Int.lt_or_le (t : Int) d with above | hi
  · rw [core_of_above above]
    omega
  · rcases Int.lt_or_le d (-(t : Int)) with below | lo
    · rw [core_of_below below]
      omega
    · rw [core_of_within lo hi]
      omega

theorem core_threshold_zero (d : Int) : core 0 d = d := by
  rcases Int.lt_trichotomy d 0 with below | rfl | above
  · exact (core_of_below below).trans (Int.add_zero d)
  · exact core_of_within (Int.le_refl 0) (Int.le_refl 0)
  · exact (core_of_above above).trans (Int.sub_zero d)

/-! ## Boosting (R51) -/

theorem boost_of_neg {g : Nat} {c : Int} (h : c < 0) :
    boost g c = -(((g * c.natAbs + 8) / 16 : Nat) : Int) := if_pos h

theorem boost_of_nonneg {g : Nat} {c : Int} (h : 0 ≤ c) :
    boost g c = (((g * c.natAbs + 8) / 16 : Nat) : Int) := if_neg (Int.not_lt.mpr h)

theorem boost_natAbs (g : Nat) (c : Int) : (boost g c).natAbs = (g * c.natAbs + 8) / 16 := by
  rcases Int.lt_or_le c 0 with neg | nonneg
  · rw [boost_of_neg neg, Int.natAbs_neg, Int.natAbs_natCast]
  · rw [boost_of_nonneg nonneg, Int.natAbs_natCast]

theorem boost_nonneg {g : Nat} {c : Int} (h : 0 ≤ c) : 0 ≤ boost g c := by
  rw [boost_of_nonneg h]
  exact Int.natCast_nonneg _

/-- A cored detail of 0 is boosted to 8 div 16, which is 0 and so keeps both signs. -/
theorem boost_nonpos {g : Nat} {c : Int} (h : c ≤ 0) : boost g c ≤ 0 := by
  rcases Int.lt_or_eq_of_le h with neg | rfl
  · rw [boost_of_neg neg]
    exact Int.neg_nonpos_of_nonneg (Int.natCast_nonneg _)
  · rw [boost_of_nonneg (Int.le_refl 0), Int.natAbs_zero, Nat.mul_zero]
    exact Int.le_refl 0

/-- A gain of `16 · k` multiplies by `k`: there is nothing to round. -/
theorem boost_gain_multiple (k : Nat) (c : Int) : boost (16 * k) c = k * c := by
  have size_eq : (16 * k * c.natAbs + 8) / 16 = k * c.natAbs := by
    rw [Nat.mul_assoc]
    omega
  rcases Int.lt_or_le c 0 with neg | nonneg
  · rw [boost_of_neg neg, size_eq, Int.natCast_mul, Int.ofNat_natAbs_of_nonpos (Int.le_of_lt neg), Int.mul_neg,
      Int.neg_neg]
  · rw [boost_of_nonneg nonneg, size_eq, Int.natCast_mul, Int.natAbs_of_nonneg nonneg]

theorem boost_gain_zero (c : Int) : boost 0 c = 0 :=
  (boost_gain_multiple 0 c).trans (Int.zero_mul c)

theorem boost_gain_sixteen (c : Int) : boost 16 c = c :=
  (boost_gain_multiple 1 c).trans (Int.one_mul c)

theorem boost_gain_thirtyTwo (c : Int) : boost 32 c = 2 * c := boost_gain_multiple 2 c

/-! ## The clamp (R52) -/

theorem clampByte_of_neg {x : Int} (h : x < 0) : clampByte x = 0 := if_pos h

theorem clampByte_of_gt {x : Int} (h : 255 < x) : clampByte x = 255 := by
  rw [clampByte, if_neg (by omega), if_pos h]

theorem clampByte_of_mem {x : Int} (lo : 0 ≤ x) (hi : x ≤ 255) : (clampByte x : Int) = x := by
  rw [clampByte, if_neg (Int.not_lt.mpr lo), if_neg (Int.not_lt.mpr hi), Int.toNat_of_nonneg lo]

theorem sharpen_gain_zero (t : Nat) {p : Neigh} (h : p.c ≤ 255) : sharpen t 0 p = p.c := by
  rw [sharpen, boost_gain_zero, Int.add_zero]
  exact Int.ofNat_inj.mp (clampByte_of_mem (by omega) (by omega))

/-! ## The sharpened value -/

/-- Settles O16: the blur, the detail and the boosted detail of the model are the values asked for. -/
theorem sharpeningArithmetic : Obligations.SharpeningArithmetic := by
  intro t g p _ht hg hnw hn hne hw hc he hsw hs hse
  have bytes : p.AllBytes := ⟨hnw, hn, hne, hw, hc, he, hsw, hs, hse⟩
  obtain ⟨detail_ge, detail_le⟩ := bytes.detail_bounds
  have core_le : (core t p.detail).natAbs ≤ 255 - t := by
    rw [core_natAbs]
    omega
  have product_le : g * (core t p.detail).natAbs ≤ 16065 :=
    Nat.mul_le_mul hg (Nat.le_trans core_le (Nat.sub_le 255 t))
  refine ⟨p.blur, p.detail, core t p.detail, boost g (core t p.detail), ?blur, ?detail, ?boosted, ?clamped⟩
  case blur =>
    exact ⟨p.blur_eq_weightedSum, bytes.weightedSum_le, bytes.blur_le, Neigh.blur_of_equal⟩
  case detail =>
    refine ⟨rfl, detail_ge, detail_le, fun within => core_of_within within.1 within.2, core_of_above,
      core_of_below, core_le, ?_⟩
    rintro rfl
    exact core_threshold_zero _
  case boosted =>
    refine ⟨boost_natAbs _ _, product_le, ?_, boost_nonneg, boost_nonpos, ?_, ?_, ?_⟩
    · rw [boost_natAbs]
      omega
    · rintro rfl
      exact boost_gain_sixteen _
    · rintro rfl
      exact boost_gain_thirtyTwo _
    · rintro rfl
      exact ⟨boost_gain_zero _, sharpen_gain_zero t hc⟩
  case clamped =>
    exact ⟨clampByte_of_neg, clampByte_of_gt, clampByte_of_mem⟩

end Sys2Proof.Machine

/-! The tone slope and the tone stage (R56, R57), and the white tracker (R61, R62). Each value the rules name has
its own facts; the two obligations are put together from them. -/

namespace Sys2Proof.Machine

/-! ## The tone slope (R56) -/

/-- The slope is least at the widest range, 255: there 65280 = 255 · 256 gives exactly 256. -/
theorem le_toneSlope {b wp : Nat} (room : b + 32 ≤ wp) (cap : wp ≤ 255) : 256 ≤ toneSlope b wp := by
  rw [toneSlope, Nat.le_div_iff_mul_le (by omega)]
  omega

/-- The slope is greatest at the narrowest range, 32: there 65280 = 32 · 2040 gives exactly 2040. -/
theorem toneSlope_le {b wp : Nat} (room : b + 32 ≤ wp) : toneSlope b wp ≤ 2040 := by
  rw [toneSlope, ← Nat.lt_succ_iff, Nat.div_lt_iff_lt_mul (by omega)]
  omega

theorem toneSlope_mul_width_le (b wp : Nat) : toneSlope b wp * (wp - b) ≤ 65280 + (wp - b) / 2 :=
  Nat.div_mul_le_self _ _

/-! ## The tone stage (R57) -/

section
variable {m : Params} {s s' : Nat}

theorem Params.inBounds.room (h : m.inBounds) : m.b + 32 ≤ m.wp := by
  obtain ⟨-, -, -, room, -⟩ := h
  exact room

theorem tone_of_le_black (h : s ≤ m.b) : tone m s = 0 := if_pos h

theorem tone_of_white_le (room : m.b + 32 ≤ m.wp) (h : m.wp ≤ s) : tone m s = 255 := by
  rw [tone, if_neg (by omega), if_pos h]

theorem tone_of_between (lo : m.b < s) (hi : s < m.wp) : tone m s = ((s - m.b) * m.k + 128) / 256 := by
  rw [tone, if_neg (Nat.not_le.mpr lo), if_neg (Nat.not_le.mpr hi)]

theorem Params.inBounds.tone_pos (h : m.inBounds) (lo : m.b < s) (hi : s < m.wp) : 1 ≤ tone m s := by
  obtain ⟨-, -, -, room, cap, hk, -⟩ := h
  have slope_ge : 256 ≤ m.k := hk ▸ le_toneSlope room cap
  have product_ge : 1 * 256 ≤ (s - m.b) * m.k := Nat.mul_le_mul (by omega) slope_ge
  rw [tone_of_between lo hi]
  omega

/-- One level below the white point the product is a whole slope short of 65280 and half the width, and the slope
exceeds half the width by more than the 128 that rounds. -/
theorem Params.inBounds.tone_le (h : m.inBounds) (lo : m.b < s) (hi : s < m.wp) : tone m s ≤ 254 := by
  obtain ⟨-, -, -, room, cap, hk, -⟩ := h
  have slope_ge : 256 ≤ m.k := hk ▸ le_toneSlope room cap
  have whole_le : m.k * (m.wp - m.b) ≤ 65280 + (m.wp - m.b) / 2 := hk ▸ toneSlope_mul_width_le m.b m.wp
  have product_le : (s - m.b) * m.k + m.k ≤ m.k * (m.wp - m.b) :=
    calc (s - m.b) * m.k + m.k = (s - m.b + 1) * m.k := (Nat.succ_mul _ _).symm
      _ ≤ (m.wp - m.b) * m.k := Nat.mul_le_mul_right _ (by omega)
      _ = m.k * (m.wp - m.b) := Nat.mul_comm _ _
  rw [tone_of_between lo hi]
  omega

theorem Params.inBounds.tone_le_white (h : m.inBounds) (s : Nat) : tone m s ≤ 255 := by
  rcases Nat.lt_or_ge m.b s with lo | black
  · rcases Nat.lt_or_ge s m.wp with hi | white
    · exact Nat.le_succ_of_le (h.tone_le lo hi)
    · exact Nat.le_of_eq (tone_of_white_le h.room white)
  · rw [tone_of_le_black black]
    exact Nat.zero_le _

theorem Params.inBounds.tone_mono (h : m.inBounds) (le : s' ≤ s) : tone m s' ≤ tone m s := by
  rcases Nat.lt_or_ge m.b s' with lo | black
  · rcases Nat.lt_or_ge s m.wp with hi | white
    · have product_le : (s' - m.b) * m.k ≤ (s - m.b) * m.k :=
        Nat.mul_le_mul_right _ (Nat.sub_le_sub_right le _)
      rw [tone_of_between lo (Nat.lt_of_le_of_lt le hi), tone_of_between (Nat.lt_of_lt_of_le lo le) hi]
      omega
    · rw [tone_of_white_le h.room white]
      exact h.tone_le_white s'
  · rw [tone_of_le_black black]
    exact Nat.zero_le _

end

/-- Settles O17: the bounds of the slope keep the middle of the tone stage between its two ends. -/
theorem toneStage : Obligations.ToneStage := by
  refine ⟨fun b wp room cap => ⟨rfl, le_toneSlope room cap, toneSlope_le room⟩, fun m s h _ => ?_⟩
  exact ⟨tone_of_le_black, tone_of_white_le h.room,
    fun lo hi => ⟨tone_of_between lo hi, h.tone_pos lo hi, h.tone_le lo hi⟩, fun _ => h.tone_mono⟩

/-! ## The tail counts and the white bin (R61) -/

section
variable {h : Vector Nat 64}

theorem tailCount_end : tailCount h 64 = 0 := by
  rw [tailCount, List.drop_of_length_le (by simp), List.sum_nil]

theorem tailCount_bin (i : Fin 64) : tailCount h i = h[i] + tailCount h (i + 1) := by
  rw [tailCount, List.drop_eq_getElem_cons (by simp), List.sum_cons]
  simp [tailCount]

/-- The search always ends, since the tail count of 64 is 0; so the white bin is the index found, and every
smaller one has failed. -/
theorem whiteBin_isLeast (threshold : Nat) :
    whiteBin h threshold ≤ 64 ∧ tailCount h (whiteBin h threshold) ≤ threshold
      ∧ ∀ i < whiteBin h threshold, threshold < tailCount h i := by
  have found : ((List.range 65).find? fun i => decide (tailCount h i ≤ threshold)).isSome :=
    List.find?_isSome.mpr ⟨64, by simp, by simp [tailCount_end]⟩
  obtain ⟨j, hj⟩ := Option.isSome_iff_exists.mp found
  have bin_eq : whiteBin h threshold = j := by rw [whiteBin, hj, Option.getD_some]
  obtain ⟨small, inRange, smaller⟩ := List.find?_range_eq_some.mp hj
  rw [bin_eq]
  exact ⟨Nat.lt_succ_iff.mp (List.mem_range.mp inRange), of_decide_eq_true small,
    fun i lt => by simpa using smaller i lt⟩

/-- When the first tail count is above the threshold, bin 0 is not the white bin. -/
theorem whiteBin_pos {threshold : Nat} (above : threshold < tailCount h 0) : 1 ≤ whiteBin h threshold := by
  obtain ⟨-, tail_le, -⟩ := whiteBin_isLeast (h := h) threshold
  rw [Nat.one_le_iff_ne_zero]
  intro zero
  rw [zero] at tail_le
  omega

end

/-- The share A is at most 128 of 256, so the threshold is less than a frame of any pixels at all. -/
theorem whiteThreshold_lt {n a : Nat} (share : a ≤ 128) (pixels : 0 < n) : n * a / 256 < n := by
  have product_le : n * a ≤ n * 128 := Nat.mul_le_mul_left n share
  omega

/-! ## The step toward the target (R62) -/

section
variable {d : Int}

theorem trackStep_zero : trackStep 0 = 0 := by decide

theorem trackStep_neg (d : Int) : trackStep (-d) = -trackStep d := by
  simp only [trackStep, Int.neg_tdiv]
  omega

theorem trackStep_of_near (pos : 0 < d) (near : d < 4) : trackStep d = 1 := by
  have quarter : d.tdiv 4 = 0 := Int.tdiv_eq_zero_of_lt (Int.le_of_lt pos) near
  rw [trackStep, quarter, if_neg (not_not_intro rfl), if_pos pos]

theorem trackStep_of_near_neg (neg : d < 0) (near : -4 < d) : trackStep d = -1 := by
  rw [← Int.neg_neg d, trackStep_neg, trackStep_of_near (by omega) (by omega)]

theorem trackStep_of_far (far : 4 ≤ d.natAbs) : trackStep d = d.tdiv 4 := by
  have quarter : (d.tdiv 4).natAbs = d.natAbs / 4 := Int.natAbs_tdiv d 4
  rw [trackStep, if_pos (by omega)]

theorem natAbs_trackStep_of_far (far : 4 ≤ d.natAbs) : (trackStep d).natAbs = d.natAbs / 4 := by
  rw [trackStep_of_far far]
  exact Int.natAbs_tdiv d 4

theorem trackStep_pos_of_far (far : 4 ≤ d) : 0 < trackStep d := by
  rw [trackStep_of_far (by omega), Int.tdiv_eq_ediv_of_nonneg (by omega)]
  omega

/-- The step has the sign of the difference: below zero it is the negated step of the negated difference. -/
theorem trackStep_mul_pos_of_far (far : 4 ≤ d.natAbs) : 0 < trackStep d * d := by
  rcases Int.le_total 0 d with nonneg | nonpos
  · exact Int.mul_pos (trackStep_pos_of_far (by omega)) (by omega)
  · rw [← Int.neg_mul_neg, ← trackStep_neg]
    exact Int.mul_pos (trackStep_pos_of_far (by omega)) (by omega)

end

/-! ## The new white point (R62) -/

theorem trackedWp_eq_clamp {b : Nat} (cap : b + 32 ≤ 255) (wp j : Nat) :
    (trackedWp b wp j : Int)
      = max ((b : Int) + 32) (min 255 ((wp : Int) + trackStep (((min (4 * j) 255 : Nat) : Int) - wp))) := by
  simp only [trackedWp]
  split
  · omega
  · split <;> omega

/-- Settles O18: the white bin is the least index found, and the step and the clamp give the new white point. -/
theorem whiteTracker : Obligations.WhiteTracker := by
  rintro e wc hc ⟨-, -, black, room, cap, -, -, share⟩
  obtain ⟨bin_le, tail_le, tail_above⟩ := whiteBin_isLeast (h := e.hist) (wc * hc * e.latch.a / 256)
  refine ⟨whiteBin e.hist (wc * hc * e.latch.a / 256), _, _, trackStep _, trackedWp _ _ _,
    ⟨tailCount_end, tailCount_bin⟩, ⟨bin_le, tail_le, tail_above, ?bin_pos⟩, rfl, rfl, ?diff,
    fun far => ⟨natAbs_trackStep_of_far far, trackStep_mul_pos_of_far far⟩, trackStep_of_near,
    trackStep_of_near_neg, ?level, trackedWp_eq_clamp (by omega) _ _, rfl, rfl, rfl⟩
  case bin_pos =>
    intro all pixels
    exact whiteBin_pos (all.symm ▸ whiteThreshold_lt share pixels)
  case diff => omega
  case level =>
    intro level
    rw [level, trackStep_zero]

end Sys2Proof.Machine

/-! The view latch's arithmetic (R72, R73): the fit step, the zoom step and the origin along one axis each have
their own facts; the obligation is put together from them. -/

namespace Sys2Proof.Machine

/-! ## The fit step (R72) -/

section
variable {v : ViewSet} {ws hs : Nat}

/-- The horizontal step alone keeps the fit step up: a HALF page 32 pixels wide on the widest view has 1092. -/
theorem le_fitStep (pos : 0 < v.wv) (narrow : v.wv ≤ 1920) (wide : 32 ≤ ws) : 1092 ≤ fitStep ws hs v :=
  calc 1092 = 32 * 65536 / 1920 := rfl
    _ ≤ ws * 65536 / v.wv := Nat.div_le_div (Nat.mul_le_mul_right _ wide) narrow (Nat.ne_of_gt pos)
    _ ≤ fitStep ws hs v := Nat.le_max_left _ _

/-- Each axis is at its greatest with the largest source on the smallest view, and both then give 419430. -/
theorem fitStep_le (wide : 320 ≤ v.wv) (tall : 240 ≤ v.hv) (narrow : ws ≤ 2048) (low : hs ≤ 1536) :
    fitStep ws hs v ≤ 419430 := by
  have across : ws * 65536 / v.wv ≤ 2048 * 65536 / 320 :=
    Nat.div_le_div (Nat.mul_le_mul_right _ narrow) wide (by decide)
  have down : hs * 65536 / v.hv ≤ 1536 * 65536 / 240 :=
    Nat.div_le_div (Nat.mul_le_mul_right _ low) tall (by decide)
  exact Nat.max_le.mpr ⟨across, down⟩

end

/-! ## The zoom step (R72) -/

section
variable {z : Nat}

@[simp] theorem zoomStepOf_sixtyFour (fit : Nat) : zoomStepOf fit 64 = fit :=
  Nat.mul_div_cancel fit (by decide)

@[simp] theorem zoomStepOf_thousandTwentyFour (fit : Nat) : zoomStepOf fit 1024 = fit / 16 :=
  Nat.mul_div_mul_right fit 16 (by decide : 0 < 64)

theorem zoomStepOf_le (fit : Nat) (least : 64 ≤ z) : zoomStepOf fit z ≤ fit :=
  calc zoomStepOf fit z ≤ zoomStepOf fit 64 := Nat.div_le_div_left least (by decide)
    _ = fit := zoomStepOf_sixtyFour fit

theorem le_zoomStepOf (fit : Nat) (pos : 0 < z) (most : z ≤ 1024) : fit / 16 ≤ zoomStepOf fit z :=
  calc fit / 16 = zoomStepOf fit 1024 := (zoomStepOf_thousandTwentyFour fit).symm
    _ ≤ zoomStepOf fit z := Nat.div_le_div_left most pos

end

/-! ## The origin along one axis (R73) -/

section
variable {step view source : Nat}

/-- The two tests of the clamp give a `max` over a `min` because the room left is not negative. -/
theorem originOf_of_le (centre : Nat) (fits : step * view ≤ source * 65536) :
    originOf centre step view source
      = max 0 (min ((source * 65536 : Int) - step * view)
          (((min centre (source - 1) * 65536 : Nat) : Int) - (step * view / 2 : Nat))) := by
  have room : (0 : Int) ≤ (source * 65536 : Int) - step * view := by omega
  simp only [originOf, if_pos fits, Int.natCast_mul]
  split
  · omega
  · split <;> omega

/-- No room is left, so the clamp leaves nothing of the centre. -/
theorem originOf_of_eq (centre : Nat) (spans : step * view = source * 65536) :
    originOf centre step view source = 0 := by
  have noRoom : (source * 65536 : Int) - step * view = 0 := by omega
  rw [originOf_of_le centre (Nat.le_of_eq spans), noRoom]
  exact Int.max_eq_left (Int.min_le_left 0 _)

theorem originOf_of_lt (centre : Nat) (wider : source * 65536 < step * view) :
    originOf centre step view source = ((source * 65536 : Int) - step * view) / 2 := by
  rw [originOf, if_neg (Nat.not_le_of_lt wider), Int.fdiv_eq_ediv_of_nonneg _ (by decide),
    Int.natCast_mul, Int.natCast_mul, Int.cast_ofNat_Int]

theorem originOf_letterbox (centre : Nat) (wider : source * 65536 < step * view) :
    originOf centre step view source < 0
      ∧ 2 * originOf centre step view source ≤ (source * 65536 : Int) - step * view
      ∧ (source * 65536 : Int) - step * view < 2 * originOf centre step view source + 2 := by
  have short : (source * 65536 : Int) < step * view := by omega
  rw [originOf_of_lt centre wider]
  omega

end

@[simp] theorem latchOf_step (v : ViewSet) (c : ViewContext) (src : LatchSource) (ws hs : Nat) :
    (latchOf v c src ws hs).step = zoomStepOf (fitStep ws hs v) c.z := rfl

/-- Settles O19: the step's bounds follow from the fit step's, and both axes are read off the same origin facts. -/
theorem fitAndOrigin : Obligations.FitAndOrigin := by
  intro v c src ws hs wv_ge wv_le hv_ge _ ws_ge ws_le _ hs_le z_ge z_le
  have fit_ge : 1092 ≤ fitStep ws hs v := le_fitStep (by omega) wv_le ws_ge
  have fit_le : fitStep ws hs v ≤ 419430 := fitStep_le wv_ge hv_ge ws_le hs_le
  have step_ge : 68 ≤ zoomStepOf (fitStep ws hs v) c.z :=
    calc 68 = 1092 / 16 := rfl
      _ ≤ fitStep ws hs v / 16 := Nat.div_le_div_right fit_ge
      _ ≤ zoomStepOf (fitStep ws hs v) c.z := le_zoomStepOf _ (by omega) z_le
  have step_le : zoomStepOf (fitStep ws hs v) c.z ≤ 419430 := Nat.le_trans (zoomStepOf_le _ z_ge) fit_le
  refine ⟨⟨fitStep ws hs v, rfl, rfl, ?unzoomed, ?closest, fit_ge, fit_le⟩, step_ge, step_le,
    Nat.mul_le_mul step_le wv_le, ⟨originOf_of_le _, originOf_letterbox _, originOf_of_eq _⟩,
    ⟨originOf_of_le _, originOf_letterbox _, originOf_of_eq _⟩⟩
  case unzoomed =>
    intro z_eq
    rw [latchOf_step, z_eq, zoomStepOf_sixtyFour]
  case closest =>
    intro z_eq
    rw [latchOf_step, z_eq, zoomStepOf_thousandTwentyFour]

end Sys2Proof.Machine

/-! ZOOM_STEP (R94): where the moved zoom lies on each side of its target, and what a change of the view controller
leaves alone. -/

namespace Sys2Proof.Machine

/-! ## The moved zoom -/

section
variable {z zt : Nat}

theorem moveZoom_of_le (step : Nat) (below : z ≤ zt) : moveZoom z zt step = min (z + step) zt := by
  rcases Nat.lt_or_eq_of_le below with short | rfl
  · rw [moveZoom, if_pos short]
    omega
  · rw [moveZoom, if_neg (Nat.lt_irrefl z)]
    omega

theorem moveZoom_of_ge (step : Nat) (above : zt ≤ z) : moveZoom z zt step = max (z - step) zt := by
  rw [moveZoom, if_neg (Nat.not_lt_of_le above)]
  omega

/-- A step of at least the distance, on whichever side of the target, stops at the target. -/
theorem moveZoom_of_reach {step : Nat} (up : zt ≤ z + step) (down : z ≤ zt + step) :
    moveZoom z zt step = zt := by
  rcases Nat.le_total z zt with below | above
  · rw [moveZoom_of_le step below, Nat.min_eq_right up]
  · rw [moveZoom_of_ge step above, Nat.max_eq_right (Nat.sub_le_of_le_add down)]

/-- 960 is the width of the range of zooms, 64 to 1024 (R83). -/
theorem ViewContext.inRange.moveZoom_eq {c : ViewContext} {step : Nat} (range : c.inRange) (wide : 960 ≤ step) :
    moveZoom c.z c.zt step = c.zt := by
  obtain ⟨z_ge, z_le, zt_ge, zt_le, -, -⟩ := range
  exact moveZoom_of_reach (by omega) (by omega)

end

/-! ## The frame of a change of the view -/

theorem State.setView_onlyChanges (s : State) (v : ViewController) : OnlyChanges [.view] s (s.setView v) := by
  intro b outside
  cases b with
  | view => exact absurd (List.mem_singleton.mpr rfl) outside
  | _ => rfl

@[simp] theorem State.zoomStep_z (s : State) (n : Nat) :
    (s.zoomStep n).view.current.z = moveZoom s.view.current.z s.view.current.zt n := rfl

/-- Settles O21: the new zoom is `moveZoom` of the old one, and the step is a change of the view alone. -/
theorem zoomStepMoves : Obligations.ZoomStepMoves := by
  intro s n
  refine ⟨s.zoomStep n, rfl, ?rises, ?falls, ?reaches, rfl, s.setView_onlyChanges _⟩ <;> rw [s.zoomStep_z n]
  case rises => exact moveZoom_of_le n
  case falls => exact moveZoom_of_ge n
  case reaches => exact ViewContext.inRange.moveZoom_eq

end Sys2Proof.Machine

/-! The lost-signal watch (R139, R140): when it expires, what a posting leaves in the Command Unit and at the memory
port (R169, R170), and that an expiry switches off the watch it came from. -/

namespace Sys2Proof.Machine

/-! ## A posting and the NOTICE that is due (R169, R170) -/

theorem Notices.isEmpty_iff (n : Notices) : n.isEmpty = true ↔ n = Notices.empty := beq_iff_eq

/-- `deliver` writes the NOTICE exactly when one is due, and else is the identity. -/
theorem State.deliver_noticeDue (s : State) (u : CommandUnit) : NoticeDue s u (s.setCu u).deliver := by
  simp only [NoticeDue, State.deliver, State.setCu_cu, Notices.isEmpty_iff, ne_eq]
  split
  · exact ⟨rfl, rfl⟩
  · exact ⟨rfl, rfl⟩

theorem State.post_noticeDue (s : State) (n : Notice) :
    NoticeDue s { s.cu with notices := s.cu.notices.add n } (s.post n) :=
  s.deliver_noticeDue _

/-- A NOTICE carries nothing of the Frame Timer, since it reports no counters (R166). -/
theorem State.noticeOf_setTimer_setCu (s : State) (x : Timer) (u : CommandUnit) :
    ((s.setTimer x).setCu u).noticeOf = (s.setCu u).noticeOf := by
  simp [State.noticeOf, State.messageWords, State.reportWords]

theorem noticeDue_setTimer {s t : State} {x : Timer} {u : CommandUnit} :
    NoticeDue (s.setTimer x) u t ↔ NoticeDue s u t := by
  simp only [NoticeDue, State.noticeOf_setTimer_setCu, State.setTimer_port]

/-! ## The expiry of the watch (R139, R140) -/

theorem State.watchExpired_iff (s : State) :
    s.watchExpired = true ↔ s.bridge.run = .run ∧ 1 ≤ s.timer.interval ∧ s.timer.signal = true
      ∧ s.timer.interval * 1000 ≤ s.timer.elapsed := by
  simp only [State.watchExpired, Bool.and_eq_true, beq_iff_eq, decide_eq_true_eq, and_assoc]

theorem State.watchExpired_of_no_signal {s : State} (lost : s.timer.signal = false) :
    s.watchExpired = false := by
  simp [State.watchExpired, lost]

theorem execWatchExpiry_of_expired {s : State} (up : s.awake = true) (due : s.watchExpired = true) :
    exec .watchExpiry s = .next s.expireWatch := by
  change s.whenAwake _ = _
  rw [if_pos due, State.whenAwake_of up]

theorem execWatchExpiry_of_not_expired {s : State} (up : s.awake = true) (idle : ¬ s.watchExpired = true) :
    exec .watchExpiry s = .next s := by
  change s.whenAwake _ = _
  rw [if_neg idle, State.whenAwake_of up]

@[simp] theorem State.expireWatch_timer (s : State) :
    s.expireWatch.timer = { s.timer with signal := false } := by
  simp [State.expireWatch]

@[simp] theorem State.expireWatch_awake (s : State) : s.expireWatch.awake = s.awake := by
  simp [State.awake, State.mountDue, State.enginesIdle]

theorem State.expireWatch_noticeDue (s : State) :
    NoticeDue s { s.cu with notices := { s.cu.notices with signalLost := true, signalBack := false } }
      s.expireWatch :=
  noticeDue_setTimer.mp ((s.setTimer { s.timer with signal := false }).post_noticeDue .signalLost)

theorem State.expireWatch_onlyChanges (s : State) : OnlyChanges [.timer, .port, .cu] s s.expireWatch := by
  intro b outside
  cases b with
  | timer | port | cu => simp at outside
  | _ => simp [Block.same]

/-- One loss gives one expiry: the flag it leaves false keeps the watch from expiring again (R139). -/
theorem execWatchExpiry_expireWatch {s : State} (up : s.awake = true) :
    exec .watchExpiry s.expireWatch = .next s.expireWatch := by
  have lost : s.expireWatch.timer.signal = false := by rw [s.expireWatch_timer]
  have idle := State.watchExpired_of_no_signal lost
  exact execWatchExpiry_of_not_expired (s.expireWatch_awake.trans up) (by simp [idle])

/-- Settles O33: the step is `expireWatch` when the watch has expired and the identity otherwise. -/
theorem watchExpires : Obligations.WatchExpires := by
  intro s up expired
  have expired_iff : s.watchExpired = true ↔ expired := s.watchExpired_iff
  refine ⟨fun idle => ?stays, fun due => ⟨s.expireWatch, ?steps, s.expireWatch_timer, s.expireWatch_noticeDue,
    execWatchExpiry_expireWatch up, s.expireWatch_onlyChanges⟩⟩
  case stays => exact execWatchExpiry_of_not_expired up (mt expired_iff.mp idle)
  case steps => exact execWatchExpiry_of_expired up (expired_iff.mpr due)

end Sys2Proof.Machine

/-! The validation of a setup block (R155, R156, R176): the search for the first field that fails, the regions as
sets of bytes, and the requirement of each field. `fieldGood` compares the ends of two regions, which says whether
they share a byte only when neither is empty; the fields checked before a region's field are what makes it so. -/

namespace Sys2Proof.Machine

/-! ## The first of a range of checks that fails (R156) -/

theorem isFirst_iff_find? {ns : List Nat} {fails : Nat → Prop} [DecidablePred fails] {n : Nat} :
    IsFirst ns fails n ↔ ns.find? (fun m => decide (fails m)) = some n := by
  simp only [IsFirst, List.find?_eq_some_iff_append, decide_eq_true_eq, Bool.not_eq_true', decide_eq_false_iff_not]
  exact ⟨fun ⟨before, after, split, bad, good⟩ => ⟨bad, before, after, split, good⟩,
    fun ⟨bad, before, after, split, good⟩ => ⟨before, after, split, bad, good⟩⟩

theorem isFirst_range'_iff {fails : Nat → Prop} {start len n : Nat} :
    IsFirst (List.range' start len) fails n ↔
      fails n ∧ n ∈ List.range' start len ∧ ∀ m < n, start ≤ m → ¬ fails m := by
  classical
  rw [isFirst_iff_find?, List.find?_range'_eq_some]
  simp only [forall_comm (α := _ < n), decide_eq_true_eq, Bool.not_eq_true', decide_eq_false_iff_not]

theorem SetupBlock.firstBad_eq_find? (ctrl : Span) (b : SetupBlock) (n fuel : Nat) :
    b.firstBad ctrl n fuel = (List.range' n fuel).find? fun m => !b.fieldGood ctrl m := by
  induction fuel generalizing n with
  | zero => rfl
  | succ fuel ih =>
    rw [SetupBlock.firstBad, List.range'_succ, List.find?_cons]
    cases good : b.fieldGood ctrl n with
    | true => simp [ih]
    | false => simp

/-! ## Regions as sets of bytes -/

/-- No address lies in both spans. -/
@[reducible] def Span.Disjoint (x y : Span) : Prop := ∀ addr : Nat, ¬ (x.has addr = true ∧ y.has addr = true)

theorem Span.has_iff (x : Span) (addr : Nat) : x.has addr = true ↔ x.base ≤ addr ∧ addr < x.base + x.size := by
  simp only [Span.has, Bool.and_eq_true, decide_eq_true_eq]

theorem Span.disjoint_comm {x y : Span} : x.Disjoint y ↔ y.Disjoint x :=
  forall_congr' fun _ => not_congr and_comm

/-- The byte that two overlapping spans share is the base of the one that begins later. -/
theorem Span.overlaps_eq_false_iff {x y : Span} (hx : 0 < x.size) (hy : 0 < y.size) :
    x.overlaps y = false ↔ x.Disjoint y := by
  simp only [Span.Disjoint, Span.has_iff, Span.overlaps, Bool.and_eq_false_iff, decide_eq_false_iff_not]
  constructor
  · omega
  · intro apart
    have later := apart (max x.base y.base)
    omega

/-- What the region check of R155 asks for, by the bytes of the regions. -/
def Span.Fits (x : Span) (before : List Span) : Prop :=
  x.base % 64 = 0 ∧ x.base + x.size ≤ memoryTop ∧ ∀ y ∈ before, x.Disjoint y

theorem all_not_overlaps_iff {x : Span} {before : List Span} (hx : 0 < x.size) (hy : ∀ y ∈ before, 0 < y.size) :
    (before.all fun y => !x.overlaps y) = true ↔ ∀ y ∈ before, x.Disjoint y := by
  simp only [List.all_eq_true, Bool.not_eq_true']
  exact forall₂_congr fun y mem => Span.overlaps_eq_false_iff hx (hy y mem)

theorem regionCheck_iff {x : Span} {before : List Span} (hx : 0 < x.size) (hy : ∀ y ∈ before, 0 < y.size) :
    regionCheck x before = true ↔ x.Fits before := by
  simp only [regionCheck, Bool.and_eq_true, beq_iff_eq, decide_eq_true_eq, all_not_overlaps_iff hx hy, and_assoc,
    Span.Fits]

/-! ## The requirement of each field (R155) -/

/-- The requirement of a field by its number in the table of R155, the check halfword apart. -/
def SetupBlock.Required (page : Span) (b : SetupBlock) : Nat → Prop
  | 1 => b.formatNumber = 1
  | 2 => 64 ≤ b.wc ∧ b.wc ≤ 2048 ∧ b.wc % 16 = 0
  | 3 => 16 ≤ b.hc ∧ b.hc ≤ 1536 ∧ b.hc % 2 = 0
  | 4 => b.slotSize % 64 = 0 ∧ 2 * b.wc * b.hc ≤ b.slotSize
  | 5 => b.aperture.Fits [page]
  | 6 => (b.slot 0).Fits [page, b.aperture]
  | 7 => (b.slot 1).Fits [page, b.aperture, b.slot 0]
  | 8 => (b.slot 2).Fits [page, b.aperture, b.slot 0, b.slot 1]
  | 9 => 320 ≤ b.wv ∧ b.wv ≤ 1920 ∧ b.wv % 16 = 0
  | 10 => 240 ≤ b.hv ∧ b.hv ≤ 1200 ∧ b.hv % 2 = 0
  | 11 => b.window.Fits [page, b.aperture, b.slot 0, b.slot 1, b.slot 2]
  | 12 => b.storeBase % 64 = 0
  | 13 => b.storeBase + 65536 ≤ b.storeLimit ∧ b.storeLimit ≤ b.storeBase + 16777216
      ∧ (b.storeLimit - b.storeBase) % 4 = 0 ∧ b.storeLimit ≤ memoryTop
      ∧ ∀ y ∈ [page, b.aperture, b.slot 0, b.slot 1, b.slot 2, b.window], b.store.Disjoint y
  | 14 => b.margin ≤ 16777216
  | 15 => b.message.Fits [page, b.aperture, b.slot 0, b.slot 1, b.slot 2, b.window, b.store]
  | 16 => b.classes.toList.count .capture ≤ 1 ∧ b.classes.toList.count .display ≤ 1
  | 17 => b.t ≤ 31
  | 18 => b.g ≤ 63
  | 19 => b.b ≤ 223
  | 20 => b.b + 32 ≤ b.wp ∧ b.wp ≤ 255
  | 22 => 1 ≤ b.a ∧ b.a ≤ 128
  | 28 => b.interval ≤ 2000
  | _ => True

section
variable {page : Span} {b : SetupBlock}

/-- Fields 2 and 3 keep the aperture from being empty. -/
theorem SetupBlock.aperture_size_pos (wc : b.Required page 2) (hc : b.Required page 3) : 0 < b.aperture.size :=
  Nat.mul_pos (Nat.mul_pos Nat.two_pos (Nat.lt_of_lt_of_le (by decide) wc.1)) (Nat.lt_of_lt_of_le (by decide) hc.1)

/-- Field 4 makes a slot hold the aperture's bytes. -/
theorem SetupBlock.slot_size_pos (aperture : 0 < b.aperture.size) (size : b.Required page 4) (i : Fin 3) :
    0 < (b.slot i).size :=
  Nat.lt_of_lt_of_le aperture size.2

/-- Fields 9 and 10 keep the view window from being empty. -/
theorem SetupBlock.window_size_pos (wv : b.Required page 9) (hv : b.Required page 10) : 0 < b.window.size :=
  Nat.mul_pos (Nat.mul_pos Nat.two_pos (Nat.lt_of_lt_of_le (by decide) wv.1)) (Nat.lt_of_lt_of_le (by decide) hv.1)

/-- Field 13 keeps the store from being empty. -/
theorem SetupBlock.store_size_pos (limit : b.storeBase + 65536 ≤ b.storeLimit) : 0 < b.store.size :=
  Nat.sub_pos_of_lt (Nat.lt_of_lt_of_le (by omega) limit)

/-- Where the fields before it meet their requirements, a field is good exactly when it meets its own. (The arms of
`fieldGood` are in the order of the table: up to 22, `case5` is that of field 5, and so on.) -/
theorem SetupBlock.fieldGood_iff_required (hp : 0 < page.size) {m : Nat}
    (earlier : ∀ k < m, 1 ≤ k → b.Required page k) : b.fieldGood page m = true ↔ b.Required page m := by
  have aperture (h : 3 < m) : 0 < b.aperture.size :=
    aperture_size_pos (earlier 2 (by omega) (by decide)) (earlier 3 h (by decide))
  have slot (h : 4 < m) (i : Fin 3) : 0 < (b.slot i).size :=
    slot_size_pos (aperture (by omega)) (earlier 4 h (by decide)) i
  have window (h : 10 < m) : 0 < b.window.size :=
    window_size_pos (earlier 9 (by omega) (by decide)) (earlier 10 h (by decide))
  have store (h : 13 < m) : 0 < b.store.size := store_size_pos (earlier 13 h (by decide)).1
  fun_cases SetupBlock.fieldGood page b m with
  | case5 => exact regionCheck_iff (aperture (by decide)) (by simp [hp])
  | case6 => exact regionCheck_iff (slot (by decide) 0) (by simp [hp, aperture])
  | case7 => exact regionCheck_iff (slot (by decide) 1) (by simp [hp, aperture, slot])
  | case8 => exact regionCheck_iff (slot (by decide) 2) (by simp [hp, aperture, slot])
  | case11 => exact regionCheck_iff (window (by decide)) (by simp +zetaDelta [hp, aperture, slot])
  | case13 =>
    simp only [Bool.and_eq_true, decide_eq_true_eq, beq_iff_eq, and_assoc]
    refine and_congr_right fun limit => ?_
    rw [all_not_overlaps_iff (store_size_pos limit) (by simp +zetaDelta [hp, aperture, slot, window])]
    rfl
  | case15 => exact regionCheck_iff (Nat.zero_lt_succ _) (by simp +zetaDelta [hp, aperture, slot, window, store])
  | case16 =>
    simp only [Bool.and_eq_true, decide_eq_true_eq]
    rfl
  | case24 => simp [SetupBlock.Required, *]
  | _ => simp only [SetupBlock.Required, Bool.and_eq_true, decide_eq_true_eq, beq_iff_eq, and_assoc]

theorem SetupBlock.fieldsGood_iff_required (hp : 0 < page.size) (n : Nat) :
    (∀ m < n, 1 ≤ m → b.fieldGood page m = true) ↔ ∀ m < n, 1 ≤ m → b.Required page m := by
  induction n with
  | zero => simp
  | succ n ih =>
    rw [Nat.forall_lt_succ_right, Nat.forall_lt_succ_right, ih]
    exact and_congr_right fun earlier => imp_congr_right fun _ => fieldGood_iff_required hp earlier

theorem SetupBlock.firstBad_eq_none_iff (hp : 0 < page.size) :
    b.firstBad page 1 28 = none ↔ ∀ m ∈ List.range' 1 28, b.Required page m := by
  have all := fieldsGood_iff_required (b := b) hp 29
  simpa [firstBad_eq_find?, List.mem_range'_1, forall_comm (α := _ < 29)] using all

theorem SetupBlock.firstBad_eq_some_iff (hp : 0 < page.size) (n : Nat) :
    b.firstBad page 1 28 = some n ↔ IsFirst (List.range' 1 28) (fun m => ¬ b.Required page m) n := by
  have first : b.firstBad page 1 28 = some n ↔
      IsFirst (List.range' 1 28) (fun m => ¬ b.fieldGood page m = true) n := by
    rw [firstBad_eq_find?, isFirst_iff_find?]
    simp
  have below := fieldsGood_iff_required (b := b) hp n
  have here := fieldGood_iff_required (b := b) (m := n) hp
  simp only [first, isFirst_range'_iff, Classical.not_not]
  constructor
  · rintro ⟨bad, mem, good⟩
    have earlier := below.mp good
    exact ⟨mt (here earlier).mpr bad, mem, earlier⟩
  · rintro ⟨bad, mem, earlier⟩
    exact ⟨mt (here earlier).mp bad, mem, below.mpr earlier⟩

end

/-! ## Validation: the check halfword first, then the fields in order (R156) -/

section
variable {page : Span} {ws : List Word}

theorem validateSetup_of_checked (checked : halfSum ws = 0xFFFF) :
    validateSetup page ws = (SetupBlock.ofWords ws).firstBad page 1 28 :=
  if_pos (beq_iff_eq.mpr checked)

theorem validateSetup_of_not_checked (failed : halfSum ws ≠ 0xFFFF) : validateSetup page ws = some 29 :=
  if_neg (mt beq_iff_eq.mp failed)

theorem validateSetup_eq_none_iff (hp : 0 < page.size) :
    validateSetup page ws = none ↔
      halfSum ws = 0xFFFF ∧ ∀ m ∈ List.range' 1 28, (SetupBlock.ofWords ws).Required page m := by
  by_cases checked : halfSum ws = 0xFFFF
  · simp only [validateSetup_of_checked checked, SetupBlock.firstBad_eq_none_iff hp, checked, true_and]
  · simp [validateSetup_of_not_checked checked, checked]

theorem validateSetup_eq_some_iff (hp : 0 < page.size) (n : Nat) :
    validateSetup page ws = some n ↔
      (halfSum ws ≠ 0xFFFF ∧ n = 29)
        ∨ (halfSum ws = 0xFFFF
          ∧ IsFirst (List.range' 1 28) (fun m => ¬ (SetupBlock.ofWords ws).Required page m) n) := by
  by_cases checked : halfSum ws = 0xFFFF
  · simp [validateSetup_of_checked checked, SetupBlock.firstBad_eq_some_iff hp, checked]
  · simp [validateSetup_of_not_checked checked, checked, eq_comm]

end

/-! ## A valid block as a whole (R155) -/

theorem Span.pairwise_disjoint_concat_iff {before : List Span} {x : Span} :
    (before ++ [x]).Pairwise Span.Disjoint ↔ before.Pairwise Span.Disjoint ∧ ∀ y ∈ before, x.Disjoint y := by
  simp only [List.pairwise_append, List.pairwise_singleton, true_and, List.mem_singleton, forall_eq,
    Span.disjoint_comm (x := x)]

/-- Fields 12 and 13 ask of the store, given by its limit, what the region check asks of another region. -/
theorem SetupBlock.required_store_iff (b : SetupBlock) (page : Span) :
    b.Required page 12 ∧ b.Required page 13 ↔
      (65536 ≤ b.storeLimit - b.storeBase ∧ b.storeLimit - b.storeBase ≤ 16777216
        ∧ (b.storeLimit - b.storeBase) % 4 = 0)
      ∧ b.store.Fits [page, b.aperture, b.slot 0, b.slot 1, b.slot 2, b.window] := by
  simp only [SetupBlock.Required, Span.Fits, SetupBlock.store]
  constructor
  · rintro ⟨aligned, least, most, words, within, apart⟩
    exact ⟨⟨by omega, by omega, words⟩, aligned, by omega, apart⟩
  · rintro ⟨⟨least, most, words⟩, aligned, within, apart⟩
    exact ⟨aligned, by omega, by omega, words, by omega, apart⟩

/-- Eight regions of which each is apart from those before it are apart two by two. -/
theorem pairwise_disjoint_iff_each_before {p a s0 s1 s2 w t m : Span} :
    [p, a, s0, s1, s2, w, t, m].Pairwise Span.Disjoint ↔
      (∀ y ∈ [p], a.Disjoint y) ∧ (∀ y ∈ [p, a], s0.Disjoint y) ∧ (∀ y ∈ [p, a, s0], s1.Disjoint y)
        ∧ (∀ y ∈ [p, a, s0, s1], s2.Disjoint y) ∧ (∀ y ∈ [p, a, s0, s1, s2], w.Disjoint y)
        ∧ (∀ y ∈ [p, a, s0, s1, s2, w], t.Disjoint y) ∧ ∀ y ∈ [p, a, s0, s1, s2, w, t], m.Disjoint y := by
  rw [show [p, a, s0, s1, s2, w, t, m] = [p] ++ [a] ++ [s0] ++ [s1] ++ [s2] ++ [w] ++ [t] ++ [m] from rfl]
  simp only [Span.pairwise_disjoint_concat_iff, List.pairwise_singleton, true_and, and_assoc]
  rfl

/-! ## The bits of a block (R176) -/

theorem field_eq_extract (w : Word) (lo width : Nat) : field w lo width = (w.extractLsb' lo width).toNat := by
  rw [BitVec.extractLsb'_toNat, Nat.shiftRight_eq_div_pow, field]

theorem flagAt_eq_getLsbD (w : Word) (i : Nat) : flagAt w i = w.getLsbD i := by
  rw [flagAt, field, BitVec.getLsbD, Nat.testBit_eq_decide_div_mod_eq]
  rfl

theorem byteAt_eq_extract (w : Word) (i : Nat) : byteAt w i = w.extractLsb' (8 * i) 8 := by
  rw [byteAt, field_eq_extract, BitVec.ofNat_toNat, BitVec.setWidth_eq]

theorem classTable_get (w : Word) (tag : Fin 8) :
    (classTable w)[tag] = .ofCode (w.extractLsb' (2 * tag) 2).toNat := by
  rw [← field_eq_extract]
  match tag with
  | 0 | 1 | 2 | 3 | 4 | 5 | 6 | 7 => rfl

theorem MasterClass.ofCode_toNat (code : BitVec 2) :
    MasterClass.ofCode code.toNat =
      match code.toNat with | 0 => .plain | 1 => .control | 2 => .capture | _ => .display := by
  revert code
  decide

/-- Settles O25: `Required` is the table of R155, and `validateSetup` looks for the first number that fails it. -/
theorem setupBlockValid : Obligations.SetupBlockValid := by
  refine ⟨fun straps ws => ?valid, fun straps ws n => validateSetup_eq_some_iff (Nat.zero_lt_succ _) n,
    fun ws => ⟨?fields, fun tag => ?classes, rfl, fun _ => rfl, rfl, rfl, rfl⟩, fun _ => rfl, Span.has_iff⟩
  case valid =>
    dsimp only
    rw [validateSetup_eq_none_iff (Nat.zero_lt_succ _)]
    generalize SetupBlock.ofWords ws = b
    have store := b.required_store_iff (ctrlSpan straps)
    simp only [List.range', Nat.reduceAdd, List.forall_mem_cons]
    rw [pairwise_disjoint_iff_each_before]
    simp only [SetupBlock.Required, Span.Fits, memoryTop] at store ⊢
    -- Both sides now ask the same of each field and region, and `store` changes the form of fields 12 and 13.
    grind
  case fields =>
    simp only [SetupBlock.ofWords, field_eq_extract, flagAt_eq_getLsbD, byteAt_eq_extract, wordAt]
  case classes =>
    exact (classTable_get (wordAt ws 12) tag).trans (MasterClass.ofCode_toNat _)

end Sys2Proof.Machine

/-! What a command can do, said once for every command: `Runs` lists, a constructor an effect, the conditions
under which a command takes place and the state it makes. A command that answers a next state leaves the state as
it is (log entry 3), ends a memory access alone (R14), or runs. -/

namespace Sys2Proof.Machine

/-! ## Answers and pieces under the terms of the statements -/

theorem State.onAnswer_replied {s : State} {p : Purpose} {a : Answer} {sel : Purpose → Bool}
    {k : State → State} (got : s.replied p a) (mine : sel p = true) :
    s.onAnswer sel a (fun _ s' => k s') = .next (k s.portFreed) := by
  obtain ⟨up, b, granted, fits⟩ := got
  exact State.onAnswer_live up granted mine fits

/-- An answer leaves the state as it stands, frees the port alone, or is one the requester wants. -/
theorem State.onAnswer_replied_cases {s t : State} {sel : Purpose → Bool} {a : Answer} {k : State → State}
    (h : s.onAnswer sel a (fun _ s' => k s') = .next t) :
    t = s ∨ t = s.portFreed ∨ ∃ p, sel p = true ∧ s.replied p a ∧ t = k s.portFreed := by
  by_cases up : s.awake = true
  · rcases State.onAnswer_cases h with same | freed | ⟨⟨p, b⟩, granted, mine, fits, rfl⟩
    · exact .inl same
    · exact .inr (.inl freed)
    · exact .inr (.inr ⟨p, mine, ⟨up, b, granted, fits⟩, rfl⟩)
  · exact .inl (by simpa [State.onAnswer, up, eq_comm] using h)

theorem State.onCommand_hands {s : State} {n : Nat} {p : Packet} {k : Packet → State} (h : s.hands n p) :
    s.onCommand n k = .next (k p) := State.onCommand_of h.1 h.2

theorem State.onCommand_hands_cases {s t : State} {n : Nat} {k : Packet → State}
    (h : s.onCommand n k = .next t) : t = s ∨ ∃ p, s.hands n p ∧ t = k p := by
  by_cases up : s.awake = true
  · rcases State.onCommand_cases h with same | ⟨p, taken, made⟩
    · exact .inl same
    · exact .inr ⟨p, ⟨up, taken⟩, made⟩
  · exact .inl (by simpa [State.onCommand, up, eq_comm] using h)

theorem State.onFront_faces {s : State} {sel : Treatment → Bool} {k : Txn → Piece → State} {x : Txn} {p : Piece}
    {tr : Treatment} (h : s.faces x p tr) (mine : sel tr = true) : s.onFront sel k = .next (k x p) :=
  State.onFront_of h.1 h.2 mine

theorem State.onFront_faces_cases {s t : State} {sel : Treatment → Bool} {k : Txn → Piece → State}
    (h : s.onFront sel k = .next t) : t = s ∨ ∃ x p tr, sel tr = true ∧ s.faces x p tr ∧ t = k x p := by
  by_cases up : s.awake = true
  · rcases State.onFront_cases h with same | ⟨x, p, tr, front, mine, made⟩
    · exact .inl same
    · exact .inr ⟨x, p, tr, mine, ⟨up, front⟩, made⟩
  · exact .inl (by simpa [State.onFront, up, eq_comm] using h)

/-- Word `k` of the control-page write piece `p` of transaction `x` is reported next, as `r`. -/
def State.reportsAs (s : State) (x : Txn) (p : Piece) (k : Nat) (r : Report) : Prop :=
  s.awake = true ∧ s.reporting = some (x, p, k) ∧ s.reportAt x p k = r

theorem State.onReport_reportsAs {s : State} {sel : Report → Bool} {eff : Report → State → State} {x : Txn}
    {p : Piece} {k : Nat} {r : Report} (h : s.reportsAs x p k r) (mine : sel r = true) :
    s.onReport sel eff = .next ((eff r s).endReport x p k) := by
  obtain ⟨up, next, rfl⟩ := h
  exact State.onReport_of up next mine

theorem State.onReport_reportsAs_cases {s t : State} {sel : Report → Bool} {eff : Report → State → State}
    (h : s.onReport sel eff = .next t) :
    t = s ∨ ∃ x p k r, sel r = true ∧ s.reportsAs x p k r ∧ t = (eff r s).endReport x p k := by
  by_cases up : s.awake = true
  · rcases State.onReport_cases h with same | ⟨x, p, k, next, mine, made⟩
    · exact .inl same
    · exact .inr ⟨x, p, k, _, mine, ⟨up, next, rfl⟩, made⟩
  · exact .inl (by simpa [State.onReport, up, eq_comm] using h)

/-- The dispatched command is a MOVE whose packet names this mode, or none of the six (R177). -/
def State.moves (s : State) (m : Option MoveMode) (n : Nat) : Prop :=
  ∃ p, s.hands 8 p ∧ MoveMode.ofCode (field p.p1 0 8) = m ∧ field p.p1 16 16 = n

theorem State.onMove_moves {s : State} {m : MoveMode} {n : Nat} {k : Nat → State} (h : s.moves (some m) n) :
    s.onMove m k = .next (k n) := by
  obtain ⟨p, taken, mode, rfl⟩ := h
  exact State.onMove_of taken.1 taken.2 mode

theorem State.onMove_moves_none {s : State} {m : MoveMode} {n : Nat} {k : Nat → State} (h : s.moves none n) :
    s.onMove m k = .next (s.complete (Result.refuse .badValue)) := by
  obtain ⟨p, ⟨up, taken⟩, mode, -⟩ := h
  simp [State.onMove, up, taken, mode]

theorem State.onMove_moves_cases {s t : State} {m : MoveMode} {k : Nat → State} (h : s.onMove m k = .next t) :
    t = s ∨ (∃ n, s.moves (some m) n ∧ t = k n)
      ∨ ∃ n, s.moves none n ∧ t = s.complete (Result.refuse .badValue) := by
  by_cases up : s.awake = true
  · simp only [State.onMove, up, if_true] at h
    split at h
    · next p taken =>
      split at h
      · next m' mode =>
        split at h
        · next same =>
          subst same
          cases h
          exact .inr (.inl ⟨_, ⟨p, ⟨up, taken⟩, mode, rfl⟩, rfl⟩)
        · cases h; exact .inl rfl
      · next mode =>
        cases h
        exact .inr (.inr ⟨_, ⟨p, ⟨up, taken⟩, mode, rfl⟩, rfl⟩)
    · cases h; exact .inl rfl
  · exact .inl (by simpa [State.onMove, up, eq_comm] using h)

/-! ## The effects of the commands -/

/-- The command takes place in the first state and makes the second. -/
inductive Runs : Instr → State → State → Prop where
  | resetNFall {s} (high : s.resetN = true) : Runs .resetNFall s (State.reset.setPending s.pending)
  | resetNRise {s straps} (low : s.resetN = false) : Runs (.resetNRise straps) s (s.riseReset straps)
  | localTime {s} (high : s.resetN = true) :
      Runs .localTimeAdvance s (s.setTimer { s.timer with localTime := s.timer.localTime + 1 })
  | deferredScan {s c} (high : s.resetN = true) (due : s.mountDue = true) (waits : s.store.deferred = some c) :
      Runs .deferredMountScan s (s.setupScans.startScan c)
  | accept {s b} (up : s.awake = true) (wf : b.wf = true) (free : s.bridge.txn = none) :
      Runs (.transactionAccept b) s (s.accept b)
  | pass {s x p tr} (front : s.faces x p tr) (sel : tr = .pass ∨ tr = .discard ∨ tr = .beyond) :
      Runs .passThroughPiece s (s.passOrEnd x p)
  | passAnswer {s a} (got : s.replied .passThrough a) :
      Runs (.passThroughAnswer a) s (s.portFreed.passAnswer a)
  | plainReport {s x p k} (rep : s.reportsAs x p k .plain) :
      Runs .controlPageWrite s ((s.setControl s.cu.opened false).endReport x p k)
  | arm {s x p k} (rep : s.reportsAs x p k .openWord) (armed : s.cu.armed = false) :
      Runs .openControl s ((s.setControl s.cu.opened true).endReport x p k)
  | opens {s x p k} (rep : s.reportsAs x p k .openWord) (armed : s.cu.armed = true) :
      Runs .openControl s ((s.setControl true false).endReport x p k)
  | closes {s x p k} (rep : s.reportsAs x p k .closeWord) :
      Runs .closeControl s ((s.setControl false false).endReport x p k)
  | restart {s x p k} (rep : s.reportsAs x p k .restartWord) (opened : s.cu.opened = true) :
      Runs .restart s (s.restart.endReport x p k)
  | restartClosed {s x p k} (rep : s.reportsAs x p k .restartWord) (closed : s.cu.opened = false) :
      Runs .restart s ((s.setControl false false).endReport x p k)
  | pointer {s x p k w} (rep : s.reportsAs x p k (.pointer w)) :
      Runs .commandPointer s (((s.setControl s.cu.opened false).writePointer w).endReport x p k)
  | statusWord {s x p} (front : s.faces x p .statusRead) : Runs .statusWord s (s.statusPiece x p)
  | luma {s x p} (front : s.faces x p .captureLuma) : Runs .captureLumaPiece s (s.lumaPiece x p)
  | resume {s} (up : s.awake = true) : Runs .heldPieceResume s s.resume
  | chroma {s x p} (front : s.faces x p .captureChroma) : Runs .captureChromaPiece s (s.chromaPiece x p)
  | apertureRead {s x p} (front : s.faces x p .apertureRead) : Runs .apertureReadPiece s (s.apertureRead x p)
  | display {s x p} (front : s.faces x p .displayRead) : Runs .displayReadPiece s (s.displayPiece x p)
  | composerAnswer {s a q} (sel : q = .composerStored ∨ q = .composerSource) (got : s.replied q a) :
      Runs (.composerFetchAnswer a) s (s.portFreed.composerAnswer a)
  | grant {s q r} (up : s.awake = true) (free : s.port.granted = none)
      (first : s.port.firstWaiting = some (q, r)) : Runs .memoryPortGrant s (s.setPort (s.port.grant q r))
  | emission {s item rest} (up : s.awake = true) (head : s.asm.queue = item :: rest)
      (idle : s.lineWriterIdle = true) : Runs .emission s (s.beginItem item)
  | lineAnswer {s a} (got : s.replied .lineWrite a) : Runs (.lineWriteAnswer a) s (s.portFreed.lineAnswer a)
  | packetAnswer {s a} (got : s.replied .packet a) : Runs (.packetFetch a) s (s.portFreed.packetAnswer a)
  | setup {s p} (taken : s.hands 1 p) : Runs .setup s (s.runSetup p)
  | setupRead {s a} (got : s.replied .setupBlock a) :
      Runs (.setupBlockReadAnswer a) s (s.portFreed.setupRead a)
  | reloadRead {s a} (got : s.replied .reloadRead a) : Runs (.reloadReadAnswer a) s (s.portFreed.reloadRead a)
  | scanRead {s a} (got : s.replied .scanRead a) : Runs (.mountScanReadAnswer a) s (s.portFreed.scanRead a)
  | status {s p} (taken : s.hands 2 p) (plain : p.modifier = 0) :
      Runs .status s (s.completeWith s.statusResult true)
  | statusRefused {s p} (taken : s.hands 2 p) (zero : p.modifier ≠ 0) (one : p.modifier ≠ 1) :
      Runs .status s (s.complete (Result.refuse .badValue))
  | statusClear {s p} (taken : s.hands 2 p) (one : p.modifier = 1) :
      Runs .statusClear s (s.completeWith s.statusResult true).clearCounters
  | view {s p} (taken : s.hands 3 p) : Runs .view s (s.runView p.viewRequest false)
  | viewPush {s p} (taken : s.hands 4 p) : Runs .viewPush s (s.runView p.viewRequest true)
  | viewPop {s p} (taken : s.hands 5 p) : Runs .viewPop s s.runPop
  | viewHeader {s a} (got : s.replied .viewHeader a) :
      Runs (.viewPageHeaderRead a) s (s.portFreed.viewHeaderRead a)
  | popHeader {s a} (got : s.replied .popHeader a) :
      Runs (.viewPopHeaderRead a) s (s.portFreed.popHeaderRead a)
  | record {s p} (taken : s.hands 6 p) : Runs .record s (s.runRecord p)
  | mark {s p} (taken : s.hands 7 p) : Runs .mark s (s.runMark p)
  | copyAnswer {s a} (got : s.replied .copy a) :
      Runs (.copyTransactionAnswer a) s (s.portFreed.copyAnswer a)
  | commit {s a} (got : s.replied .commit a) : Runs (.commit a) s (s.portFreed.commitAnswer a)
  | storeClear {s p} (taken : s.hands 9 p) : Runs .storeClear s s.runClear
  | clearAnswer {s a} (got : s.replied .clearWrite a) :
      Runs (.storeClearWriteAnswer a) s (s.portFreed.clearAnswer a)
  | storeProtect {s p} (taken : s.hands 10 p) :
      Runs .storeProtect s ((s.setStore { s.store with protect := true }).complete (Result.done 0))
  | stepFwd {s n} (taken : s.moves (some .stepFwd) n) : Runs .stepFwd s (s.runTraversal .stepFwd n)
  | stepRev {s n} (taken : s.moves (some .stepRev) n) : Runs .stepRev s (s.runTraversal .stepRev n)
  | skipFwd {s n} (taken : s.moves (some .skipFwd) n) : Runs .skipFwd s (s.runTraversal .skipFwd n)
  | skipRev {s n} (taken : s.moves (some .skipRev) n) : Runs .skipRev s (s.runTraversal .skipRev n)
  | rewind {s n} (taken : s.moves (some .rewind) n) :
      Runs .rewind s (s.runReposition { s.store with position := some 0, lesson := 0 })
  | toEnd {s n} (taken : s.moves (some .toEnd) n) :
      Runs .toEnd s (s.runReposition { s.store with position := some s.store.eod })
  | badMode {s n c} (taken : s.moves none n)
      (sel : c = .stepFwd ∨ c = .stepRev ∨ c = .skipFwd ∨ c = .skipRev ∨ c = .rewind ∨ c = .toEnd) :
      Runs c s (s.complete (Result.refuse .badValue))
  | moveRead {s a} (got : s.replied .moveRead a) :
      Runs (.traversalReadAnswer a) s (s.portFreed.moveRead a)
  | advanceRead {s a} (got : s.replied .advanceRead a) :
      Runs (.advanceReadAnswer a) s (s.portFreed.advanceRead a)
  | triggers {s p} (taken : s.hands 11 p) : Runs .triggers s (s.runTriggers p)
  | listRead {s a} (got : s.replied .triggerList a) :
      Runs (.triggerListReadAnswer a) s (s.portFreed.listRead a)
  | watch {s} (up : s.awake = true) (expired : s.watchExpired = true) : Runs .watchExpiry s s.expireWatch
  | messageAnswer {s a} (got : s.replied .message a) :
      Runs (.messageWriteAnswer a) s s.portFreed.messageAnswer
  | noticeAnswer {s a} (got : s.replied .notice a) :
      Runs (.noticeWriteAnswer a) s s.portFreed.noticeAnswer

/-- A command that takes place answers the state it makes. -/
theorem Runs.exec_eq {c : Instr} {s t : State} (h : Runs c s t) : exec c s = .next t := by
  cases h with
  | resetNFall high => exact if_pos high
  | resetNRise low => exact if_neg (by simp [low])
  | localTime high => exact if_pos high
  | deferredScan high due waits => simp [exec, execDeferredMountScan, high, due, waits]
  | accept up wf free => simp [exec, execTransactionAccept, wf, free, State.whenAwake_of up]
  | pass front sel => exact State.onFront_faces front (by rcases sel with rfl | rfl | rfl <;> rfl)
  | arm rep armed =>
    simp only [exec, execOpenControl]
    exact (State.onReport_reportsAs rep rfl).trans (by rw [if_neg (by simp [armed])])
  | opens rep armed =>
    simp only [exec, execOpenControl]
    exact (State.onReport_reportsAs rep rfl).trans (by rw [if_pos armed])
  | restart rep opened =>
    simp only [exec, execRestart]
    exact (State.onReport_reportsAs rep rfl).trans (by rw [if_pos opened])
  | restartClosed rep closed =>
    simp only [exec, execRestart]
    exact (State.onReport_reportsAs rep rfl).trans (by rw [if_neg (by simp [closed])])
  | plainReport rep | closes rep | pointer rep =>
    simp only [exec, execControlPageWrite, execCloseControl, execCommandPointer]
    exact State.onReport_reportsAs rep rfl
  | statusWord front | luma front | chroma front | apertureRead front | display front =>
    exact State.onFront_faces front rfl
  | resume up => exact State.whenAwake_of up
  | composerAnswer sel got => exact State.onAnswer_replied got (by rcases sel with rfl | rfl <;> rfl)
  | grant up free first => simp [exec, execMemoryPortGrant, State.whenAwake_of up, free, first]
  | emission up head idle => simp [exec, execEmission, State.whenAwake_of up, head, idle]
  | status taken plain => exact (State.onCommand_hands taken).trans (by rw [if_pos plain])
  | statusRefused taken zero one =>
    exact (State.onCommand_hands taken).trans (by rw [if_neg zero, if_neg one])
  | statusClear taken one => exact (State.onCommand_hands taken).trans (by rw [if_pos one])
  | setup taken | view taken | viewPush taken | viewPop taken | record taken | mark taken | storeClear taken
  | storeProtect taken | triggers taken => exact State.onCommand_hands taken
  | stepFwd taken | stepRev taken | skipFwd taken | skipRev taken => exact State.onMove_moves taken
  | rewind taken | toEnd taken =>
    simp only [exec, execRewind, execToEnd]
    exact State.onMove_moves taken
  | badMode taken sel =>
    rcases sel with rfl | rfl | rfl | rfl | rfl | rfl <;> simp only [exec, execStepFwd, execStepRev,
      execSkipFwd, execSkipRev, execRewind, execToEnd] <;> exact State.onMove_moves_none taken
  | watch up expired => exact (State.whenAwake_of up).trans (by rw [if_pos expired])
  | passAnswer got | lineAnswer got | packetAnswer got | setupRead got | reloadRead got | scanRead got
  | viewHeader got | popHeader got | copyAnswer got | commit got | clearAnswer got | moveRead got
  | advanceRead got | listRead got | messageAnswer got | noticeAnswer got =>
    exact State.onAnswer_replied got rfl

/-- An answering command leaves the state, ends the access alone, or runs. -/
theorem Runs.of_onAnswer {c : Instr} {s t : State} {q : Purpose} {a : Answer} {k : State → State}
    (h : s.onAnswer (· == q) a (fun _ s' => k s') = .next t)
    (run : s.replied q a → Runs c s (k s.portFreed)) : t = s ∨ t = s.portFreed ∨ Runs c s t := by
  rcases State.onAnswer_replied_cases h with same | freed | ⟨p, mine, got, rfl⟩
  · exact .inl same
  · exact .inr (.inl freed)
  · cases beq_iff_eq.mp mine
    exact .inr (.inr (run got))

theorem Runs.of_onCommand {c : Instr} {s t : State} {n : Nat} {k : Packet → State}
    (h : s.onCommand n k = .next t) (run : ∀ p, s.hands n p → Runs c s (k p) ∨ k p = s) :
    t = s ∨ t = s.portFreed ∨ Runs c s t := by
  rcases State.onCommand_hands_cases h with same | ⟨p, taken, rfl⟩
  · exact .inl same
  · rcases run p taken with runs | same
    · exact .inr (.inr runs)
    · exact .inl same

theorem Runs.of_onFront {c : Instr} {s t : State} {tr : Treatment} {k : Txn → Piece → State}
    (h : s.onFront (· == tr) k = .next t) (run : ∀ x p, s.faces x p tr → Runs c s (k x p)) :
    t = s ∨ t = s.portFreed ∨ Runs c s t := by
  rcases State.onFront_faces_cases h with same | ⟨x, p, tr', mine, front, rfl⟩
  · exact .inl same
  · cases beq_iff_eq.mp mine
    exact .inr (.inr (run x p front))

theorem Runs.of_onReport {c : Instr} {s t : State} {r : Report} {eff : Report → State → State}
    (h : s.onReport (· == r) eff = .next t)
    (run : ∀ x p k, s.reportsAs x p k r → Runs c s ((eff r s).endReport x p k)) :
    t = s ∨ t = s.portFreed ∨ Runs c s t := by
  rcases State.onReport_reportsAs_cases h with same | ⟨x, p, k, r', mine, rep, rfl⟩
  · exact .inl same
  · cases beq_iff_eq.mp mine
    exact .inr (.inr (run x p k rep))

theorem Runs.of_onMove {c : Instr} {s t : State} {m : MoveMode} {k : Nat → State} (h : s.onMove m k = .next t)
    (sel : c = .stepFwd ∨ c = .stepRev ∨ c = .skipFwd ∨ c = .skipRev ∨ c = .rewind ∨ c = .toEnd)
    (run : ∀ n, s.moves (some m) n → Runs c s (k n)) : t = s ∨ t = s.portFreed ∨ Runs c s t := by
  rcases State.onMove_moves_cases h with same | ⟨n, taken, rfl⟩ | ⟨n, taken, rfl⟩
  · exact .inl same
  · exact .inr (.inr (run n taken))
  · exact .inr (.inr (.badMode taken sel))

theorem Runs.of_whenAwake {c : Instr} {s t n : State} (h : s.whenAwake n = .next t)
    (run : s.awake = true → Runs c s n ∨ n = s) : t = s ∨ t = s.portFreed ∨ Runs c s t := by
  by_cases up : s.awake = true
  · rw [State.whenAwake_of up] at h
    cases h
    rcases run up with runs | same
    · exact .inr (.inr runs)
    · exact .inl same
  · exact .inl (by simpa [State.whenAwake, up, eq_comm] using h)

/-- A command that answers a next state leaves the state, ends a memory access alone, or runs. -/
theorem exec_cases {c : Instr} {s t : State} (h : exec c s = .next t) :
    t = s ∨ t = s.portFreed ∨ Runs c s t := by
  cases c with
  | resetNFall =>
    simp only [exec, execResetNFall] at h
    split at h <;> cases h
    · next high => exact .inr (.inr (.resetNFall high))
    · exact .inl rfl
  | resetNRise straps =>
    simp only [exec, execResetNRise] at h
    split at h <;> cases h
    · exact .inl rfl
    · next low => exact .inr (.inr (.resetNRise (by simpa using low)))
  | localTimeAdvance =>
    simp only [exec, execLocalTimeAdvance] at h
    split at h <;> cases h
    · next high => exact .inr (.inr (.localTime high))
    · exact .inl rfl
  | deferredMountScan =>
    simp only [exec, execDeferredMountScan] at h
    split at h
    · next ready =>
      rw [Bool.and_eq_true] at ready
      split at h <;> cases h
      · next c waits => exact .inr (.inr (.deferredScan ready.1 ready.2 waits))
      · exact .inl rfl
    · cases h; exact .inl rfl
  | transactionAccept b =>
    simp only [exec, execTransactionAccept] at h
    split at h
    · next wf =>
      refine Runs.of_whenAwake h fun up => ?_
      split
      · next free => exact .inl (.accept up wf (by simpa using free))
      · exact .inr rfl
    · cases h
  | passThroughPiece =>
    rcases State.onFront_faces_cases h with same | ⟨x, p, tr, mine, front, rfl⟩
    · exact .inl same
    · exact .inr (.inr (.pass front (by simpa [or_assoc] using mine)))
  | openControl =>
    simp only [exec, execOpenControl] at h
    refine Runs.of_onReport h fun x p k rep => ?_
    split
    · next armed => exact .opens rep armed
    · next armed => exact .arm rep (by simpa using armed)
  | restart =>
    simp only [exec, execRestart] at h
    refine Runs.of_onReport h fun x p k rep => ?_
    split
    · next opened => exact .restart rep opened
    · next opened => exact .restartClosed rep (by simpa using opened)
  | commandPointer =>
    simp only [exec, execCommandPointer] at h
    rcases State.onReport_reportsAs_cases h with same | ⟨x, p, k, r, mine, rep, rfl⟩
    · exact .inl same
    · cases r with
      | pointer w => exact .inr (.inr (.pointer rep))
      | _ => cases mine
  | controlPageWrite =>
    simp only [exec, execControlPageWrite] at h
    exact Runs.of_onReport h fun _ _ _ rep => .plainReport rep
  | closeControl =>
    simp only [exec, execCloseControl] at h
    exact Runs.of_onReport h fun _ _ _ rep => .closes rep
  | statusWord => exact Runs.of_onFront h fun _ _ front => .statusWord front
  | captureLumaPiece => exact Runs.of_onFront h fun _ _ front => .luma front
  | captureChromaPiece => exact Runs.of_onFront h fun _ _ front => .chroma front
  | apertureReadPiece => exact Runs.of_onFront h fun _ _ front => .apertureRead front
  | displayReadPiece => exact Runs.of_onFront h fun _ _ front => .display front
  | heldPieceResume => exact Runs.of_whenAwake h fun up => .inl (.resume up)
  | composerFetchAnswer a =>
    rcases State.onAnswer_replied_cases h with same | freed | ⟨p, mine, got, rfl⟩
    · exact .inl same
    · exact .inr (.inl freed)
    · exact .inr (.inr (.composerAnswer (by simpa using mine) got))
  | memoryPortGrant =>
    refine Runs.of_whenAwake h fun up => ?_
    split
    · next free =>
      split
      · next q r first => exact .inl (.grant up (by simpa using free) first)
      · exact .inr rfl
    · exact .inr rfl
  | emission =>
    refine Runs.of_whenAwake h fun up => ?_
    split
    · next item rest head =>
      split
      · next idle => exact .inl (.emission up head idle)
      · exact .inr rfl
    · exact .inr rfl
  | status =>
    refine Runs.of_onCommand h fun p taken => ?_
    split
    · next zero => exact .inl (.status taken zero)
    · next zero =>
      split
      · exact .inr rfl
      · next one => exact .inl (.statusRefused taken zero one)
  | statusClear =>
    refine Runs.of_onCommand h fun p taken => ?_
    split
    · next one => exact .inl (.statusClear taken one)
    · exact .inr rfl
  | watchExpiry =>
    refine Runs.of_whenAwake h fun up => ?_
    split
    · next expired => exact .inl (.watch up expired)
    · exact .inr rfl
  | setup => exact Runs.of_onCommand h fun _ taken => .inl (.setup taken)
  | view => exact Runs.of_onCommand h fun _ taken => .inl (.view taken)
  | viewPush => exact Runs.of_onCommand h fun _ taken => .inl (.viewPush taken)
  | viewPop => exact Runs.of_onCommand h fun _ taken => .inl (.viewPop taken)
  | record => exact Runs.of_onCommand h fun _ taken => .inl (.record taken)
  | mark => exact Runs.of_onCommand h fun _ taken => .inl (.mark taken)
  | storeClear => exact Runs.of_onCommand h fun _ taken => .inl (.storeClear taken)
  | storeProtect => exact Runs.of_onCommand h fun _ taken => .inl (.storeProtect taken)
  | triggers => exact Runs.of_onCommand h fun _ taken => .inl (.triggers taken)
  | stepFwd => exact Runs.of_onMove h (by simp) fun _ taken => .stepFwd taken
  | stepRev => exact Runs.of_onMove h (by simp) fun _ taken => .stepRev taken
  | skipFwd => exact Runs.of_onMove h (by simp) fun _ taken => .skipFwd taken
  | skipRev => exact Runs.of_onMove h (by simp) fun _ taken => .skipRev taken
  | rewind =>
    simp only [exec, execRewind] at h
    exact Runs.of_onMove h (by simp) fun _ taken => .rewind taken
  | toEnd =>
    simp only [exec, execToEnd] at h
    exact Runs.of_onMove h (by simp) fun _ taken => .toEnd taken
  | passThroughAnswer a => exact Runs.of_onAnswer h .passAnswer
  | lineWriteAnswer a => exact Runs.of_onAnswer h .lineAnswer
  | packetFetch a => exact Runs.of_onAnswer h .packetAnswer
  | setupBlockReadAnswer a => exact Runs.of_onAnswer h .setupRead
  | reloadReadAnswer a => exact Runs.of_onAnswer h .reloadRead
  | mountScanReadAnswer a => exact Runs.of_onAnswer h .scanRead
  | viewPageHeaderRead a => exact Runs.of_onAnswer h .viewHeader
  | viewPopHeaderRead a => exact Runs.of_onAnswer h .popHeader
  | copyTransactionAnswer a => exact Runs.of_onAnswer h .copyAnswer
  | commit a => exact Runs.of_onAnswer h .commit
  | storeClearWriteAnswer a => exact Runs.of_onAnswer h .clearAnswer
  | traversalReadAnswer a => exact Runs.of_onAnswer h .moveRead
  | advanceReadAnswer a => exact Runs.of_onAnswer h .advanceRead
  | triggerListReadAnswer a => exact Runs.of_onAnswer h .listRead
  | messageWriteAnswer a => exact Runs.of_onAnswer h .messageAnswer
  | noticeWriteAnswer a => exact Runs.of_onAnswer h .noticeAnswer

/-! ## What every step keeps -/

/-- An invariant that the memory port and the queue do not enter, and that every effect keeps, is kept by every
step. -/
theorem step_keeps {P : State → Prop} (port : ∀ s m, P s → P (s.setPort m))
    (queue : ∀ s q, P s → P (s.setPending q)) (runs : ∀ {c s t}, Runs c s t → P s → P t) {s t : State}
    (before : P s) (h : step s = .next t) : P t := by
  unfold step at h
  split at h
  · cases h; exact before
  · next c rest _ =>
    have begun : P (s.setPending rest) := queue s rest before
    rcases exec_cases h with rfl | rfl | run
    · exact begun
    · exact port _ _ begun
    · exact runs run begun

end Sys2Proof.Machine

/-! Invariants that the traffic keeps. `Keeps P` lists the elementary changes that the Port Bridge, the Capture
Assembler and the Command Unit are made of; a predicate that they keep is kept by every command outside
`Instr.special`, whichever way it goes. -/

namespace Sys2Proof.Machine

/-- A line event can happen: the part is in RUN, or a capture piece is held. -/
def State.capturing (s : State) : Prop := s.bridge.run = .run ∨ s.holdsPiece = true

theorem State.capturing.of_bridge {s t : State} (same : t.bridge = s.bridge) (on : s.capturing) : t.capturing := by
  simpa [State.capturing, State.holdsPiece, same] using on

theorem State.holdsPiece_of {s : State} {x : Txn} {n : Nat} (hx : s.bridge.txn = some x)
    (held : x.stage = .held n) : s.holdsPiece = true := by
  obtain ⟨_, _, _, _, _, _⟩ := x
  cases held
  simp [State.holdsPiece, hx]

/-- The stages that say nothing of the owning block or of a trigger list. -/
def CmdStage.plain : CmdStage → Bool
  | .dispatched => false
  | .listRead _ _ _ => false
  | _ => true

/-- The transaction holds no capture piece. -/
def notHeld (x : Option Txn) : Prop := ∀ y k, x = some y → y.stage ≠ .held k

/-- A predicate that the elementary changes of the traffic keep. -/
structure Keeps (P : State → Prop) : Prop where
  port : ∀ s m, P s → P (s.setPort m)
  txn : ∀ s x g a, (s.capturing ∨ notHeld x) → P s →
    P (s.setBridge { s.bridge with txn := x, guard := g, answer := a })
  asm : ∀ s a, a.frame = s.asm.frame → P s → P (s.setAsm a)
  hist : ∀ s h, P s → P (s.setEnh { s.enh with hist := h })
  completes : ∀ s i, s.asm.slot = some i → P s → P (s.frameCompletes i)
  broken : ∀ s, P s → P s.markBroken
  event : ∀ s n, s.capturing → P s → P (s.lineEvent n)
  errors : ∀ s n, P s → P (s.setComp { s.comp with errors := n })
  timer : ∀ s t, t.triggers = s.timer.triggers → t.frameNumber = s.timer.frameNumber →
    t.localTime = s.timer.localTime → P s → P (s.setTimer t)
  cu : ∀ s u, u.cmd = s.cu.cmd → u.reload = s.cu.reload → u.reloadResult = s.cu.reloadResult →
    u.msgAddr = s.cu.msgAddr → u.attn = s.cu.attn → P s → P (s.setCu u)
  cmd : ∀ s c, s.cmdStage ≠ some .engine → (c = none ∨ s.cu.cmd.isSome = true) →
    (∀ d, c = some d → d.stage.plain = true) → P s → P (s.setCu { s.cu with cmd := c })
  take : ∀ s, s.resetN = true → s.cu.cmd = none → s.cu.reloadResult ≠ .none → P s →
    P (s.setCu { s.cu with cmd := some { packet := none, stage := .fetch } })

/-- A predicate that does not see ATTN. -/
def AttnFree (P : State → Prop) : Prop := ∀ s b, P s → P (s.setCu { s.cu with attn := b })

namespace Keeps

variable {P : State → Prop} (K : Keeps P) {s : State}
include K

/-! ## The ends of pieces -/

theorem present (p : Purpose) (b : Burst) (h : P s) : P (s.present p b) := K.port s _ h

theorem freed (h : P s) : P s.portFreed := K.port s _ h

theorem setTxn (x : Option Txn) (free : s.capturing ∨ notHeld x) (h : P s) : P (s.setTxn x) :=
  K.txn s x s.bridge.guard s.bridge.answer free h

theorem countDiscard (h : P s) (free : s.capturing ∨ notHeld s.bridge.txn) : P s.countDiscard :=
  K.txn s s.bridge.txn (s.bridge.guard + 1) s.bridge.answer free h

/-- The discards counted and the transaction left, the pieces that end at once have ended. -/
theorem settlePieces (ps : List Piece) (x : Txn) (h : P s) : P (s.settlePieces x ps) := by
  suffices shape : ∃ y g a, notHeld y ∧
      s.settlePieces x ps = s.setBridge { s.bridge with txn := y, guard := g, answer := a } by
    obtain ⟨y, g, a, free, e⟩ := shape
    rw [e]
    exact K.txn s y g a (.inr free) h
  clear h K
  induction ps generalizing s x with
  | nil => exact ⟨none, s.bridge.guard, _, by simp [notHeld], rfl⟩
  | cons p ps ih =>
    unfold State.settlePieces
    split
    · exact ih _
    · obtain ⟨y, g, a, free, e⟩ := ih (s := s.countDiscard) x
      exact ⟨y, g, a, free, e⟩
    · exact ⟨_, s.bridge.guard, s.bridge.answer, by rintro y k ⟨⟩; simp, rfl⟩

theorem settle (x : Txn) (h : P s) : P (s.settle x) := K.settlePieces _ x h

theorem finishPiece (ws : List Word) (e : Bool) (h : P s) : P (s.finishPiece ws e) := by
  unfold State.finishPiece
  split
  · exact K.settle _ h
  · exact h

theorem discardPiece (h : P s) (free : s.capturing ∨ notHeld s.bridge.txn) : P s.discardPiece :=
  K.finishPiece _ _ (K.countDiscard h free)

theorem passPiece (x : Txn) (p : Piece) (addr : Nat) (f : Bool) (h : P s) : P (s.passPiece x p addr f) :=
  K.present _ _ (K.setTxn _ (.inr (by rintro y k ⟨⟩; simp)) h)

theorem passOrEnd (x : Txn) (p : Piece) (h : P s) : P (s.passOrEnd x p) := by
  unfold State.passOrEnd
  split
  · exact K.passPiece _ _ _ _ h
  · exact K.settle _ h

theorem accept (b : Burst) (h : P s) : P (s.accept b) := K.settle _ h

theorem endReport (x : Txn) (p : Piece) (k : Nat) (h : P s) : P (s.endReport x p k) := by
  unfold State.endReport
  split
  · exact K.setTxn _ (.inr (by rintro y k ⟨⟩; simp)) h
  · exact K.passPiece _ _ _ _ h

/-! ## Notices and the completion of a command -/

theorem deliver (h : P s) : P s.deliver := by
  unfold State.deliver
  split
  · exact K.present _ _ (K.cu s _ rfl rfl rfl rfl rfl h)
  · exact h

theorem post (n : Notice) (h : P s) : P (s.post n) := K.deliver (K.cu s _ rfl rfl rfl rfl rfl h)

theorem setControl (o r : Bool) (h : P s) : P (s.setControl o r) := K.cu s _ rfl rfl rfl rfl rfl h

theorem presentCommand (p : Purpose) (b : Burst) (h : P s) : P (s.presentCommand p b) := by
  unfold State.presentCommand
  split
  · exact K.cu s _ rfl rfl rfl rfl rfl h
  · exact K.present p b h

theorem setCmdStage (st : CmdStage) (idle : s.cmdStage ≠ some .engine) (plain : st.plain = true) (h : P s) :
    P (s.setCmdStage st) := by
  unfold State.setCmdStage
  split
  · next c hc => exact K.cmd s _ idle (.inr (by simp [hc])) (by rintro d ⟨⟩; exact plain) h
  · exact h

theorem completeWith (o : Result) (report : Bool) (idle : s.cmdStage ≠ some .engine) (h : P s) :
    P (s.completeWith o report) := by
  unfold State.completeWith
  split
  · exact h
  · exact K.presentCommand _ _ (K.setCmdStage _ idle rfl h)

theorem complete (o : Result) (idle : s.cmdStage ≠ some .engine) (h : P s) : P (s.complete o) :=
  K.completeWith o false idle h

/-! ## The status word and the pieces that pass -/

theorem statusUpper (x : Txn) (p : Piece) (got : List Word) (e : Bool) (h : P s) :
    P (s.statusUpper x p got e) := by
  unfold State.statusUpper
  split
  · exact K.present _ _ (K.setTxn _ (.inr (by rintro y k ⟨⟩; simp)) h)
  · exact K.finishPiece _ _ h

theorem statusPiece (attn : AttnFree P) (x : Txn) (p : Piece)
    (fresh : x.stage = .untreated) (h : P s) : P (s.statusPiece x p) := by
  have free : notHeld (some x) := by rintro y k ⟨⟩; simp [fresh]
  have start : P ((if x.cls = .control then s.setCu { s.cu with attn := false } else s).setTxn (some x)) := by
    refine K.setTxn _ (.inr free) ?_
    split
    · exact attn s _ h
    · exact h
  unfold State.statusPiece
  dsimp only
  split
  · exact K.statusUpper _ _ _ _ start
  · exact K.present _ _ (K.setTxn _ (.inr (by rintro y k ⟨⟩; simp)) start)

theorem completeIfBoth (h : P s) : P s.completeIfBoth := by
  unfold State.completeIfBoth
  split
  · next i slot =>
    split
    · exact K.completes s i slot h
    · exact h
  · exact h

theorem recordChroma (h : P s) : P s.recordChroma := by
  unfold State.recordChroma
  split
  · exact K.completeIfBoth (K.asm s _ rfl h)
  · exact h

theorem checkLumaHalf (h : P s) : P s.checkLumaHalf := by
  unfold State.checkLumaHalf
  split
  · exact K.completeIfBoth (K.asm s _ rfl h)
  · exact h

theorem passAnswer (a : Answer) (h : P s) : P (s.passAnswer a) := by
  unfold State.passAnswer
  split
  · split
    · refine K.finishPiece _ _ ?_
      split
      · exact K.recordChroma h
      · exact h
    · exact K.statusUpper _ _ _ _ h
    · exact K.finishPiece _ _ h
    · exact h
  · exact h

theorem chromaPiece (x : Txn) (p : Piece) (fresh : x.stage = .untreated) (h : P s) : P (s.chromaPiece x p) := by
  have free : notHeld (some x) := by rintro y k ⟨⟩; simp [fresh]
  have start : P (s.setTxn (some x)) := K.setTxn _ (.inr free) h
  unfold State.chromaPiece
  dsimp only
  split
  · exact K.passPiece _ _ _ _ start
  · exact K.discardPiece start (.inr free)

theorem apertureRead (x : Txn) (p : Piece) (fresh : x.stage = .untreated) (h : P s) : P (s.apertureRead x p) := by
  have start : P (s.setTxn (some x)) := K.setTxn _ (.inr (by rintro y k ⟨⟩; simp [fresh])) h
  unfold State.apertureRead
  dsimp only
  split
  · exact K.passPiece _ _ _ _ start
  · exact K.finishPiece _ _ start

/-! ## The composer's fetches -/

theorem fetchFrom (x : Txn) (p : Piece) (ws : List Word) (todo : List (Nat × Nat))
    (got : List (Nat × Option Word)) (h : P s) : P (s.fetchFrom x p ws todo got) := by
  unfold State.fetchFrom
  split
  · exact K.present _ _ (K.setTxn _ (.inr (by rintro y k ⟨⟩; simp)) h)
  · exact K.finishPiece _ _ h

theorem composerAnswer (a : Answer) (h : P s) : P (s.composerAnswer a) := by
  unfold State.composerAnswer
  split
  · split
    · unfold State.storedAnswer
      split
      · exact K.finishPiece _ _ h
      · exact K.fetchFrom _ _ _ _ _ h
    · unfold State.sourceAnswer
      split
      · refine K.fetchFrom _ _ _ _ _ ?_
        split
        · exact K.errors s _ h
        · exact h
      · exact h
    · exact h
  · exact h

/-! ## Luma pieces -/

omit K in
theorem takeWord_capturing (w : Word) (on : s.capturing) : (s.takeWord w).capturing :=
  on.of_bridge (by simp)

theorem lineCompleted (m : Nat) (on : s.capturing) (h : P s) : P (s.lineCompleted m) :=
  K.asm _ _ (by simp) (K.event s m on h)

theorem takeWord (w : Word) (on : s.capturing) (h : P s) : P (s.takeWord w) := by
  have placed : P (s.setAsm (s.asm.placeWord w)) := K.asm s _ rfl h
  have final : ∀ u : State, P u →
      P (if u.asm.ptr = u.asm.wc * u.asm.hc then u.setAsm { u.asm with finalWord := true } else u) := by
    intro u hu
    split
    · exact K.asm u _ rfl hu
    · exact hu
  unfold State.takeWord
  refine final _ ?_
  split
  · exact K.lineCompleted _ (on.of_bridge rfl) placed
  · exact placed

theorem takeInOrder (bs : List Beat) (on : s.capturing) (h : P s) :
    P (s.takeInOrder bs).1 ∧ (s.takeInOrder bs).1.capturing := by
  induction bs generalizing s with
  | nil => exact ⟨h, on⟩
  | cons b bs ih =>
    unfold State.takeInOrder
    split
    · exact ⟨h, on⟩
    · exact ih (takeWord_capturing b.data on) (K.takeWord b.data on h)

theorem pieceLineEvent (o n : Nat) (on : s.capturing) (h : P s) : P (s.pieceLineEvent o n) := by
  unfold State.pieceLineEvent
  split
  · exact K.event s _ on h
  · exact h

theorem takeRaw (i : Fin 4) (o : Nat) (bs : List Beat) (on : s.capturing) (h : P s) : P (s.takeRaw i o bs) := by
  have queued := K.pieceLineEvent o bs.length
    (s := s.setAsm { s.asm with
      ring := s.asm.ring.set i (.piece o bs), queue := s.asm.queue ++ [.rawPiece i], lumaHalf := false })
    (on.of_bridge rfl) (K.asm s _ rfl h)
  unfold State.takeRaw
  dsimp only
  split
  · exact K.asm _ _ rfl queued
  · exact queued

theorem trackDropped (o n : Nat) (on : s.capturing) (h : P s) : P (s.trackDropped o n) :=
  K.pieceLineEvent o n (s := s.setAsm { s.asm with ptr := o + 4 * n }) (on.of_bridge rfl) (K.asm s _ rfl h)

theorem sequenceBreak (h : P s) : P s.sequenceBreak :=
  K.asm _ _ rfl (K.hist _ _ (K.broken _ (K.asm s { s.asm with queue := s.asm.queue ++ s.asm.breakItems } rfl h)))

theorem rawLuma (x : Txn) (p : Piece) (on : s.capturing) (h : P s) : P (s.rawLuma x p) := by
  unfold State.rawLuma
  split
  · exact K.finishPiece _ _ (K.takeRaw _ _ _ on h)
  · exact K.setTxn _ (.inl on) h

theorem orderedLuma (x : Txn) (p : Piece) (n : Nat) (on : s.capturing) (h : P s) : P (s.orderedLuma x p n) := by
  obtain ⟨taken, still⟩ := K.takeInOrder ((pieceBeats x.burst p).drop n) on h
  unfold State.orderedLuma
  dsimp only
  split
  · exact K.finishPiece _ _ taken
  · exact K.setTxn _ (.inl still) taken

theorem judgeLuma (x : Txn) (p : Piece) (on : s.capturing) (h : P s) : P (s.judgeLuma x p) := by
  unfold State.judgeLuma
  split
  · exact K.discardPiece h (.inl on)
  · split
    · split
      · exact K.orderedLuma _ _ _ on h
      · exact K.rawLuma _ _ (on.of_bridge (by simp)) (K.sequenceBreak h)
    · exact K.rawLuma _ _ on h
    · exact K.finishPiece _ _ (K.trackDropped _ _ on h)

/-- A luma piece, where the predicate is kept by the start of a frame too. -/
theorem lumaPiece (x : Txn) (p : Piece) (run : s.bridge.run = .run)
    (start : ∀ u : State, u.bridge.run = .run → P u → P u.frameStart) (h : P s) : P (s.lumaPiece x p) := by
  have begun : P (s.setTxn (some x)) := K.setTxn _ (.inl (.inl run)) h
  unfold State.lumaPiece
  dsimp only
  split
  · exact K.judgeLuma _ _ (.inl (by simpa [State.setTxn] using run)) (start _ run begun)
  · exact K.judgeLuma _ _ (.inl run) begun

theorem resume (h : P s) : P s.resume := by
  unfold State.resume
  split
  · next x hx =>
    split
    · next n p ps held _ =>
      have on : s.capturing := .inr (State.holdsPiece_of hx held)
      unfold State.resumeHeld
      split
      · split
        · exact h
        · exact K.orderedLuma _ _ _ on h
      · split
        · exact K.rawLuma _ _ on h
        · exact h
      · exact h
    · exact h
  · exact h

theorem takeHeldRaw (h : P s) : P s.takeHeldRaw := by
  unfold State.takeHeldRaw
  split
  · exact K.resume h
  · exact h

/-! ## The line writer -/

theorem finishItem (h : P s) : P s.finishItem := by
  unfold State.finishItem
  split
  · exact K.checkLumaHalf (K.takeHeldRaw (K.asm s _ rfl h))
  · exact h

theorem lineWrites (ws : List Burst) (h : P s) : P (s.lineWrites ws) := by
  unfold State.lineWrites
  split
  · exact K.present _ _ (K.asm s _ rfl h)
  · exact K.finishItem h

theorem beginItem (item : WorkItem) (h : P s) : P (s.beginItem item) := by
  refine K.lineWrites _ ?_
  unfold State.itemCounts
  split
  · split
    · exact K.hist s _ h
    · exact h
  · exact h

theorem lineAnswer (a : Answer) (h : P s) : P (s.lineAnswer a) := by
  have marked : P (if a.error then s.markBroken else s) := by
    split
    · exact K.broken s h
    · exact h
  unfold State.lineAnswer
  dsimp only
  split
  · exact K.lineWrites _ marked
  · exact marked

/-! ## The Command Unit -/

theorem writePointer (w : Word) (up : s.resetN = true) (h : P s) : P (s.writePointer w) := by
  unfold State.writePointer
  split
  · exact h
  · split
    · exact K.cu s _ rfl rfl rfl rfl rfl h
    · next free =>
      simp only [Bool.or_eq_true, beq_iff_eq, not_or] at free
      have taken : P (s.setCu { s.cu with
          cmd := some { packet := none, stage := .fetch }, refusedBusy := false, owner := .host }) :=
        K.cu (s.setCu { s.cu with cmd := some { packet := none, stage := .fetch } }) _ rfl rfl rfl rfl rfl
          (K.take s up (by simpa using free.1) free.2 h)
      unfold State.takePointer
      dsimp only
      split
      · exact K.presentCommand _ _ taken
      · exact K.complete _ (by simp [State.cmdStage]) taken

theorem messageAnswer (attn : AttnFree P) (h : P s) : P s.messageAnswer := by
  unfold State.messageAnswer
  split
  · next c hc =>
    split
    · next w cls reason stage =>
      have idle : s.cmdStage ≠ some .engine := by simp [State.cmdStage, hc, stage]
      split
      · have done : P (s.setCu { s.cu with cmd := none }) := K.cmd s none idle (.inl rfl) (by simp) h
        unfold State.finishCommand
        dsimp only
        generalize (s.cu.attn || match c.packet with | some p => p.ie | none => false) = b
        exact K.deliver (K.cu ((s.setCu { s.cu with cmd := none }).setCu
          { (s.setCu { s.cu with cmd := none }).cu with attn := b }) _ rfl rfl rfl rfl rfl (attn _ b done))
      · exact K.presentCommand _ _ (K.setCmdStage _ idle rfl h)
    · exact h
  · exact h

theorem noticeAnswer (attn : AttnFree P) (h : P s) : P s.noticeAnswer := by
  unfold State.noticeAnswer
  split
  · split
    · have ended : P (s.setCu { s.cu with notice := none, attn := true, held := none }) :=
        K.cu (s.setCu { s.cu with attn := true }) _ rfl rfl rfl rfl rfl (attn s true h)
      dsimp only
      split
      · exact K.present _ _ ended
      · exact ended
    · exact K.present _ _ (K.cu s _ rfl rfl rfl rfl rfl h)
  · exact h

theorem runSetup (p : Packet) (idle : s.cmdStage ≠ some .engine) (h : P s) : P (s.runSetup p) := by
  unfold State.runSetup
  dsimp only
  split
  · exact K.complete _ idle h
  · exact K.presentCommand _ _ (K.setCmdStage _ idle rfl h)

theorem expireWatch (h : P s) : P s.expireWatch := K.post _ (K.timer s _ rfl rfl rfl h)

end Keeps

/-! ## The commands of the traffic -/

theorem State.hands.cmdStage {s : State} {n : Nat} {p : Packet} (h : s.hands n p) :
    s.cmdStage = some .dispatched := by
  simp [State.cmdStage, (State.dispatched_eq.mp h.2).1]

theorem State.resetN_of_awake {s : State} (up : s.awake = true) : s.resetN = true := by
  simp only [State.awake, Bool.and_eq_true] at up
  exact up.1

theorem State.moves.cmdStage {s : State} {m : Option MoveMode} {n : Nat} (h : s.moves m n) :
    s.cmdStage = some .dispatched := by
  obtain ⟨p, taken, -⟩ := h
  exact taken.cmdStage

/-- The transaction of a front piece has not begun its treatment. -/
theorem State.faces.untreated {s : State} {x : Txn} {p : Piece} {tr : Treatment} (h : s.faces x p tr) :
    x.stage = .untreated := by
  obtain ⟨-, front⟩ := h
  unfold State.front at front
  split at front
  · split at front
    · next t _ ps stage _ =>
      simp only [Option.some.injEq, Prod.mk.injEq] at front
      obtain ⟨rfl, -, -⟩ := front
      exact stage
    · cases front
  · cases front

theorem State.areaOf_bypass {s : State} (h : s.bridge.run = .bypass) (addr : Nat) :
    s.areaOf addr = .beyond ∨ s.areaOf addr = .control ∨ s.areaOf addr = .elsewhere := by
  unfold State.areaOf
  rw [h]
  split
  · simp
  · split <;> simp

/-- What the region map shows beside the control page, "elsewhere" and the top stands in RUN alone (R7). -/
theorem State.faces.run {s : State} {x : Txn} {p : Piece} {tr : Treatment} (h : s.faces x p tr)
    (mapped : tr = .captureLuma ∨ tr = .captureChroma ∨ tr = .apertureRead ∨ tr = .displayRead) :
    s.bridge.run = .run := by
  obtain ⟨-, front⟩ := h
  have treated : s.treatment x p = tr := by
    unfold State.front at front
    split at front
    · split at front
      · simp only [Option.some.injEq, Prod.mk.injEq] at front
        obtain ⟨rfl, rfl, rfl⟩ := front
        rfl
      · cases front
    · cases front
  cases hr : s.bridge.run with
  | run => rfl
  | bypass =>
    exfalso
    rcases mapped with rfl | rfl | rfl | rfl <;>
      rcases State.areaOf_bypass hr (wordAddr x.burst p.first) with area | area | area <;>
        simp only [State.treatment, area] at treated <;> grind

/-- The commands that change more than the traffic does. -/
def Instr.special : Instr → Bool
  | .resetNFall | .resetNRise _ | .localTimeAdvance | .deferredMountScan | .restart | .captureLumaPiece
  | .displayReadPiece | .packetFetch _ | .setupBlockReadAnswer _ | .reloadReadAnswer _ | .mountScanReadAnswer _
  | .statusClear | .view | .viewPush | .viewPop | .viewPageHeaderRead _ | .viewPopHeaderRead _ | .record | .mark
  | .copyTransactionAnswer _ | .commit _ | .storeClear | .storeClearWriteAnswer _ | .storeProtect | .stepFwd
  | .stepRev | .skipFwd | .skipRev | .rewind | .toEnd | .traversalReadAnswer _ | .advanceReadAnswer _ | .triggers
  | .triggerListReadAnswer _ => true
  | _ => false

/-- The commands that raise or lower ATTN (R171). -/
def Instr.attends : Instr → Bool
  | .statusWord | .restart | .messageWriteAnswer _ | .noticeWriteAnswer _ => true
  | _ => false

/-- A predicate that the traffic keeps is kept by every command that is not special and leaves ATTN. -/
theorem Runs.keeps_attn {P : State → Prop} (K : Keeps P) {c : Instr} {s t : State} (run : Runs c s t)
    (other : Instr.special c = true ∨ Instr.attends c = true → P t) (before : P s) : P t := by
  have freed : P s.portFreed := K.freed before
  cases run with
  | accept => exact K.accept _ before
  | pass => exact K.passOrEnd _ _ before
  | passAnswer => exact K.passAnswer _ freed
  | plainReport | arm | opens | closes => exact K.endReport _ _ _ (K.setControl _ _ before)
  | pointer rep => exact K.endReport _ _ _ (K.writePointer _ (State.resetN_of_awake rep.1) (K.setControl _ _ before))
  | statusWord | messageAnswer | noticeAnswer => exact other (.inr rfl)
  | resume => exact K.resume before
  | chroma front => exact K.chromaPiece _ _ front.untreated before
  | apertureRead front => exact K.apertureRead _ _ front.untreated before
  | composerAnswer => exact K.composerAnswer _ freed
  | grant => exact K.port s _ before
  | emission => exact K.beginItem _ before
  | lineAnswer => exact K.lineAnswer _ freed
  | setup taken => exact K.runSetup _ (by simp [taken.cmdStage]) before
  | status taken => exact K.completeWith _ _ (by simp [taken.cmdStage]) before
  | statusRefused taken => exact K.complete _ (by simp [taken.cmdStage]) before
  | badMode taken => exact K.complete _ (by simp [taken.cmdStage]) before
  | watch => exact K.expireWatch before
  | _ => exact other (.inl rfl)

/-- A predicate that the traffic keeps and that does not see ATTN is kept by every command that is not special. -/
theorem Runs.keeps {P : State → Prop} (K : Keeps P) (attn : AttnFree P) {c : Instr} {s t : State} (run : Runs c s t)
    (other : Instr.special c = true → P t) (before : P s) : P t := by
  refine run.keeps_attn K (fun seen => seen.elim other fun attends => ?_) before
  cases run with
  | statusWord front => exact K.statusPiece attn _ _ front.untreated before
  | messageAnswer => exact K.messageAnswer attn (K.freed before)
  | noticeAnswer => exact K.noticeAnswer attn (K.freed before)
  | badMode _ sel => rcases sel with rfl | rfl | rfl | rfl | rfl | rfl <;> cases attends
  | _ =>
    first
    | exact other rfl
    | cases attends

end Sys2Proof.Machine

/-! What a line event can do (R145 to R149), and what the checks of RECORD and MARK establish (R111, R118). -/

namespace Sys2Proof.Machine

/-! ## The checks of RECORD and MARK -/

theorem State.enginesIdle_iff (s : State) :
    s.enginesIdle = true ↔ s.store.copy = none ∧ s.store.trav = none := by
  simp [State.enginesIdle]

/-- What holds when RECORD is accepted (R111). -/
theorem State.checkRecord_accepted {s : State} {fmt src p : Nat} {f : Format} {i : Fin 3}
    (h : s.checkRecord fmt src = .accepted p f i) :
    ∃ fromView, Format.ofCode fmt = some f ∧ sourceOfCode src = some fromView ∧ s.enginesIdle = true
      ∧ s.store.formatted = true ∧ s.store.protect = false ∧ s.store.position = some p
      ∧ s.slots.staged = none ∧ s.recordSlot fromView = some i ∧ s.pageInUse p = false
      ∧ s.fits p (pageLength f (s.slotRec i)) = true := by
  unfold State.checkRecord at h
  split at h
  · next f' v hf hv =>
    split at h
    · cases h
    split at h
    · cases h
    split at h
    · cases h
    split at h
    · cases h
    next p' hp =>
    split at h
    · cases h
    split at h
    · cases h
    next i' hi =>
    split at h
    · cases h
    split at h
    · cases h
      refine ⟨v, hf, hv, ?_, ?_, ?_, hp, ?_, hi, ?_, ?_⟩ <;> simp_all
    · cases h
  · cases h

/-- What holds when MARK is accepted (R118). -/
theorem State.checkMark_accepted {s : State} {lesson p : Nat} (h : s.checkMark lesson = .accepted p) :
    lesson ≤ 255 ∧ s.enginesIdle = true ∧ s.store.formatted = true ∧ s.store.protect = false
      ∧ s.store.position = some p ∧ s.slots.staged = none ∧ s.pageInUse p = false ∧ s.fits p 36 = true := by
  unfold State.checkMark at h
  split at h
  · cases h
  split at h
  · cases h
  split at h
  · cases h
  split at h
  · cases h
  split at h
  · cases h
  next p' hp =>
  split at h
  · cases h
  split at h
  · cases h
  split at h
  · cases h
    refine ⟨by omega, ?_, ?_, ?_, hp, ?_, ?_, ?_⟩ <;> simp_all
  · cases h

theorem State.canTake_iff (s : State) (i : Fin 3) (g : Half) :
    s.canTake i g = true ↔ (s.slotRec i).state = .complete ∧ (s.slotRec i).gen = g := by
  simp [State.canTake]

/-- The slot of a RECORD is COMPLETE (R111). -/
theorem State.recordSlot_complete {s : State} {v : Bool} {i : Fin 3} (h : s.recordSlot v = some i) :
    (s.slotRec i).state = .complete := by
  unfold State.recordSlot at h
  split at h
  · split at h
    · exact State.newest_complete h
    · split at h
      · next take => cases h; exact (State.canTake_iff _ _ _ |>.mp take).1
      · cases h
    · cases h
    · cases h
  · exact State.newest_complete h

/-! ## Line events -/

/-- A predicate that each thing a trigger can do keeps is kept by a line event. -/
theorem State.lineEvent_keeps {P : State → Prop}
    (fired : ∀ s n, P s → P (s.setTimer (s.timer.setFired n)))
    (overrun : ∀ s, P s → P s.overrun)
    (post : ∀ s n, P s → P (s.post n))
    (record : ∀ s fmt p f i, s.checkRecord fmt 0 = .accepted p f i → P s → P (s.acceptRecord p f i false true))
    (mark : ∀ s n p, s.checkMark n = .accepted p → P s → P (s.acceptMark p n true))
    (advance : ∀ s p, s.store.position = some p → s.store.formatted = true → s.enginesIdle = true → P s →
      P (s.advanceAt p false))
    (zoom : ∀ s n, P s → P (s.zoomStep n)) {s : State} (n : Nat) (h : P s) : P (s.lineEvent n) := by
  unfold State.lineEvent
  split
  · next e _ =>
    have begun := fired s n h
    generalize s.setTimer (s.timer.setFired n) = u at begun
    unfold State.runAction
    split
    · unfold State.triggerCapture
      split
      · exact overrun _ begun
      · split
        · exact post _ _ begun
        · next accepted => exact record _ _ _ _ _ accepted begun
    · unfold State.triggerMark
      split
      · exact overrun _ begun
      · split
        · exact post _ _ begun
        · next accepted => exact mark _ _ _ accepted begun
    · unfold State.triggerAdvance
      split
      · next p position =>
        split
        · next ready =>
          rw [Bool.and_eq_true] at ready
          exact advance _ _ position ready.1 ready.2 begun
        · exact overrun _ begun
      · exact overrun _ begun
    · exact zoom _ _ begun
    · exact post _ _ begun
  · exact h

/-! ## What a copy leaves -/

/-- The copy goes on with the same operation at another stage; nothing else of the store changes. -/
theorem State.copyFrom_store (s : State) (c : CopyOp) (done : Nat) :
    ∃ st, (s.copyFrom c done).store = { s.store with copy := some { c with stage := st } } := by
  unfold State.copyFrom
  dsimp only
  split
  · split
    · split
      · exact ⟨_, rfl⟩
      · exact ⟨_, rfl⟩
    · exact ⟨_, rfl⟩
  · exact ⟨_, rfl⟩

theorem State.acceptMark_store (s : State) (p n : Nat) (tr : Bool) :
    ∃ st, (s.acceptMark p n tr).store =
      { s.store with copy := some {
        job := .mark, trigger := tr, offset := p, header := s.markHeader n, stage := st } } := by
  obtain ⟨st, e⟩ := s.copyFrom_store
    { job := .mark, trigger := tr, offset := p, header := s.markHeader n, stage := .trailer } 0
  exact ⟨st, e⟩

theorem State.acceptRecord_store (s : State) (p : Nat) (f : Format) (i : Fin 3) (v tr : Bool) :
    ∃ st, (s.acceptRecord p f i v tr).store =
      { s.store with copy := some {
        job := .page i, trigger := tr, offset := p, header := s.pageHeader f i v, stage := st } } := by
  obtain ⟨st, e⟩ := (s.takeHold i).copyFrom_store
    { job := .page i, trigger := tr, offset := p, header := s.pageHeader f i v, stage := .trailer } 0
  exact ⟨st, e⟩

@[simp] theorem State.acceptRecord_slots (s : State) (p : Nat) (f : Format) (i : Fin 3) (v tr : Bool) :
    (s.acceptRecord p f i v tr).slots = (s.takeHold i).slots := by
  simp [State.acceptRecord]

theorem State.endCopy_store (s : State) (c : CopyOp) :
    (s.endCopy c).store = { s.store with copy := none } := by
  simp [State.endCopy]

theorem State.endCopy_slots (s : State) (c : CopyOp) : (s.endCopy c).slots = (s.releaseOpt c.pin).slots := by
  simp [State.endCopy]

/-- An ADVANCE leaves the store but for its traversal engine. -/
theorem State.advanceAt_store (s : State) (p : Nat) (b : Bool) :
    (s.advanceAt p b).store =
      { s.store with trav := if p = s.store.eod then none else some (.advance b) } := by
  unfold State.advanceAt
  split <;> simp [State.idleTrav, State.useTrav, *]

end Sys2Proof.Machine

/-! The holds of the slots (R16 to R21): `Held` counts the holders of each slot as a function, so that a holder that
comes or goes between the take or release of its hold and the change of the holder can be told apart. -/

namespace Sys2Proof.Machine

/-! ## Holds counted -/

/-- The hold count of each slot is `n` of it, slots that are not COMPLETE have none, and `fill` is the slot that is
FILLING. -/
def Held (m : SlotManager) (fill : Option (Fin 3)) (n : Fin 3 → Nat) : Prop :=
  ∀ i : Fin 3, m.recs[i].hold = n i ∧ (m.recs[i].state ≠ .complete → m.recs[i].hold = 0)
    ∧ (m.recs[i].state = .filling ↔ fill = some i)

theorem holdsInv_iff (s : State) : HoldsInv s ↔ Held s.slots s.asm.slot s.holders := Iff.rfl

theorem Held.of_count {m : SlotManager} {fill : Option (Fin 3)} {n k : Fin 3 → Nat} (h : Held m fill n)
    (same : ∀ i, n i = k i) : Held m fill k := by
  have e : n = k := funext same
  exact e ▸ h

theorem holdsSlot_some_self (i : Fin 3) : holdsSlot (some i) i = 1 := by simp [holdsSlot]

@[simp] theorem holdsSlot_none (i : Fin 3) : holdsSlot none i = 0 := by simp [holdsSlot]

/-- The same of the records by slot. -/
theorem held_slotRec (s : State) (fill : Option (Fin 3)) (n : Fin 3 → Nat) :
    Held s.slots fill n ↔ ∀ i : Fin 3, (s.slotRec i).hold = n i
      ∧ ((s.slotRec i).state ≠ .complete → (s.slotRec i).hold = 0)
      ∧ ((s.slotRec i).state = .filling ↔ fill = some i) := Iff.rfl

/-- A release with one holder the fewer (R21). -/
theorem Held.release {s : State} {fill : Option (Fin 3)} {n : Fin 3 → Nat} (i : Fin 3)
    (h : Held s.slots fill fun j => n j + holdsSlot (some i) j) : Held (s.releaseHold i).slots fill n := by
  rw [held_slotRec] at h ⊢
  intro j
  obtain ⟨count, idle, filling⟩ := h j
  rw [State.releaseHold_slotRec]
  by_cases ij : i = j
  · subst ij
    simp only [holdsSlot_some_self] at count
    have complete : (s.slotRec i).state = .complete := by
      refine Classical.byContradiction fun other => ?_
      have := idle other
      omega
    have unfilled : fill ≠ some i := fun f => by simp [filling.mpr f] at complete
    simp only [if_true]
    split
    · next gone => exact ⟨by omega, fun _ => gone.1, iff_of_false (by simp) unfilled⟩
    · exact ⟨by omega, fun other => absurd complete other, filling⟩
  · rw [if_neg ij]
    have zero : holdsSlot (some i) j = 0 := by simp [holdsSlot, ij]
    simp only [zero, Nat.add_zero] at count
    exact ⟨count, idle, filling⟩

theorem Held.releaseOpt {s : State} {fill : Option (Fin 3)} {n : Fin 3 → Nat} (o : Option (Fin 3))
    (h : Held s.slots fill fun j => n j + holdsSlot o j) : Held (s.releaseOpt o).slots fill n := by
  cases o with
  | none => exact h.of_count fun i => by simp
  | some i => exact Held.release i h

/-- A take of a COMPLETE slot with one holder the more (R19). -/
theorem Held.take {s : State} {fill : Option (Fin 3)} {n : Fin 3 → Nat} {i : Fin 3} (h : Held s.slots fill n)
    (complete : (s.slotRec i).state = .complete) :
    Held (s.takeHold i).slots fill fun j => n j + holdsSlot (some i) j := by
  intro j
  obtain ⟨count, idle, filling⟩ := h j
  have e := s.takeHold_slotRec i j
  simp only [State.slotRec] at e complete
  rw [e]
  by_cases ij : i = j
  · subst ij
    rw [if_pos rfl]
    exact ⟨by simp only [count, holdsSlot_some_self], fun other => absurd complete other, filling⟩
  · rw [if_neg ij]
    have zero : holdsSlot (some i) j = 0 := by simp [holdsSlot, ij]
    exact ⟨by simp only [count, zero, Nat.add_zero], idle, filling⟩

/-- What the holds depend on. -/
theorem HoldsInv.of_same {s t : State} (h : HoldsInv s) (recs : t.slots.recs = s.slots.recs)
    (frame : t.asm.frame = s.asm.frame) (latch : t.comp.latch.held = s.comp.latch.held)
    (current : t.view.current.held = s.view.current.held) (stack : t.view.stack = s.view.stack)
    (pin : t.pin = s.pin) : HoldsInv t := by
  have count : t.holders = s.holders := by
    funext i
    simp only [State.holders, latch, current, stack, pin]
  have fill : t.asm.slot = s.asm.slot := by simp only [Assembler.slot, frame]
  rw [holdsInv_iff] at h ⊢
  intro i
  rw [recs, fill, count]
  exact h i

/-! ## Copies -/

theorem pin_of_copy_none {s : State} (h : s.store.copy = none) : s.pin = none := by simp [State.pin, h]

theorem pin_of_copy {s : State} {c : CopyOp} (h : s.store.copy = some c) : s.pin = c.pin := by
  simp [State.pin, h]

/-- A copy engine that is idle takes an operation that pins no slot. -/
theorem HoldsInv.acceptMark {s : State} (h : HoldsInv s) (idle : s.store.copy = none) (p n : Nat) (tr : Bool) :
    HoldsInv (s.acceptMark p n tr) := by
  obtain ⟨st, e⟩ := s.acceptMark_store p n tr
  refine h.of_same (by simp) (by simp) (by simp) (by simp) (by simp) ?_
  rw [pin_of_copy (c := _) (by rw [e]), pin_of_copy_none idle]
  rfl

/-- A page copy takes the hold of its pin (R112). -/
theorem HoldsInv.acceptRecord {s : State} (h : HoldsInv s) (idle : s.store.copy = none) {i : Fin 3}
    (complete : (s.slotRec i).state = .complete) (p : Nat) (f : Format) (v tr : Bool) :
    HoldsInv (s.acceptRecord p f i v tr) := by
  obtain ⟨st, e⟩ := s.acceptRecord_store p f i v tr
  have pinned : (s.acceptRecord p f i v tr).pin = some i := by rw [pin_of_copy (c := _) (by rw [e])]; rfl
  rw [holdsInv_iff] at h ⊢
  rw [State.acceptRecord_slots, State.acceptRecord_asm]
  refine (h.take complete).of_count fun j => ?_
  simp only [State.holders, pinned, pin_of_copy_none idle, State.acceptRecord_comp, State.acceptRecord_view,
    holdsSlot_none]
  omega

/-- The end of a copy gives up its pin (R115). -/
theorem HoldsInv.endCopy {s : State} (h : HoldsInv s) {c : CopyOp} (running : s.store.copy = some c) :
    HoldsInv (s.endCopy c) := by
  rw [holdsInv_iff] at h ⊢
  rw [State.endCopy_slots, State.endCopy_asm]
  refine Held.releaseOpt _ (h.of_count fun j => ?_)
  have ended : (s.endCopy c).pin = none := pin_of_copy_none (by rw [State.endCopy_store])
  simp only [State.holders, ended, pin_of_copy running, State.endCopy_comp, State.endCopy_view, holdsSlot_none]
  omega

/-- A change of the store that leaves the copy engine. -/
theorem HoldsInv.setStore {s : State} (h : HoldsInv s) (x : Store) (copy : x.copy = s.store.copy) :
    HoldsInv (s.setStore x) :=
  h.of_same rfl rfl rfl rfl rfl (by simp [State.pin, copy])

/-- The copy engine goes on with its operation. -/
theorem HoldsInv.useCopy {s : State} (h : HoldsInv s) {c : CopyOp} (running : s.store.copy = some c)
    (st : CopyStage) : HoldsInv (s.useCopy { c with stage := st }) :=
  h.of_same rfl rfl rfl rfl rfl (by simp [State.pin, State.useCopy, running, CopyOp.pin])

theorem HoldsInv.copyFrom {s : State} (h : HoldsInv s) {c : CopyOp} (running : s.store.copy = some c)
    (done : Nat) : HoldsInv (s.copyFrom c done) := by
  obtain ⟨st, e⟩ := s.copyFrom_store c done
  refine h.of_same (by simp) (by simp) (by simp) (by simp) (by simp) ?_
  rw [pin_of_copy (c := { c with stage := st }) (by rw [e]), pin_of_copy running]
  rfl

theorem HoldsInv.complete {s : State} (h : HoldsInv s) (o : Result) : HoldsInv (s.complete o) :=
  h.of_same (by simp) (by simp) (by simp) (by simp) (by simp) (by simp [State.pin])

theorem HoldsInv.post {s : State} (h : HoldsInv s) (n : Notice) : HoldsInv (s.post n) :=
  h.of_same (by simp) (by simp) (by simp) (by simp) (by simp) (by simp [State.pin])

theorem HoldsInv.copyFailed {s : State} (h : HoldsInv s) (c : CopyOp) : HoldsInv (s.copyFailed c) :=
  h.of_same (by simp) (by simp) (by simp) (by simp) (by simp) (by simp [State.pin])

theorem HoldsInv.present {s : State} (h : HoldsInv s) (p : Purpose) (b : Burst) : HoldsInv (s.present p b) := h

theorem HoldsInv.setCmdStage {s : State} (h : HoldsInv s) (st : CmdStage) : HoldsInv (s.setCmdStage st) :=
  h.of_same (by simp) (by simp) (by simp) (by simp) (by simp) (by simp [State.pin])

theorem HoldsInv.useTrav {s : State} (h : HoldsInv s) (op : TravOp) : HoldsInv (s.useTrav op) :=
  h.setStore _ rfl

theorem HoldsInv.idleTrav {s : State} (h : HoldsInv s) : HoldsInv s.idleTrav := h.setStore _ rfl

theorem HoldsInv.advanceAt {s : State} (h : HoldsInv s) (p : Nat) (b : Bool) : HoldsInv (s.advanceAt p b) := by
  refine h.of_same (by simp) (by simp) (by simp) (by simp) (by simp) ?_
  simp [State.pin, State.advanceAt_store]

theorem HoldsInv.zoomStep {s : State} (h : HoldsInv s) (n : Nat) : HoldsInv (s.zoomStep n) :=
  h.of_same rfl rfl rfl rfl rfl rfl

theorem HoldsInv.lineEvent {s : State} (h : HoldsInv s) (n : Nat) : HoldsInv (s.lineEvent n) := by
  refine State.lineEvent_keeps (P := HoldsInv) (fun _ _ h => h) (fun _ h => h) (fun _ n h => h.post n) ?record
    ?mark (fun _ _ _ _ _ h => h.advanceAt _ _) (fun _ _ h => h.zoomStep _) n h
  case record =>
    intro s fmt p f i accepted h
    obtain ⟨v, -, -, idle, -, -, -, -, slot, -⟩ := State.checkRecord_accepted accepted
    exact h.acceptRecord (s.enginesIdle_iff.mp idle).1 (State.recordSlot_complete slot) _ _ _ _
  case mark =>
    intro s n p accepted h
    obtain ⟨-, idle, -⟩ := State.checkMark_accepted accepted
    exact h.acceptMark (s.enginesIdle_iff.mp idle).1 _ _ _

/-! ## Capture frames -/

theorem State.slotRec_eq (s : State) (i : Fin 3) : s.slotRec i = s.slots.recs[i] := rfl

/-- The slot of the frame becomes COMPLETE, and the others that nobody holds EMPTY (R27). -/
theorem SlotManager.completeFrame_rec (m : SlotManager) (i j : Fin 3) :
    (m.completeFrame i).recs[j] =
      if i = j then { m.recs[i] with state := .complete }
      else if m.recs[j].state = .complete ∧ m.recs[j].hold = 0 then { m.recs[j] with state := .empty }
      else m.recs[j] := by
  by_cases ij : i = j
  · subst ij; simp [SlotManager.completeFrame]
  · simp [SlotManager.completeFrame, ij, Fin.val_inj]

theorem State.frameCompletes_slots (s : State) (i : Fin 3) :
    (s.frameCompletes i).slots = s.slots.completeFrame i := by
  simp only [State.frameCompletes]
  split <;> rfl

theorem State.frameCompletes_asm (s : State) (i : Fin 3) :
    (s.frameCompletes i).asm = { s.asm with frame := none } := by
  simp only [State.frameCompletes]
  split <;> rfl

theorem HoldsInv.frameCompletes {s : State} (h : HoldsInv s) {i : Fin 3} (slot : s.asm.slot = some i) :
    HoldsInv (s.frameCompletes i) := by
  have count : (s.frameCompletes i).holders = s.holders := by
    funext j
    simp [State.holders, State.pin]
  rw [holdsInv_iff] at h ⊢
  intro j
  rw [State.frameCompletes_slots, SlotManager.completeFrame_rec, State.frameCompletes_asm, count]
  obtain ⟨hold_i, idle_i, fill_i⟩ := h i
  obtain ⟨hold_j, idle_j, fill_j⟩ := h j
  have filling : s.slots.recs[i].state = .filling := fill_i.mpr slot
  by_cases ij : i = j
  · subst ij
    rw [if_pos rfl]
    exact ⟨hold_i, by simp, by simp [Assembler.slot]⟩
  · rw [if_neg ij]
    split
    · next idle => exact ⟨hold_j, fun _ => idle.2, by simp [Assembler.slot]⟩
    · refine ⟨hold_j, idle_j, ?_⟩
      rw [fill_j, slot]
      simp [Assembler.slot, ij]

theorem State.markBroken_rec (s : State) (j : Fin 3) :
    (s.markBroken.slotRec j).hold = (s.slotRec j).hold ∧ (s.markBroken.slotRec j).state = (s.slotRec j).state := by
  unfold State.markBroken
  split
  · next i _ =>
    split
    · exact ⟨rfl, rfl⟩
    · have e : ((s.setRec i { s.slotRec i with broken := true }).setSlots
          { (s.setRec i { s.slotRec i with broken := true }).slots with
            broken := (s.setRec i { s.slotRec i with broken := true }).slots.broken + 1 }).slotRec j
          = (s.setRec i { s.slotRec i with broken := true }).slotRec j := rfl
      dsimp only
      rw [e, State.setRec_slotRec]
      split <;> simp_all
  · exact ⟨rfl, rfl⟩

theorem HoldsInv.markBroken {s : State} (h : HoldsInv s) : HoldsInv s.markBroken := by
  have count : s.markBroken.holders = s.holders := by
    funext j
    simp [State.holders, State.pin]
  rw [holdsInv_iff] at h ⊢
  intro j
  obtain ⟨hold, state⟩ := s.markBroken_rec j
  rw [State.slotRec_eq, State.slotRec_eq] at hold state
  rw [hold, state, count, State.markBroken_asm]
  exact h j

/-- The traffic keeps the holds. -/
theorem holdsInv_keeps : Keeps HoldsInv where
  port _ _ h := h
  txn _ _ _ _ _ h := h
  asm _ _ frame h := h.of_same rfl frame rfl rfl rfl rfl
  hist _ _ h := h
  completes _ _ slot h := h.frameCompletes slot
  broken _ h := h.markBroken
  event _ n _ h := h.lineEvent n
  errors _ _ h := h
  timer _ _ _ _ _ h := h
  cu _ _ _ _ _ _ _ h := h
  cmd _ _ _ _ _ h := h
  take _ _ _ _ h := h

/-! ## The start of a frame -/

/-- After the end of the frame in progress no slot is FILLING (R22 step 1). -/
theorem HoldsInv.endFrame {s : State} (h : HoldsInv s) : HoldsInv s.endFrame ∧ s.endFrame.asm.frame = none := by
  have count : s.endFrame.holders = s.holders := by
    funext j
    simp [State.holders, State.pin]
  have none_left : s.endFrame.asm.frame = none := by
    unfold State.endFrame
    dsimp only
    split
    · split <;> rfl
    · rfl
  refine ⟨?_, none_left⟩
  rw [holdsInv_iff] at h ⊢
  intro j
  obtain ⟨hold, idle, filling⟩ := h j
  rw [count, show s.endFrame.asm.slot = none by simp [Assembler.slot, none_left]]
  suffices rec : s.endFrame.slots.recs[j] = s.slots.recs[j] ∧ s.slots.recs[j].state ≠ .filling
      ∨ s.endFrame.slots.recs[j] = { s.slots.recs[j] with state := .empty } ∧ s.slots.recs[j].hold = 0 by
    rcases rec with ⟨e, other⟩ | ⟨e, zero⟩
    · rw [e]; exact ⟨hold, idle, iff_of_false other (by simp)⟩
    · rw [e]; exact ⟨hold, fun _ => zero, by simp⟩
  unfold State.endFrame
  dsimp only
  split
  · next f frame =>
    split
    · next i slot =>
      have fills : s.asm.slot = some i := by simp [Assembler.slot, frame, slot]
      by_cases ij : i = j
      · subst ij
        exact .inr ⟨by simp [State.setRec, State.slotRec], idle (by rw [filling.mpr fills]; simp)⟩
      · exact .inl ⟨by simp [State.setRec, ij, Fin.val_inj],
          fun other => ij (by simpa [fills] using filling.mp other)⟩
    · next slot => exact .inl ⟨rfl, mt filling.mp (by simp [Assembler.slot, frame, slot])⟩
  · next frame => exact .inl ⟨rfl, mt filling.mp (by simp [Assembler.slot, frame])⟩

@[simp] theorem ViewLatch.released_held (l : ViewLatch) : l.released.held = none := rfl

@[simp] theorem ViewController.dropHolds_current_held (v : ViewController) : v.dropHolds.current.held = none := by
  unfold ViewController.dropHolds
  dsimp only
  split
  · rfl
  · next other => simpa using other

theorem State.newGeometry_slots (s : State) :
    s.newGeometry.slots = { s.slots with recs := s.slots.recs.map SlotRec.emptied } := by
  unfold State.newGeometry
  dsimp only
  split <;> simp

theorem State.newGeometry_comp (s : State) :
    s.newGeometry.comp = { s.comp with latch := s.comp.latch.released } := by
  unfold State.newGeometry
  dsimp only
  split <;> simp

theorem State.newGeometry_view (s : State) : s.newGeometry.view = s.view.dropHolds := by
  unfold State.newGeometry
  dsimp only
  split <;> simp

theorem sum_of_no_holds (es : List StackEntry) : (es.map fun _ => 0).sum = 0 := by
  induction es with
  | nil => rfl
  | cons e es ih => simp [ih]

/-- A new geometry leaves no slot in use and no holder (R31). -/
theorem HoldsInv.newGeometry {s : State} (frame : s.asm.frame = none) (copy : s.store.copy = none) :
    HoldsInv s.newGeometry := by
  have pin : s.newGeometry.pin = none := pin_of_copy_none (by simpa using copy)
  rw [holdsInv_iff]
  intro j
  rw [State.newGeometry_slots]
  refine ⟨?_, ?_, ?_⟩
  · have drops : ∀ e : StackEntry, StackEntry.held { e with standing := false } = none := fun e => rfl
    simp [SlotRec.emptied, State.holders, State.newGeometry_comp, State.newGeometry_view, pin, drops,
      ViewController.dropHolds, Function.comp_def]
    split <;> simp_all [ViewContext.held, sum_of_no_holds]
  · simp [SlotRec.emptied]
  · simp [SlotRec.emptied, Assembler.slot, frame]

theorem HoldsInv.applyPending {s : State} (h : HoldsInv s) (frame : s.asm.frame = none) : HoldsInv s.applyPending := by
  unfold State.applyPending
  split
  · split
    · next g _ idle =>
      unfold State.applyStaged
      dsimp only
      split
      · exact h
      · exact HoldsInv.newGeometry frame (by simpa using idle)
    · exact h
  · exact h

/-- The slot of a new frame is EMPTY, or COMPLETE and nobody's (R24). -/
theorem State.chooseSlot_spec {s : State} {i : Fin 3} (h : s.chooseSlot = some i) :
    (s.slotRec i).state = .empty ∨ (s.slotRec i).state = .complete ∧ (s.slotRec i).hold = 0 := by
  unfold State.chooseSlot at h
  split at h
  · next k found =>
    cases h
    exact .inl (by simpa using List.find?_some found)
  · split at h
    · next k newest =>
      split at h
      · next free => cases h; exact .inr ⟨State.newest_complete newest, free⟩
      · cases h
    · cases h

theorem State.fillSlot_rec (s : State) (i j : Fin 3) :
    (s.fillSlot (some i)).slotRec j = if i = j then s.fillingRec i else s.slotRec j :=
  State.setRec_slotRec s i j _

/-- A frame with no slot FILLING takes the slot it chooses (R24, R36). -/
theorem HoldsInv.fill {s : State} (h : HoldsInv s) (frame : s.asm.frame = none) :
    HoldsInv ((s.fillSlot s.chooseSlot).freshFrame s.chooseSlot) := by
  have count : ((s.fillSlot s.chooseSlot).freshFrame s.chooseSlot).holders = s.holders := by
    funext j
    simp [State.holders, State.pin]
  have unused : s.asm.slot = none := by simp [Assembler.slot, frame]
  rw [holdsInv_iff] at h ⊢
  intro j
  rw [count, State.freshFrame_slots]
  have fill : ((s.fillSlot s.chooseSlot).freshFrame s.chooseSlot).asm.slot = s.chooseSlot := rfl
  rw [fill]
  obtain ⟨hold, idle, filling⟩ := h j
  rw [unused] at filling
  cases chosen : s.chooseSlot with
  | none => exact ⟨hold, idle, filling⟩
  | some i =>
    have e := s.fillSlot_rec i j
    rw [State.slotRec_eq, State.slotRec_eq] at e
    rw [e]
    by_cases ij : i = j
    · subst ij
      have zero : s.slots.recs[i].hold = 0 := by
        rcases State.chooseSlot_spec chosen with empty | ⟨-, zero⟩
        · exact idle (by rw [State.slotRec_eq] at empty; rw [empty]; simp)
        · exact zero
      rw [if_pos rfl]
      exact ⟨hold, fun _ => zero, by simp [State.fillingRec]⟩
    · rw [if_neg ij]
      exact ⟨hold, idle, by simpa [ij] using filling⟩

theorem HoldsInv.frameStart {s : State} (h : HoldsInv s) : HoldsInv s.frameStart := by
  obtain ⟨ended, none_left⟩ := h.endFrame
  have applied : HoldsInv s.endFrame.applyPending := ended.applyPending none_left
  have timed : HoldsInv s.endFrame.applyPending.timerFrameStart :=
    applied.of_same (by simp) (by simp) (by simp) (by simp) (by simp) (by simp [State.pin])
  have counted : HoldsInv (s.endFrame.applyPending.timerFrameStart.setSlots
      { s.endFrame.applyPending.timerFrameStart.slots with
        started := s.endFrame.applyPending.timerFrameStart.slots.started + 1 }) := timed
  have filled := counted.fill (by simpa using none_left)
  exact filled

/-! ## The view -/

/-- The current context is given up, pushed or released: the view that takes its place counts the same, without
the hold of the current context (R20, R86, R89). -/
theorem HoldsInv.giveUp {s : State} (h : HoldsInv s) (push : Bool) :
    Held (s.giveUpCurrent push).slots s.asm.slot fun i =>
      holdsSlot s.comp.latch.held i
        + ((s.giveUpCurrent push).view.stack.map fun e => holdsSlot e.held i).sum + holdsSlot s.pin i := by
  rw [holdsInv_iff] at h
  unfold State.giveUpCurrent
  cases push with
  | true =>
    have pushed : StackEntry.held { ctx := s.view.current, standing := s.view.current.held.isSome }
        = s.view.current.held := by
      unfold StackEntry.held
      dsimp only
      split
      · rfl
      · next other => exact (Option.not_isSome_iff_eq_none.mp other).symm
    refine h.of_count fun i => ?_
    simp only [State.holders, if_true, State.setView_view, List.map_cons, List.sum_cons, pushed]
    omega
  | false =>
    refine Held.releaseOpt _ (h.of_count fun i => ?_)
    simp only [State.holders, Bool.false_eq_true, if_false, State.releaseOpt_view]
    omega

/-- A context that holds no slot takes the place of the one given up. -/
theorem HoldsInv.replaceCurrent {s : State} (h : HoldsInv s) (push : Bool) {c : ViewContext} (free : c.held = none) :
    HoldsInv ((s.giveUpCurrent push).setCurrent c) := by
  rw [holdsInv_iff]
  have kept := h.giveUp push
  rw [State.setCurrent_slots, State.setCurrent_asm, State.giveUpCurrent_asm]
  refine kept.of_count fun i => ?_
  simp [State.holders, State.pin, State.setCurrent, free]

/-- The view becomes one that counts the same without the hold that is released. -/
theorem HoldsInv.releaseView {s : State} (h : HoldsInv s) (o : Option (Fin 3)) (v : ViewController)
    (count : ∀ i, holdsSlot s.view.current.held i + (s.view.stack.map fun e => holdsSlot e.held i).sum
      = holdsSlot v.current.held i + (v.stack.map fun e => holdsSlot e.held i).sum + holdsSlot o i) :
    HoldsInv ((s.releaseOpt o).setView v) := by
  rw [holdsInv_iff] at h ⊢
  rw [State.setView_slots, State.setView_asm, State.releaseOpt_asm]
  refine Held.releaseOpt _ (h.of_count fun i => ?_)
  have pin : ((s.releaseOpt o).setView v).pin = s.pin := by simp [State.pin]
  have := count i
  simp only [State.holders, pin, State.setView_comp, State.setView_view, State.releaseOpt_comp] at this ⊢
  omega

theorem ViewRequest.context_held (q : ViewRequest) (old : ViewContext) (src : Source) :
    (q.context old src).held = match src with | .frozen i _ => some i | _ => none := by
  cases src <;> rfl

theorem HoldsInv.changeView {s : State} (h : HoldsInv s) (q : ViewRequest) (push : Bool) :
    HoldsInv (s.changeView q push) := by
  unfold State.changeView
  dsimp only
  split
  · split
    · next i newest =>
      rw [holdsInv_iff]
      have taken := (h.giveUp push).take (State.newest_complete newest)
      rw [State.setCurrent_slots, State.setCurrent_asm, State.takeHold_asm, State.giveUpCurrent_asm]
      refine taken.of_count fun j => ?_
      have pin : ∀ c, (((s.giveUpCurrent push).takeHold i).setCurrent c).pin = s.pin := by simp [State.pin]
      simp only [State.holders, pin, State.setCurrent_comp, State.takeHold_comp, State.giveUpCurrent_comp]
      simp only [State.setCurrent, State.setView_view, State.takeHold_view, ViewRequest.context_held]
      omega
    · exact h.replaceCurrent push (ViewRequest.context_held _ _ _)
  · exact h.replaceCurrent push (ViewRequest.context_held _ _ _)
  · exact h.replaceCurrent push (ViewRequest.context_held _ _ _)

theorem HoldsInv.runView {s : State} (h : HoldsInv s) (q : ViewRequest) (push : Bool) : HoldsInv (s.runView q push) := by
  unfold State.runView
  split
  · exact h.complete _
  · split
    · exact ((h.useTrav _).setCmdStage _).present _ _
    · exact (h.changeView q push).complete _

theorem ViewRequest.pageContext_held (q : ViewRequest) (old : ViewContext) (p : Nat) (d : Header) :
    (q.pageContext old p d).held = none := by
  unfold ViewRequest.pageContext
  dsimp only
  split <;> rfl

theorem HoldsInv.viewHeaderRead {s : State} (h : HoldsInv s) (a : Answer) : HoldsInv (s.viewHeaderRead a) := by
  unfold State.viewHeaderRead
  split
  · dsimp only
    split
    · exact h.idleTrav.complete _
    · split
      · exact (h.idleTrav.setStore _ (by rfl)).complete _
      · split
        · exact (h.idleTrav.replaceCurrent _ (ViewRequest.pageContext_held _ _ _ _)).complete _
        · exact h.idleTrav.complete _
  · exact h

theorem HoldsInv.restoreEntry {s : State} (h : HoldsInv s) {e : StackEntry} {rest : List StackEntry}
    (top : s.view.stack = e :: rest) (standing : e.held = e.ctx.held) : HoldsInv (s.restoreEntry e rest) := by
  refine HoldsInv.complete (h.releaseView _ _ fun i => ?_) _
  simp only [top, List.map_cons, List.sum_cons, standing]
  omega

theorem State.setView_releaseOpt (s : State) (v : ViewController) (o : Option (Fin 3)) :
    (s.setView v).releaseOpt o = (s.releaseOpt o).setView v := by
  cases o with
  | none => rfl
  | some i =>
    simp only [State.releaseOpt, State.releaseHold, show (s.setView v).newest = s.newest from rfl,
      show (s.setView v).slotRec i = s.slotRec i from rfl]
    split <;> rfl

theorem HoldsInv.discardEntry {s : State} (h : HoldsInv s) {e : StackEntry} {rest : List StackEntry}
    (top : s.view.stack = e :: rest) : HoldsInv (s.discardEntry e rest) := by
  have popped : HoldsInv ((s.releaseOpt e.held).setView { s.view with stack := rest }) := by
    refine h.releaseView _ _ fun i => ?_
    simp only [top, List.map_cons, List.sum_cons]
    omega
  refine HoldsInv.complete ?_ _
  have reset := popped.releaseView s.view.current.held { current := ViewContext.liveDefault, stack := rest }
    (fun i => by
      have live : holdsSlot ViewContext.liveDefault.held i = 0 := rfl
      simp only [State.setView_view, live]
      omega)
  rw [State.setView_releaseOpt] at reset
  exact reset

theorem HoldsInv.runPop {s : State} (h : HoldsInv s) : HoldsInv s.runPop := by
  unfold State.runPop
  split
  · exact h.complete _
  · next e rest top =>
    have free : e.ctx.held = none → e.held = e.ctx.held := by
      intro none_held
      simp [StackEntry.held, none_held]
    split
    · next src => exact h.restoreEntry top (free (by simp [ViewContext.held, src]))
    · next src => exact h.restoreEntry top (free (by simp [ViewContext.held, src]))
    · next i g src =>
      split
      · next ready =>
        rw [Bool.and_eq_true] at ready
        exact h.restoreEntry top (by simp [StackEntry.held, ready.1])
      · exact h.discardEntry top
    · split
      · exact h.complete _
      · split
        · exact h.discardEntry top
        · exact ((h.useTrav _).setCmdStage _).present _ _

theorem HoldsInv.popHeaderRead {s : State} (h : HoldsInv s) (a : Answer) : HoldsInv (s.popHeaderRead a) := by
  unfold State.popHeaderRead
  dsimp only
  split
  · next e rest trav top =>
    split
    · next part src =>
      split
      · exact h.idleTrav.complete _
      · split
        · split
          · exact h.idleTrav.restoreEntry top (by simp [StackEntry.held, ViewContext.held, src])
          · exact h.idleTrav.discardEntry top
        · exact h.idleTrav.discardEntry top
    · exact h.idleTrav
  · exact h

theorem HoldsInv.advanceSource {s : State} (h : HoldsInv s) (part : PagePart) : HoldsInv (s.advanceSource part) :=
  h.replaceCurrent false rfl

/-! ## The store -/

theorem HoldsInv.advanceRead {s : State} (h : HoldsInv s) (a : Answer) : HoldsInv (s.advanceRead a) := by
  unfold State.advanceRead
  split
  · split
    · exact h.idleTrav
    · split
      · exact (HoldsInv.idleTrav (h.setStore _ (by rfl))).post _
      · split
        · exact (HoldsInv.idleTrav (h.setStore _ (by rfl))).post _
        · exact h.idleTrav.post _
        · split
          · exact HoldsInv.advanceAt (h.setStore _ (by rfl)) _ _
          · split
            · exact h.idleTrav
            · exact h.idleTrav.advanceSource _
  · exact h

theorem HoldsInv.runRecord {s : State} (h : HoldsInv s) (p : Packet) : HoldsInv (s.runRecord p) := by
  unfold State.runRecord
  split
  · exact h.complete _
  · next accepted =>
    obtain ⟨v, -, -, idle, -, -, -, -, slot, -⟩ := State.checkRecord_accepted accepted
    exact (h.setCmdStage _).acceptRecord (by simpa using (s.enginesIdle_iff.mp idle).1)
      (by simpa [State.slotRec] using State.recordSlot_complete slot) _ _ _ _

theorem HoldsInv.runMark {s : State} (h : HoldsInv s) (p : Packet) : HoldsInv (s.runMark p) := by
  unfold State.runMark
  split
  · exact h.complete _
  · next accepted =>
    obtain ⟨-, idle, -⟩ := State.checkMark_accepted accepted
    exact (h.setCmdStage _).acceptMark (by simpa using (s.enginesIdle_iff.mp idle).1) _ _ _

theorem HoldsInv.copyAnswer {s : State} (h : HoldsInv s) (a : Answer) : HoldsInv (s.copyAnswer a) := by
  unfold State.copyAnswer
  split
  · exact h
  · next c running =>
    split
    · exact (h.endCopy running).copyFailed _
    · split
      · split
        · exact (h.useCopy running _).present _ _
        · exact (h.useCopy running _).present _ _
      · exact h.copyFrom running _
      · exact (h.useCopy running _).present _ _
      · exact (h.useCopy running _).present _ _
      · exact h

theorem HoldsInv.commitAnswer {s : State} (h : HoldsInv s) (a : Answer) : HoldsInv (s.commitAnswer a) := by
  unfold State.commitAnswer
  split
  · exact h
  · next c running =>
    have ended := h.endCopy running
    dsimp only
    split
    · have failed : HoldsInv (((s.endCopy c).setPosition none).copyFailed c) :=
        HoldsInv.copyFailed (ended.setStore _ (by rfl)) _
      split
      · exact failed.post _
      · exact failed
    · have done : HoldsInv ((s.endCopy c).setStore ((s.endCopy c).store.committed c)) := ended.setStore _ rfl
      split
      · split
        · exact done.post _
        · exact done
      · exact done.complete _

theorem HoldsInv.runClear {s : State} (h : HoldsInv s) : HoldsInv s.runClear := by
  unfold State.runClear
  split
  · exact h.complete _
  · next idle =>
    split
    · exact h.complete _
    · have cleared : ∀ c : CopyOp, c.pin = none → HoldsInv (s.useCopy c) := by
        intro c unpinned
        refine h.of_same rfl rfl rfl rfl rfl ?_
        rw [pin_of_copy_none (s.enginesIdle_iff.mp (by simpa using idle)).1]
        exact unpinned
      exact ((cleared _ rfl).setCmdStage _).present _ _

theorem HoldsInv.clearAnswer {s : State} (h : HoldsInv s) (a : Answer) : HoldsInv (s.clearAnswer a) := by
  unfold State.clearAnswer
  split
  · exact h
  · next c running =>
    split
    · dsimp only
      split <;> exact HoldsInv.complete ((h.endCopy running).setStore _ (by rfl)) _
    · exact h

theorem HoldsInv.startScan {s : State} (h : HoldsInv s) (c : RegionChange) : HoldsInv (s.startScan c) :=
  h.of_same rfl rfl rfl rfl rfl rfl

theorem HoldsInv.endScan {s : State} (h : HoldsInv s) : HoldsInv s.endScan := by
  unfold State.endScan
  dsimp only
  split
  · exact h.idleTrav
  · split
    · split
      · exact h.idleTrav.complete _
      · exact h.idleTrav
    · exact h.idleTrav

theorem HoldsInv.scanRead {s : State} (h : HoldsInv s) (a : Answer) : HoldsInv (s.scanRead a) := by
  unfold State.scanRead
  split
  · split
    · exact h.endScan
    · split
      · exact h.endScan
      · split
        · exact HoldsInv.endScan (h.setStore _ (by rfl))
        · exact (h.useTrav _).present _ _
  · exact h

theorem HoldsInv.moveStep {s : State} (h : HoldsInv s) (m : MoveMode) (l p : Nat) : HoldsInv (s.moveStep m l p) := by
  unfold State.moveStep
  split
  · exact h.idleTrav.complete _
  · split
    · split
      · exact h.idleTrav.complete _
      · exact (h.useTrav _).present _ _
    · split
      · exact h.idleTrav.complete _
      · exact (h.useTrav _).present _ _

theorem HoldsInv.movePass {s : State} (h : HoldsInv s) (m : MoveMode) (l p d : Nat) (k : Kind) :
    HoldsInv (s.movePass m l p d k) := by
  have moved : HoldsInv (s.setPosition (some d)) := h.setStore _ rfl
  unfold State.movePass
  dsimp only
  split
  · split
    · exact moved.idleTrav.complete _
    · exact moved.moveStep _ _ _
  · split
    · exact moved.moveStep _ _ _
    · exact moved.idleTrav.complete _

theorem HoldsInv.moveLost {s : State} (h : HoldsInv s) (l p : Nat) : HoldsInv (s.moveLost l p) :=
  HoldsInv.complete (HoldsInv.idleTrav (h.setStore _ (by rfl))) _

theorem HoldsInv.moveRead {s : State} (h : HoldsInv s) (a : Answer) : HoldsInv (s.moveRead a) := by
  unfold State.moveRead
  split
  · split
    · exact h.idleTrav.complete _
    · split
      · split
        · exact h.moveLost _ _
        · split
          · exact h.moveLost _ _
          · exact h.movePass _ _ _ _ _
      · dsimp only
        split
        · exact (h.useTrav _).present _ _
        · exact h.moveLost _ _
      · split
        · exact h.moveLost _ _
        · split
          · exact h.movePass _ _ _ _ _
          · exact h.moveLost _ _
  · exact h

theorem HoldsInv.runTraversal {s : State} (h : HoldsInv s) (m : MoveMode) (n : Nat) :
    HoldsInv (s.runTraversal m n) := by
  unfold State.runTraversal
  repeat' split
  all_goals first | exact h.complete _ | exact (h.setCmdStage _).moveStep _ _ _

theorem HoldsInv.runReposition {s : State} (h : HoldsInv s) (x : Store) (copy : x.copy = s.store.copy) :
    HoldsInv (s.runReposition x) := by
  unfold State.runReposition
  repeat' split
  all_goals first | exact h.complete _ | exact (h.setStore x copy).complete _

theorem HoldsInv.listFrom {s : State} (h : HoldsInv s) (addr total : Nat) (got : List Word) :
    HoldsInv (s.listFrom addr total got) := by
  have loaded : ∀ x, HoldsInv (s.setTimer x) := fun _ => h
  unfold State.listFrom
  dsimp only
  split
  · unfold State.loadList
    split
    · exact (loaded _).complete _
    · exact h.complete _
  · split
    · exact h.complete _
    · exact holdsInv_keeps.presentCommand _ _ (h.setCmdStage _)

/-! ## The latch -/

theorem HoldsInv.setLatch {s : State} {n : Fin 3 → Nat} {l : ViewLatch} (h : Held s.slots s.asm.slot n)
    (count : ∀ i, n i = holdsSlot l.held i + holdsSlot s.view.current.held i
      + (s.view.stack.map fun e => holdsSlot e.held i).sum + holdsSlot s.pin i) : HoldsInv (s.setLatch l) := by
  rw [holdsInv_iff]
  exact h.of_count fun i => by
    simp only [State.holders, State.pin, State.setLatch, State.setComp_comp, State.setComp_view,
      State.setComp_store] at count ⊢
    exact count i

theorem latchOf_held (v : ViewSet) (c : ViewContext) (src : LatchSource) (w h : Nat) :
    (latchOf v c src w h).held = match src with | .slot i _ _ => some i | _ => none := by
  cases src <;> rfl

/-- A latch releases the old hold and takes the new one (R68). -/
theorem HoldsInv.takeLatch {s : State} (h : HoldsInv s) (f : Bool) : HoldsInv (s.takeLatch f) := by
  rw [holdsInv_iff] at h
  have released : Held (s.releaseOpt s.comp.latch.held).slots (s.releaseOpt s.comp.latch.held).asm.slot fun i =>
      holdsSlot s.view.current.held i + (s.view.stack.map fun e => holdsSlot e.held i).sum + holdsSlot s.pin i := by
    rw [State.releaseOpt_asm]
    refine Held.releaseOpt _ (h.of_count fun i => ?_)
    simp only [State.holders]
    omega
  have free : ∀ l : ViewLatch, l.held = none → HoldsInv ((s.releaseOpt s.comp.latch.held).setLatch l) := by
    intro l none_held
    refine HoldsInv.setLatch released fun i => ?_
    simp [none_held, State.pin]
  have taken : ∀ (v : ViewSet) (c : ViewContext) (i : Fin 3),
      ((s.releaseOpt s.comp.latch.held).slotRec i).state = .complete →
      HoldsInv ((s.releaseOpt s.comp.latch.held).latchSlot v c i) := by
    intro v c i complete
    refine HoldsInv.setLatch (released.take complete) fun j => ?_
    have pin : ((s.releaseOpt s.comp.latch.held).takeHold i).pin = s.pin := by simp [State.pin]
    simp only [latchOf_held, State.takeHold_view, State.releaseOpt_view, pin]
    omega
  unfold State.takeLatch
  dsimp only
  split
  · split
    · next newest => exact taken _ _ _ (State.newest_complete newest)
    · exact free _ rfl
  · split
    · next take => exact taken _ _ _ ((State.canTake_iff _ _ _).mp take).1
    · exact free _ rfl
  · exact free _ rfl
  · exact free _ rfl

theorem HoldsInv.displayPiece {s : State} (h : HoldsInv s) (x : Txn) (p : Piece) : HoldsInv (s.displayPiece x p) := by
  have latched : HoldsInv (if s.startsViewFrame x p || !s.comp.latch.latched
      then s.takeLatch (s.startsViewFrame x p) else s) := by
    split
    · exact h.takeLatch _
    · exact h
  exact latched

/-! ## Setup and reset -/

theorem HoldsInv.applyBypass {s : State} (h : HoldsInv s) (b : SetupBlock) : HoldsInv (s.applyBypass b) :=
  h.of_same rfl rfl rfl rfl rfl rfl

theorem Store.takeMargin_copy (x : Store) (m : Nat) : (x.takeMargin m).copy = x.copy := by
  unfold Store.takeMargin; split <;> rfl

theorem HoldsInv.takeRun {s : State} (h : HoldsInv s) (b : SetupBlock) : HoldsInv (s.takeRun b) := h

theorem HoldsInv.applyRun {s : State} (h : HoldsInv s) (b : SetupBlock) : HoldsInv (s.applyRun b) := by
  unfold State.applyRun
  split
  · exact h.complete _
  · split
    · exact h.complete _
    · split
      · exact h.complete _
      · dsimp only
        split
        · exact HoldsInv.complete ((h.takeRun b).setStore _ (Store.takeMargin_copy _ _)) _
        · split
          · exact ((h.takeRun b).setCmdStage _).startScan _
          · exact HoldsInv.setCmdStage ((h.takeRun b).setStore _ (by rfl)) _

theorem HoldsInv.setupRead {s : State} (h : HoldsInv s) (a : Answer) : HoldsInv (s.setupRead a) := by
  unfold State.setupRead
  split
  · split
    · split
      · exact h.complete _
      · split
        · exact holdsInv_keeps.presentCommand _ _ (h.setCmdStage _)
        · unfold State.judgeSetup
          split
          · exact h.complete _
          · split
            · exact (h.setCmdStage _).applyBypass _
            · exact h.applyRun _
    · exact h
  · exact h

theorem HoldsInv.reloadRead {s : State} (h : HoldsInv s) (a : Answer) : HoldsInv (s.reloadRead a) := by
  unfold State.reloadRead
  split
  · split
    · exact h
    · dsimp only
      split
      · exact h
      · exact h
  · split
    · exact h
    · split
      · exact h
      · dsimp only
        split
        · exact h
        · exact HoldsInv.applyBypass (s := s.setCu { s.cu with reload := some .scan }) h _
  · exact h

theorem holdsInv_reset : HoldsInv State.reset := by
  rw [holdsInv_iff]
  intro i
  simp [State.reset, SlotManager.reset, SlotRec.reset, State.holders, Composer.reset, ViewLatch.held,
    ViewController.reset, ViewContext.held, ViewContext.liveDefault, State.pin, Store.reset, Assembler.slot,
    Assembler.reset]

/-! ## RESTART -/

theorem HoldsInv.restartStore {s : State} (h : HoldsInv s) : HoldsInv s.restartStore := by
  have released : Held (s.releaseOpt s.pin).slots s.asm.slot fun i =>
      holdsSlot s.comp.latch.held i + holdsSlot s.view.current.held i
        + (s.view.stack.map fun e => holdsSlot e.held i).sum := Held.releaseOpt _ h
  rw [holdsInv_iff]
  unfold State.restartStore
  simp only [State.setStore_slots, State.setPort_slots, State.setStore_asm, State.setPort_asm, State.releaseOpt_asm]
  refine Held.of_count released fun i => ?_
  simp [State.holders, State.pin]

/-- Each STANDING entry gives up its hold (R98). -/
theorem Held.releaseStack (es : List StackEntry) {s : State} {fill : Option (Fin 3)} {n : Fin 3 → Nat}
    (h : Held s.slots fill fun i => n i + (es.map fun e => holdsSlot e.held i).sum) :
    Held (es.foldl (fun t e => t.releaseOpt e.held) s).slots fill n := by
  induction es generalizing s with
  | nil => exact h.of_count fun i => by simp
  | cons e es ih =>
    rw [List.foldl_cons]
    refine ih (Held.releaseOpt _ (h.of_count fun i => ?_))
    simp only [List.map_cons, List.sum_cons]
    omega

/-- The releases of the stack leave every block but the slots. -/
theorem State.releaseStack_frame (es : List StackEntry) (s : State) :
    (es.foldl (fun t e => t.releaseOpt e.held) s)
      = s.setSlots (es.foldl (fun t e => t.releaseOpt e.held) s).slots := by
  induction es generalizing s with
  | nil => rfl
  | cons e es ih =>
    have one : s.releaseOpt e.held = s.setSlots (s.releaseOpt e.held).slots := by
      cases e.held with
      | none => rfl
      | some i =>
        simp only [State.releaseOpt, State.releaseHold]
        split <;> rfl
    have drop : ∀ m, (s.releaseOpt e.held).setSlots m = s.setSlots m := fun m => by rw [one]; rfl
    exact (ih _).trans (drop _)

theorem HoldsInv.restartView {s : State} (h : HoldsInv s) : HoldsInv s.restartView := by
  unfold State.restartView
  dsimp only
  have stack : Held (s.view.stack.foldl (fun t e => t.releaseOpt e.held) s).slots s.asm.slot fun i =>
      (holdsSlot s.comp.latch.held i + holdsSlot s.pin i) + holdsSlot s.view.current.held i := by
    refine Held.releaseStack _ (((holdsInv_iff s).mp h).of_count fun i => ?_)
    simp only [State.holders]
    omega
  have frame := State.releaseStack_frame s.view.stack s
  rw [holdsInv_iff]
  rw [State.setView_slots, State.setView_asm, State.releaseOpt_asm]
  generalize s.view.stack.foldl (fun t e => t.releaseOpt e.held) s = u at stack frame
  have asm : u.asm = s.asm := by rw [frame]; rfl
  have comp : u.comp = s.comp := by rw [frame]; rfl
  have store : u.store = s.store := by rw [frame]; rfl
  rw [asm]
  refine (Held.releaseOpt _ stack).of_count fun i => ?_
  have live : holdsSlot ViewContext.liveDefault.held i = 0 := rfl
  simp [State.holders, State.pin, comp, store, live]

theorem HoldsInv.restart {s : State} (h : HoldsInv s) : HoldsInv s.restart := h.restartStore.restartView

/-! ## Every step -/

theorem HoldsInv.of_runs {c : Instr} {s t : State} (run : Runs c s t) (h : HoldsInv s) : HoldsInv t := by
  refine run.keeps holdsInv_keeps (fun _ _ h => h) (fun special => ?_) h
  have freed : HoldsInv s.portFreed := h
  cases run with
  | resetNFall => exact holdsInv_reset
  | resetNRise => exact h
  | localTime => exact h
  | deferredScan =>
    refine HoldsInv.startScan ?_ _
    unfold State.setupScans
    split
    · split
      · exact h.setCmdStage _
      · exact h
    · exact h
  | restart | restartClosed =>
    first
    | exact holdsInv_keeps.endReport _ _ _ h.restart
    | exact holdsInv_keeps.endReport _ _ _ (holdsInv_keeps.setControl _ _ h)
  | luma front => exact holdsInv_keeps.lumaPiece _ _ (front.run (.inl rfl)) (fun _ _ h => h.frameStart) h
  | display => exact h.displayPiece _ _
  | packetAnswer =>
    unfold State.packetAnswer
    split
    · split
      · split
        · exact freed.complete _
        · have judged : ∀ u, HoldsInv (s.portFreed.setCu u) := fun _ => h
          unfold State.judgePacket
          dsimp only
          repeat' split
          all_goals first | exact (judged _).complete _ | exact judged _
      · exact freed
    · exact freed
  | setupRead => exact freed.setupRead _
  | reloadRead => exact freed.reloadRead _
  | scanRead => exact freed.scanRead _
  | statusClear taken => exact holdsInv_keeps.completeWith _ _ (by simp [taken.cmdStage]) h
  | view => exact h.runView _ _
  | viewPush => exact h.runView _ _
  | viewPop => exact h.runPop
  | viewHeader => exact freed.viewHeaderRead _
  | popHeader => exact freed.popHeaderRead _
  | record => exact h.runRecord _
  | mark => exact h.runMark _
  | copyAnswer => exact freed.copyAnswer _
  | commit => exact freed.commitAnswer _
  | storeClear => exact h.runClear
  | clearAnswer => exact freed.clearAnswer _
  | storeProtect => exact HoldsInv.complete (h.setStore _ (by rfl)) _
  | stepFwd | stepRev | skipFwd | skipRev => exact h.runTraversal _ _
  | rewind | toEnd => exact h.runReposition _ rfl
  | badMode => exact h.complete _
  | moveRead => exact freed.moveRead _
  | advanceRead => exact freed.advanceRead _
  | triggers =>
    unfold State.runTriggers
    dsimp only
    split
    · exact h.complete _
    · exact h.listFrom _ _ _
  | listRead =>
    unfold State.listRead
    repeat' split
    all_goals first | exact freed | exact freed.complete _ | exact freed.listFrom _ _ _
  | _ => cases special

/-- Settles O9: each change of a holder comes with the take or the release of its hold. -/
theorem holdsInvKept : Obligations.HoldsInvKept := by
  intro s t before h
  exact step_keeps (P := HoldsInv) (fun _ _ h => h) (fun _ _ h => h) (fun run h => h.of_runs run) before h

end Sys2Proof.Machine

/-! Predicates that are blind to what the store and the view hold. `Blind P` lists the elementary changes of every
block; a predicate that they keep is kept by every command outside `Instr.deep`. -/

namespace Sys2Proof.Machine

/-- A predicate that looks at the region of the store alone, and at no record, view context or engine. -/
structure Blind (P : State → Prop) : Prop where
  port : ∀ s m, P s → P (s.setPort m)
  txn : ∀ s x g a, P s → P (s.setBridge { s.bridge with txn := x, guard := g, answer := a })
  asm : ∀ s a, a.frame = s.asm.frame → P s → P (s.setAsm a)
  hist : ∀ s h, P s → P (s.setEnh { s.enh with hist := h })
  completes : ∀ s i, s.asm.slot = some i → P s → P (s.frameCompletes i)
  errors : ∀ s n, P s → P (s.setComp { s.comp with errors := n })
  timer : ∀ s t, t.triggers = s.timer.triggers → t.frameNumber = s.timer.frameNumber →
    t.localTime = s.timer.localTime → P s → P (s.setTimer t)
  fired : ∀ s n, P s → P (s.setTimer (s.timer.setFired n))
  unfired : ∀ s, P s → P s.restartTimer
  cu : ∀ s u, u.cmd = s.cu.cmd → u.reload = s.cu.reload → u.reloadResult = s.cu.reloadResult →
    u.msgAddr = s.cu.msgAddr → u.attn = s.cu.attn → P s → P (s.setCu u)
  cmd : ∀ s c, (c = none ∨ s.cu.cmd.isSome = true) →
    (∀ d, c = some d → ∀ a n g, d.stage ≠ .listRead a n g) → P s → P (s.setCu { s.cu with cmd := c })
  take : ∀ s, s.resetN = true → s.cu.cmd = none → s.cu.reloadResult ≠ .none → P s →
    P (s.setCu { s.cu with cmd := some { packet := none, stage := .fetch } })
  loaded : ∀ s, s.cu.reload = some .scan → P s →
    P (s.setCu { s.cu with reload := none, reloadResult := .loaded })
  store : ∀ s x, x.base = s.store.base → x.limit = s.store.limit → x.deferred = s.store.deferred → P s →
    P (s.setStore x)
  view : ∀ s v, P s → P (s.setView v)
  slots : ∀ s m, m.wc = s.slots.wc → m.hc = s.slots.hc → m.staged = s.slots.staged → P s → P (s.setSlots m)
  latch : ∀ s l f, l.set = latchSet s.comp.latch.set s.comp.staged f → P s →
    P (s.setComp { s.comp with latch := l })

namespace Blind

variable {P : State → Prop} (B : Blind P) {s : State}
include B

/-! ## Holds -/

theorem setRec (i : Fin 3) (r : SlotRec) (h : P s) : P (s.setRec i r) := B.slots s _ rfl rfl rfl h

theorem takeHold (i : Fin 3) (h : P s) : P (s.takeHold i) := B.setRec _ _ h

theorem releaseHold (i : Fin 3) (h : P s) : P (s.releaseHold i) := by
  unfold State.releaseHold
  dsimp only
  split <;> exact B.setRec _ _ h

theorem releaseOpt (o : Option (Fin 3)) (h : P s) : P (s.releaseOpt o) := by
  cases o with
  | none => exact h
  | some i => exact B.releaseHold i h

theorem markBroken (h : P s) : P s.markBroken := by
  unfold State.markBroken
  split
  · split
    · exact h
    · exact B.slots _ _ rfl rfl rfl (B.setRec _ _ h)
  · exact h

/-! ## Engines and line events -/

theorem copyFrom (c : CopyOp) (n : Nat) (h : P s) : P (s.copyFrom c n) := by
  have used : ∀ d : CopyOp, P (s.useCopy d) := fun d => B.store s _ rfl rfl rfl h
  unfold State.copyFrom
  dsimp only
  repeat' split
  all_goals exact B.port _ _ (used _)

theorem advanceAt (p : Nat) (b : Bool) (post : ∀ u n, P u → P (State.post u n)) (h : P s) : P (s.advanceAt p b) := by
  unfold State.advanceAt
  split
  · exact post _ _ (B.store s _ rfl rfl rfl h)
  · exact B.port _ _ (B.store s _ rfl rfl rfl h)

theorem post (n : Notice) (h : P s) : P (s.post n) := by
  have posted : P (s.setCu { s.cu with notices := s.cu.notices.add n }) := B.cu s _ rfl rfl rfl rfl rfl h
  unfold State.post State.deliver
  split
  · exact B.port _ _ (B.cu _ _ rfl rfl rfl rfl rfl posted)
  · exact posted

theorem lineEvent (n : Nat) (h : P s) : P (s.lineEvent n) :=
  State.lineEvent_keeps (P := P) (fun s n h => B.fired s n h) (fun s h => B.timer s _ rfl rfl rfl h)
    (fun _ n h => B.post n h) (fun _ _ _ _ _ _ h => B.copyFrom _ _ (B.takeHold _ h))
    (fun _ _ _ _ h => B.copyFrom _ _ h) (fun _ _ _ _ _ h => B.advanceAt _ _ (fun _ n h => B.post n h) h)
    (fun s _ h => B.view s _ h) n h

/-- The traffic keeps a blind predicate. -/
theorem keeps : Keeps P where
  port := B.port
  txn s x g a _ h := B.txn s x g a h
  asm := B.asm
  hist := B.hist
  completes := B.completes
  broken _ h := B.markBroken h
  event _ n _ h := B.lineEvent n h
  errors := B.errors
  timer := B.timer
  cu := B.cu
  cmd s c _ known plain h := B.cmd s c known (fun d hd a n g e => by simpa [e, CmdStage.plain] using plain d hd) h
  take := B.take

/-! ## Completion -/

theorem setCu (u : CommandUnit) (known : u.cmd = none ∨ s.cu.cmd.isSome = true)
    (plain : ∀ d, u.cmd = some d → ∀ a n g, d.stage ≠ .listRead a n g) (reload : u.reload = s.cu.reload)
    (result : u.reloadResult = s.cu.reloadResult) (addr : u.msgAddr = s.cu.msgAddr) (attn : u.attn = s.cu.attn) (h : P s) : P (s.setCu u) :=
  B.cu (s.setCu { s.cu with cmd := u.cmd }) u rfl reload result addr attn (B.cmd s u.cmd known plain h)


theorem setCmdStage (st : CmdStage) (other : ∀ a n g, st ≠ .listRead a n g) (h : P s) : P (s.setCmdStage st) := by
  unfold State.setCmdStage
  split
  · next c hc => exact B.cmd s _ (.inr (by simp [hc])) (by rintro d ⟨⟩; exact other) h
  · exact h

theorem completeWith (o : Result) (r : Bool) (h : P s) : P (s.completeWith o r) := by
  unfold State.completeWith
  split
  · exact h
  · exact B.keeps.presentCommand _ _ (B.setCmdStage _ (by simp) h)

theorem complete (o : Result) (h : P s) : P (s.complete o) := B.completeWith o false h

/-! ## The view -/

theorem giveUpCurrent (push : Bool) (h : P s) : P (s.giveUpCurrent push) := by
  unfold State.giveUpCurrent
  split
  · exact B.view _ _ h
  · exact B.releaseOpt _ h

theorem setCurrent (c : ViewContext) (h : P s) : P (s.setCurrent c) := B.view _ _ h

theorem idleTrav (h : P s) : P s.idleTrav := B.store s _ rfl rfl rfl h

theorem useTrav (op : TravOp) (h : P s) : P (s.useTrav op) := B.store s _ rfl rfl rfl h

theorem setPosition (p : Option Nat) (h : P s) : P (s.setPosition p) := B.store s _ rfl rfl rfl h

theorem changeView (q : ViewRequest) (push : Bool) (h : P s) : P (s.changeView q push) := by
  have given := B.giveUpCurrent push h
  unfold State.changeView
  dsimp only
  split
  · split
    · exact B.setCurrent _ (B.takeHold _ given)
    · exact B.setCurrent _ given
  · exact B.setCurrent _ given
  · exact B.setCurrent _ given

theorem runView (q : ViewRequest) (push : Bool) (h : P s) : P (s.runView q push) := by
  unfold State.runView
  split
  · exact B.complete _ h
  · split
    · exact B.port _ _ (B.setCmdStage _ (by simp) (B.useTrav _ h))
    · exact B.complete _ (B.changeView _ _ h)

theorem viewHeaderRead (a : Answer) (h : P s) : P (s.viewHeaderRead a) := by
  have idle := B.idleTrav h
  unfold State.viewHeaderRead
  split
  · dsimp only
    split
    · exact B.complete _ idle
    · split
      · exact B.complete _ (B.setPosition none idle)
      · split
        · exact B.complete _ (B.setCurrent _ (B.giveUpCurrent _ idle))
        · exact B.complete _ idle
  · exact h

theorem restoreEntry (e : StackEntry) (rest : List StackEntry) (h : P s) : P (s.restoreEntry e rest) :=
  B.complete _ (B.view _ _ (B.releaseOpt _ h))

theorem discardEntry (e : StackEntry) (rest : List StackEntry) (h : P s) : P (s.discardEntry e rest) :=
  B.complete _ (B.view _ _ (B.releaseOpt _ (B.releaseOpt _ h)))

theorem runPop (h : P s) : P s.runPop := by
  unfold State.runPop
  repeat' split
  all_goals first
    | exact B.complete _ h
    | exact B.restoreEntry _ _ h
    | exact B.discardEntry _ _ h
    | exact B.port _ _ (B.setCmdStage _ (by simp) (B.useTrav _ h))

theorem popHeaderRead (a : Answer) (h : P s) : P (s.popHeaderRead a) := by
  have idle := B.idleTrav h
  unfold State.popHeaderRead
  dsimp only
  repeat' split
  all_goals first
    | exact h
    | exact idle
    | exact B.complete _ idle
    | exact B.restoreEntry _ _ idle
    | exact B.discardEntry _ _ idle

/-! ## The store -/

theorem runRecord (p : Packet) (h : P s) : P (s.runRecord p) := by
  unfold State.runRecord
  split
  · exact B.complete _ h
  · exact B.copyFrom _ _ (B.takeHold _ (B.setCmdStage _ (by simp) h))

theorem runMark (p : Packet) (h : P s) : P (s.runMark p) := by
  unfold State.runMark
  split
  · exact B.complete _ h
  · exact B.copyFrom _ _ (B.setCmdStage _ (by simp) h)

theorem useCopy (c : CopyOp) (h : P s) : P (s.useCopy c) := B.store s _ rfl rfl rfl h

theorem endCopy (c : CopyOp) (h : P s) : P (s.endCopy c) := B.store _ _ rfl rfl rfl (B.releaseOpt _ h)

theorem copyFailed (c : CopyOp) (h : P s) : P (s.copyFailed c) := by
  unfold State.copyFailed
  split
  · exact B.post _ h
  · exact B.complete _ h

theorem copyAnswer (a : Answer) (h : P s) : P (s.copyAnswer a) := by
  unfold State.copyAnswer
  repeat' split
  all_goals first
    | exact h
    | exact B.copyFailed _ (B.endCopy _ h)
    | exact B.port _ _ (B.useCopy _ h)
    | exact B.copyFrom _ _ h

theorem commitAnswer (a : Answer) (h : P s) : P (s.commitAnswer a) := by
  unfold State.commitAnswer
  split
  · exact h
  · next c _ =>
    have ended := B.endCopy c h
    have failed := B.copyFailed c (B.setPosition none ended)
    have done : P ((s.endCopy c).setStore ((s.endCopy c).store.committed c)) := B.store _ _ rfl rfl rfl ended
    dsimp only
    repeat' split
    all_goals first
      | exact B.post _ failed
      | exact failed
      | exact B.post _ done
      | exact done
      | exact B.complete _ done

theorem runClear (h : P s) : P s.runClear := by
  unfold State.runClear
  repeat' split
  all_goals first
    | exact B.complete _ h
    | exact B.port _ _ (B.setCmdStage _ (by simp) (B.useCopy _ h))

theorem clearAnswer (a : Answer) (h : P s) : P (s.clearAnswer a) := by
  unfold State.clearAnswer
  split
  · exact h
  · next c _ =>
    have ended := B.endCopy c h
    split
    · dsimp only
      split
      · exact B.complete _ (B.store _ _ rfl rfl rfl ended)
      · exact B.complete _ (B.store _ _ rfl rfl rfl ended)
    · exact h

theorem moveStep (m : MoveMode) (l n : Nat) (h : P s) : P (s.moveStep m l n) := by
  unfold State.moveStep
  repeat' split
  all_goals first
    | exact B.complete _ (B.idleTrav h)
    | exact B.port _ _ (B.useTrav _ h)

theorem movePass (m : MoveMode) (l n d : Nat) (k : Kind) (h : P s) : P (s.movePass m l n d k) := by
  have moved := B.setPosition (some d) h
  unfold State.movePass
  dsimp only
  repeat' split
  all_goals first
    | exact B.complete _ (B.idleTrav moved)
    | exact B.moveStep _ _ _ moved

theorem moveLost (l n : Nat) (h : P s) : P (s.moveLost l n) := B.complete _ (B.idleTrav (B.setPosition none h))

theorem moveRead (a : Answer) (h : P s) : P (s.moveRead a) := by
  unfold State.moveRead
  dsimp only
  repeat' split
  all_goals first
    | exact h
    | exact B.complete _ (B.idleTrav h)
    | exact B.moveLost _ _ h
    | exact B.movePass _ _ _ _ _ h
    | exact B.port _ _ (B.useTrav _ h)

theorem runTraversal (m : MoveMode) (n : Nat) (h : P s) : P (s.runTraversal m n) := by
  unfold State.runTraversal
  repeat' split
  all_goals first
    | exact B.complete _ h
    | exact B.moveStep _ _ _ (B.setCmdStage _ (by simp) h)

theorem runReposition (x : Store) (base : x.base = s.store.base) (limit : x.limit = s.store.limit)
    (deferred : x.deferred = s.store.deferred) (h : P s) : P (s.runReposition x) := by
  unfold State.runReposition
  repeat' split
  all_goals first
    | exact B.complete _ h
    | exact B.complete _ (B.store s x base limit deferred h)

theorem advanceRead (a : Answer) (h : P s) : P (s.advanceRead a) := by
  have idle := B.idleTrav h
  have lost : P (s.setPosition none).idleTrav := B.idleTrav (B.setPosition none h)
  unfold State.advanceRead
  repeat' split
  all_goals first
    | exact h
    | exact idle
    | exact B.timer _ _ rfl rfl rfl idle
    | exact B.post _ lost
    | exact B.post _ idle
    | exact B.advanceAt _ _ (fun _ n h => B.post n h) (B.setPosition _ h)
    | exact B.setCurrent _ (B.releaseOpt _ idle)

theorem endScan (h : P s) : P s.endScan := by
  have idle := B.idleTrav h
  unfold State.endScan
  dsimp only
  split
  · next reload => exact B.loaded _ reload idle
  · repeat' split
    all_goals first
      | exact B.complete _ idle
      | exact idle

theorem scanRead (a : Answer) (h : P s) : P (s.scanRead a) := by
  unfold State.scanRead
  repeat' split
  all_goals first
    | exact h
    | exact B.endScan h
    | exact B.endScan (B.store s _ rfl rfl rfl h)
    | exact B.port _ _ (B.useTrav _ h)

/-! ## Packets, STATUS, the latch and RESTART -/

theorem packetAnswer (a : Answer) (h : P s) : P (s.packetAnswer a) := by
  unfold State.packetAnswer
  split
  · next c hc =>
    split
    · split
      · exact B.complete _ h
      · have judged : P (s.setCu { s.cu with
            cmd := some { packet := some (Packet.ofWords a.words), stage := .dispatched } }) :=
          B.cmd s _ (.inr (by simp [hc])) (by rintro d ⟨⟩; simp) h
        unfold State.judgePacket
        dsimp only
        repeat' split
        all_goals first
          | exact B.complete _ judged
          | exact judged
    · exact h
  · exact h

theorem clearCounters (h : P s) : P s.clearCounters := by
  have slots : P (s.setSlots { s.slots with started := 0, completed := 0, abandoned := 0, dropped := 0, broken := 0 }) :=
    B.slots s _ rfl rfl rfl h
  exact B.errors _ 0 (B.txn _ _ _ _ (B.timer _ _ rfl rfl rfl slots))

theorem takeLatch (f : Bool) (h : P s) : P (s.takeLatch f) := by
  have released := B.releaseOpt s.comp.latch.held h
  have set : ∀ u : State, P u → u.comp = s.comp → ∀ l : ViewLatch,
      l.set = latchSet s.comp.latch.set s.comp.staged f → P (u.setLatch l) := by
    intro u hu comp l same
    exact B.latch u l f (by rw [comp]; exact same) hu
  have slot : ∀ (c : ViewContext) (i : Fin 3), P ((s.releaseOpt s.comp.latch.held).latchSlot
      (latchSet s.comp.latch.set s.comp.staged f) c i) :=
    fun c i => set _ (B.takeHold i released) (by simp) _ rfl
  unfold State.takeLatch
  dsimp only
  repeat' split
  all_goals first
    | exact slot _ _
    | exact set _ released (by simp) _ rfl

theorem displayPiece (x : Txn) (p : Piece) (h : P s) : P (s.displayPiece x p) := by
  unfold State.displayPiece
  refine B.port _ _ (B.txn _ _ _ _ ?_)
  split
  · exact B.takeLatch _ h
  · exact h

theorem restart (attn : AttnFree P) (h : P s) : P s.restart := by
  have store : P s.restartStore := by
    unfold State.restartStore
    refine B.store _ _ ?_ ?_ ?_ (B.port _ _ (B.releaseOpt _ h)) <;>
      (dsimp only; split <;> rfl)
  have stack : ∀ (es : List StackEntry) (u : State), P u → P (es.foldl (fun t e => t.releaseOpt e.held) u) := by
    intro es
    induction es with
    | nil => exact fun _ hu => hu
    | cons e es ih => exact fun u hu => ih _ (B.releaseOpt _ hu)
  have view : P s.restartStore.restartView := B.view _ _ (B.releaseOpt _ (stack _ _ store))
  have port : ∀ m, P (s.restartStore.restartView.restartTimer.setPort m) := fun m => B.port _ m (B.unfired _ view)
  unfold State.restart
  generalize s.restartStore.restartView.restartTimer = u at port
  have lowered := attn _ false (port (u.port.withdraw Purpose.commandAborted))
  exact B.setCu (s := (u.setPort (u.port.withdraw Purpose.commandAborted)).setCu { u.cu with attn := false })
    u.restartCommand.cu (.inl rfl) (fun d hd => by cases hd) rfl rfl rfl rfl lowered

end Blind
end Sys2Proof.Machine

namespace Sys2Proof.Machine

/-- The commands that change a region, the reload, the frame in progress or the trigger list. -/
def Instr.deep : Instr → Bool
  | .resetNFall | .resetNRise _ | .localTimeAdvance | .deferredMountScan | .captureLumaPiece
  | .setupBlockReadAnswer _ | .reloadReadAnswer _ | .triggers | .triggerListReadAnswer _ => true
  | _ => false

/-- A blind predicate is kept by every command that is not deep and leaves ATTN. -/
theorem Runs.blind_attn {P : State → Prop} (B : Blind P) {c : Instr} {s t : State} (run : Runs c s t)
    (other : Instr.deep c = true ∨ Instr.attends c = true → P t) (before : P s) : P t := by
  have freed : P s.portFreed := B.port _ _ before
  refine run.keeps_attn B.keeps (fun special => ?_) before
  cases run with
  | display => exact B.displayPiece _ _ before
  | packetAnswer => exact B.packetAnswer _ freed
  | scanRead => exact B.scanRead _ freed
  | statusClear => exact B.clearCounters (B.completeWith _ _ before)
  | view | viewPush => exact B.runView _ _ before
  | viewPop => exact B.runPop before
  | viewHeader => exact B.viewHeaderRead _ freed
  | popHeader => exact B.popHeaderRead _ freed
  | record => exact B.runRecord _ before
  | mark => exact B.runMark _ before
  | copyAnswer => exact B.copyAnswer _ freed
  | commit => exact B.commitAnswer _ freed
  | storeClear => exact B.runClear before
  | clearAnswer => exact B.clearAnswer _ freed
  | storeProtect => exact B.complete _ (B.store s _ rfl rfl rfl before)
  | stepFwd | stepRev | skipFwd | skipRev => exact B.runTraversal _ _ before
  | rewind | toEnd => exact B.runReposition _ rfl rfl rfl before
  | badMode => exact B.complete _ before
  | moveRead => exact B.moveRead _ freed
  | advanceRead => exact B.advanceRead _ freed
  | _ =>
    first
    | exact other (.inl rfl)
    | exact other (.inr rfl)
    | (rcases special with special | special <;> cases special)

/-- A blind predicate that does not see ATTN is kept by every command that is not deep. -/
theorem Runs.blind {P : State → Prop} (B : Blind P) (attn : AttnFree P) {c : Instr} {s t : State} (run : Runs c s t)
    (other : Instr.deep c = true → P t) (before : P s) : P t := by
  refine run.blind_attn B (fun seen => seen.elim other fun attends => ?_) before
  cases run with
  | statusWord front => exact B.keeps.statusPiece attn _ _ front.untreated before
  | messageAnswer => exact B.keeps.messageAnswer attn (B.port _ _ before)
  | noticeAnswer => exact B.keeps.noticeAnswer attn (B.port _ _ before)
  | restart => exact B.keeps.endReport _ _ _ (B.restart attn before)
  | restartClosed => exact B.keeps.endReport _ _ _ (B.keeps.setControl _ _ before)
  | badMode _ sel => rcases sel with rfl | rfl | rfl | rfl | rfl | rfl <;> cases attends
  | _ => cases attends

end Sys2Proof.Machine

/-! The clocks and the queue: the local time (R137), the frame number (R136), and the queue of waiting commands.
`Ticks` holds all three; what changes one of them is a reset, a microsecond or the start of a frame. -/

namespace Sys2Proof.Machine

/-- The queue, the local time and the frame number. -/
def Ticks (q : List Instr) (l n : Word) (s : State) : Prop :=
  s.pending = q ∧ s.timer.localTime = l ∧ s.timer.frameNumber = n

theorem ticks_self (s : State) : Ticks s.pending s.timer.localTime s.timer.frameNumber s := ⟨rfl, rfl, rfl⟩

theorem Ticks.of_same {q : List Instr} {l n : Word} {s t : State} (h : Ticks q l n s) (pending : t.pending = s.pending)
    (timer : t.timer.localTime = s.timer.localTime ∧ t.timer.frameNumber = s.timer.frameNumber) : Ticks q l n t :=
  ⟨pending.trans h.1, timer.1.trans h.2.1, timer.2.trans h.2.2⟩

theorem ticks_blind (q : List Instr) (l n : Word) : Blind (Ticks q l n) where
  port _ _ h := h
  txn _ _ _ _ h := h
  asm _ _ _ h := h
  hist _ _ h := h
  completes _ _ _ h := h.of_same (by simp) (by simp)
  errors _ _ h := h
  timer _ _ _ number time h := h.of_same rfl ⟨time, number⟩
  fired _ _ h := h
  unfired _ h := h
  cu _ _ _ _ _ _ _ h := h
  cmd _ _ _ _ h := h
  take _ _ _ _ h := h
  loaded _ _ h := h
  store _ _ _ _ _ h := h
  view _ _ h := h
  slots _ _ _ _ _ h := h
  latch _ _ _ _ h := h

/-! ## The start of a frame -/

@[simp] theorem State.timerFrameStart_timer (s : State) : s.timerFrameStart.timer = s.timer.startFrame := by
  simp only [State.timerFrameStart]
  split <;> simp

@[simp] theorem State.frameStart_timer (s : State) : s.frameStart.timer = s.timer.startFrame := by
  simp [State.frameStart]

theorem Ticks.frameStart {q : List Instr} {l n : Word} {s : State} (h : Ticks q l n s) :
    Ticks q l (n + 1) s.frameStart := by
  obtain ⟨pending, time, number⟩ := h
  exact ⟨by simp [pending], by simp [Timer.startFrame, time], by simp [Timer.startFrame, number]⟩

/-- The aperture begins at or below each of its luma words (R2, R5). -/
theorem State.areaOf_apertureLuma {s : State} {addr : Nat} (h : s.areaOf addr = .apertureLuma) :
    s.bridge.run = .run ∧ s.bridge.regions.apertureBase ≤ addr
      ∧ addr < s.bridge.regions.apertureBase + s.slots.wc * s.slots.hc := by
  unfold State.areaOf at h
  cases run : s.bridge.run <;> simp only [run] at h <;> repeat' split at h
  all_goals first
    | (cases h; done)
    | skip
  next inside luma =>
    simp only [Span.has, Bool.and_eq_true, decide_eq_true_eq] at inside
    exact ⟨rfl, inside.1, luma⟩

theorem State.faces.treatment {s : State} {x : Txn} {p : Piece} {tr : Treatment} (h : s.faces x p tr) :
    s.treatment x p = tr := by
  obtain ⟨-, front⟩ := h
  unfold State.front at front
  split at front
  · split at front
    · simp only [Option.some.injEq, Prod.mk.injEq] at front
      obtain ⟨rfl, rfl, rfl⟩ := front
      rfl
    · cases front
  · cases front

theorem State.treatment_captureLuma {s : State} {x : Txn} {p : Piece} (h : s.treatment x p = .captureLuma) :
    s.areaOf (wordAddr x.burst p.first) = .apertureLuma ∧ isWrite x.burst = true ∧ x.cls = .capture := by
  unfold State.treatment at h
  dsimp only at h
  repeat' split at h
  all_goals first
    | (cases h; done)
    | exact ⟨by assumption, by assumption, by assumption⟩

/-- A luma piece starts a frame exactly when its first word is the first of the aperture (R22). -/
theorem State.faces.startsFrame {s : State} {x : Txn} {p : Piece} (h : s.faces x p .captureLuma) :
    s.startsFrame .captureLumaPiece = true ↔ s.apertureOffset x p = 0 := by
  have base := (State.areaOf_apertureLuma (State.treatment_captureLuma h.treatment).1).2.1
  simp only [State.startsFrame, h.1, h.2, State.apertureOffset, beq_self_eq_true, Bool.and_self, Bool.true_and,
    beq_iff_eq]
  omega

theorem State.startsFrame_faces {s : State} {c : Instr} (h : s.startsFrame c = true) :
    c = .captureLumaPiece ∧ ∃ x p, s.faces x p .captureLuma := by
  simp only [State.startsFrame, Bool.and_eq_true, beq_iff_eq] at h
  obtain ⟨⟨rfl, up⟩, starts⟩ := h
  split at starts
  · next x p front => exact ⟨rfl, x, p, up, front⟩
  · cases starts

/-! ## The deep commands -/

theorem Ticks.setupScans {q : List Instr} {l n : Word} {s : State} (h : Ticks q l n s) : Ticks q l n s.setupScans := by
  unfold State.setupScans
  repeat' split
  all_goals first | exact (ticks_blind q l n).setCmdStage _ (by simp) h | exact h

theorem Ticks.applyRun {q : List Instr} {l n : Word} {s : State} (h : Ticks q l n s) (b : SetupBlock) :
    Ticks q l n (s.applyRun b) := by
  have B := ticks_blind q l n
  have taken : Ticks q l n (s.takeRun b) := h
  have stored : ∀ x, Ticks q l n ((s.takeRun b).setStore x) := fun _ => taken
  have staged := B.setCmdStage .setupScan (by simp) taken
  unfold State.applyRun
  dsimp only
  repeat' split
  all_goals first
    | exact B.complete _ h
    | exact B.complete _ (stored _)
    | exact staged
    | exact B.setCmdStage _ (by simp) (stored _)

theorem Ticks.setupRead {q : List Instr} {l n : Word} {s : State} (h : Ticks q l n s) (a : Answer) :
    Ticks q l n (s.setupRead a) := by
  have B := ticks_blind q l n
  have staged := B.setCmdStage .setupScan (by simp) h
  unfold State.setupRead State.judgeSetup
  repeat' split
  all_goals first
    | exact h
    | exact B.complete _ h
    | exact B.keeps.presentCommand _ _ (B.setCmdStage _ (by simp) h)
    | exact staged
    | exact h.applyRun _

theorem Ticks.reloadRead {q : List Instr} {l n : Word} {s : State} (h : Ticks q l n s) (a : Answer) :
    Ticks q l n (s.reloadRead a) := by
  unfold State.reloadRead
  dsimp only
  repeat' split
  all_goals exact h

theorem Ticks.listFrom {q : List Instr} {l n : Word} {s : State} (h : Ticks q l n s) (addr total : Nat)
    (got : List Word) : Ticks q l n (s.listFrom addr total got) := by
  have loaded : ∀ ts, Ticks q l n (s.setTimer { s.timer with triggers := ts }) := fun _ => h
  have read : Ticks q l n (s.setCmdStage (.listRead addr total got)) :=
    h.of_same (by simp) (by simp)
  have B := ticks_blind q l n
  unfold State.listFrom State.loadList
  dsimp only
  repeat' split
  all_goals first
    | exact B.complete _ h
    | exact B.complete _ (loaded _)
    | exact B.keeps.presentCommand _ _ read

/-- The frame number after a command that runs: one more at the start of a frame. -/
theorem Ticks.of_runs {c : Instr} {s t : State} (run : Runs c s t) (time : c ≠ .localTimeAdvance)
    (reset : c ≠ .resetNFall) {q : List Instr} {l n : Word} (h : Ticks q l n s) :
    Ticks q l (if s.startsFrame c then n + 1 else n) t := by
  have B := ticks_blind q l n
  have other : c ≠ .captureLumaPiece → s.startsFrame c = false := by
    intro luma
    rw [← Bool.not_eq_true]
    exact fun starts => luma (State.startsFrame_faces (by simpa using starts)).1
  by_cases luma : c = .captureLumaPiece
  · subst luma
    cases run with
    | @luma _ x p front =>
      have started := front.startsFrame
      have on := front.run (.inl rfl)
      by_cases first : s.apertureOffset x p = 0
      · rw [if_pos (started.mpr first)]
        unfold State.lumaPiece
        dsimp only
        rw [if_pos (show (s.setTxn (some x)).apertureOffset x p = 0 from first)]
        exact (ticks_blind q l (n + 1)).keeps.judgeLuma _ _ (.inl (by simpa [State.setTxn] using on))
          (Ticks.frameStart (s := s.setTxn _) h)
      · rw [if_neg (mt started.mp first)]
        unfold State.lumaPiece
        dsimp only
        rw [if_neg (show ¬ (s.setTxn (some x)).apertureOffset x p = 0 from first)]
        exact B.keeps.judgeLuma _ _ (.inl (by simpa [State.setTxn] using on)) h
    | badMode _ sel => simp at sel
  · rw [other luma, if_neg (by simp)]
    refine run.blind B (fun _ _ h => h) (fun deep => ?_) h
    cases run with
    | resetNFall => exact absurd rfl reset
    | localTime => exact absurd rfl time
    | luma => exact absurd rfl luma
    | resetNRise => exact h
    | deferredScan => exact h.setupScans
    | setupRead => exact Ticks.setupRead (s := s.portFreed) h _
    | reloadRead => exact Ticks.reloadRead (s := s.portFreed) h _
    | triggers =>
      unfold State.runTriggers
      dsimp only
      split
      · exact B.complete _ h
      · exact h.listFrom _ _ _
    | listRead =>
      have freed : Ticks q l n s.portFreed := h
      unfold State.listRead
      repeat' split
      all_goals first | exact freed | exact B.complete _ freed | exact freed.listFrom _ _ _
    | badMode _ sel => rcases sel with rfl | rfl | rfl | rfl | rfl | rfl <;> cases deep
    | _ => cases deep

theorem Ticks.of_exec {c : Instr} {s t : State} (h : exec c s = .next t) (time : c ≠ .localTimeAdvance)
    (reset : c ≠ .resetNFall) :
    Ticks s.pending s.timer.localTime
      (if s.startsFrame c then s.timer.frameNumber + 1 else s.timer.frameNumber) t := by
  rcases exec_cases h with same | freed | run
  · by_cases starts : s.startsFrame c = true
    · obtain ⟨rfl, x, p, front⟩ := State.startsFrame_faces starts
      have run := Runs.luma front
      rw [run.exec_eq] at h
      cases h
      exact Ticks.of_runs run time reset (ticks_self s)
    · rw [if_neg starts, same]
      exact ticks_self s
  · by_cases starts : s.startsFrame c = true
    · obtain ⟨rfl, x, p, front⟩ := State.startsFrame_faces starts
      have run := Runs.luma front
      rw [run.exec_eq] at h
      cases h
      exact Ticks.of_runs run time reset (ticks_self s)
    · rw [if_neg starts, freed]
      exact ticks_self s
  · exact Ticks.of_runs run time reset (ticks_self s)

/-- Settles O7. -/
theorem localTimeRuns : Obligations.LocalTimeRuns := by
  refine ⟨fun s high => (Runs.localTime high).exec_eq, fun t full => ?_, rfl, fun c s t h time reset => ?_⟩
  · rw [BitVec.toNat_add, full]
    rfl
  · exact (Ticks.of_exec h time reset).2.1

/-- Settles O8: the one command that changes the frame number treats the first luma word of the aperture. -/
theorem frameNumberSteps : Obligations.FrameNumberSteps := by
  refine ⟨fun s => by rw [State.frameStart_timer]; rfl, by decide, fun c s t h reset => ?_⟩
  by_cases time : c = .localTimeAdvance
  · subst time
    have none_starts : s.startsFrame .localTimeAdvance = false := rfl
    rw [none_starts, if_neg (by simp)]
    simp only [exec, execLocalTimeAdvance] at h
    split at h <;> cases h <;> rfl
  · exact (Ticks.of_exec h time reset).2.2

/-! ## Steps and completion -/

/-- Settles O1. -/
theorem stepRunsFrontCommand : Obligations.StepRunsFrontCommand := by
  intro s
  constructor
  · intro c rest waits
    simp only [step, waits]
  · intro empty
    simp only [step, empty]

theorem State.whenAwake_next (s n : State) : ∃ t, s.whenAwake n = .next t := by
  unfold State.whenAwake
  split <;> exact ⟨_, rfl⟩

theorem State.onCommand_next (s : State) (n : Nat) (k : Packet → State) : ∃ t, s.onCommand n k = .next t := by
  unfold State.onCommand
  repeat' split
  all_goals exact ⟨_, rfl⟩

theorem State.onMove_next (s : State) (m : MoveMode) (k : Nat → State) : ∃ t, s.onMove m k = .next t := by
  unfold State.onMove
  repeat' split
  all_goals exact ⟨_, rfl⟩

theorem State.onFront_next (s : State) (sel : Treatment → Bool) (k : Txn → Piece → State) :
    ∃ t, s.onFront sel k = .next t := by
  unfold State.onFront
  repeat' split
  all_goals exact ⟨_, rfl⟩

theorem State.onReport_next (s : State) (sel : Report → Bool) (eff : Report → State → State) :
    ∃ t, s.onReport sel eff = .next t := by
  unfold State.onReport
  dsimp only
  repeat' split
  all_goals exact ⟨_, rfl⟩

theorem State.onAnswer_next (s : State) (sel : Purpose → Bool) (a : Answer) (k : State → State) :
    ∃ t, s.onAnswer sel a (fun _ s' => k s') = .next t := by
  unfold State.onAnswer
  repeat' split
  all_goals exact ⟨_, rfl⟩

/-- Every command of the port's form answers a next state: each passes one of the gates, and none refuses. -/
theorem exec_next (c : Instr) (s : State) (wf : c.wf = true) : ∃ t, exec c s = .next t := by
  cases c with
  | resetNFall | resetNRise _ | localTimeAdvance =>
    simp only [exec, execResetNFall, execResetNRise, execLocalTimeAdvance]
    split <;> exact ⟨_, rfl⟩
  | deferredMountScan =>
    simp only [exec, execDeferredMountScan]
    repeat' split
    all_goals exact ⟨_, rfl⟩
  | transactionAccept b =>
    simp only [exec, execTransactionAccept]
    rw [if_pos (show b.wf = true from wf)]
    exact State.whenAwake_next _ _
  | heldPieceResume | memoryPortGrant | emission | watchExpiry => exact State.whenAwake_next _ _
  | passThroughPiece | statusWord | captureLumaPiece | captureChromaPiece | apertureReadPiece | displayReadPiece =>
    exact State.onFront_next _ _ _
  | controlPageWrite => exact State.onReport_next s (· == .plain) fun _ s => s.setControl s.cu.opened false
  | openControl | closeControl | restart | commandPointer =>
    simp only [exec, execOpenControl, execCloseControl, execRestart, execCommandPointer]
    exact State.onReport_next _ _ _
  | setup | status | statusClear | view | viewPush | viewPop | record | mark | storeClear | storeProtect | triggers =>
    exact State.onCommand_next _ _ _
  | stepFwd | stepRev | skipFwd | skipRev => exact State.onMove_next _ _ _
  | rewind | toEnd =>
    simp only [exec, execRewind, execToEnd]
    exact State.onMove_next _ _ _
  | reloadReadAnswer a | passThroughAnswer a | composerFetchAnswer a | lineWriteAnswer a | packetFetch a
  | setupBlockReadAnswer a | mountScanReadAnswer a | viewPageHeaderRead a | viewPopHeaderRead a
  | copyTransactionAnswer a | commit a | storeClearWriteAnswer a | traversalReadAnswer a | advanceReadAnswer a
  | triggerListReadAnswer a | messageWriteAnswer a | noticeWriteAnswer a => exact State.onAnswer_next _ _ _ _

theorem exec_pending {c : Instr} {s t : State} (h : exec c s = .next t) : t.pending = s.pending := by
  by_cases reset : c = .resetNFall
  · subst reset
    simp only [exec, execResetNFall] at h
    split at h <;> cases h <;> rfl
  · by_cases time : c = .localTimeAdvance
    · subst time
      simp only [exec, execLocalTimeAdvance] at h
      split at h <;> cases h <;> rfl
    · exact (Ticks.of_exec h time reset).1

/-- Settles O2. -/
theorem everyCommandCompletes : Obligations.EveryCommandCompletes := by
  refine ⟨fun c s wf => ?_, fun b s bad => ?_⟩
  · obtain ⟨t, h⟩ := exec_next c s wf
    exact ⟨t, h, exec_pending h⟩
  · simp [exec, execTransactionAccept, bad]

/-! ## Reset -/

/-- Settles O3. -/
theorem resetFallGivesResetValues : Obligations.ResetFallGivesResetValues := by
  intro s high
  refine ⟨_, (Runs.resetNFall high).exec_eq, ?_⟩
  have classes : ∀ i : Fin 8, State.reset.bridge.classes[i] = if i = 0 then .control else .plain := by decide
  have ring : ∀ i : Fin 4, State.reset.asm.ring[i] = .free := by decide
  have hist : ∀ i : Fin 64, State.reset.enh.hist[i] = 0 := by decide
  have waiting : ∀ q, State.reset.port.waiting q = none := fun q => by cases q <;> rfl
  have recs : ∀ i, State.reset.slotRec i =
      { state := .empty, gen := 0, frame := 0, wc := 0, hc := 0, broken := false, hold := 0 } := by decide
  refine ⟨rfl, rfl, rfl, rfl, rfl, classes, waiting, rfl, rfl, rfl, rfl, rfl, rfl, rfl, rfl, rfl, rfl, rfl, ring,
    recs, rfl, rfl, rfl, rfl, rfl, rfl, rfl, rfl, hist, ?_⟩
  repeat' constructor

/-- Until the rise of RESET_N no command but it runs (log entry 1). -/
theorem exec_of_low {c : Instr} {s : State} (low : s.resetN = false) (rise : ∀ straps, c ≠ .resetNRise straps)
    (wf : c.wf = true) : exec c s = .next s := by
  obtain ⟨t, h⟩ := exec_next c s wf
  have asleep : s.awake = false := by simp [State.awake, low]
  have gates : ∀ (n : State), s.whenAwake n = .next s := fun n => by simp [State.whenAwake, asleep]
  have command : ∀ n k, s.onCommand n k = .next s := fun n k => by simp [State.onCommand, asleep]
  have move : ∀ m k, s.onMove m k = .next s := fun m k => by simp [State.onMove, asleep]
  have front : ∀ sel k, s.onFront sel k = .next s := fun sel k => by simp [State.onFront, asleep]
  have report : ∀ sel eff, s.onReport sel eff = .next s := fun sel eff => by simp [State.onReport, asleep]
  have answer : ∀ sel a (k : State → State), s.onAnswer sel a (fun _ s' => k s') = .next s :=
    fun sel a k => by simp [State.onAnswer, asleep]
  cases c with
  | resetNRise straps => exact absurd rfl (rise straps)
  | resetNFall => simp [exec, execResetNFall, low]
  | localTimeAdvance => simp [exec, execLocalTimeAdvance, low]
  | deferredMountScan => simp [exec, execDeferredMountScan, low]
  | transactionAccept b =>
    simp only [exec, execTransactionAccept]
    rw [if_pos (show b.wf = true from wf)]
    exact gates _
  | heldPieceResume | memoryPortGrant | emission | watchExpiry => exact gates _
  | passThroughPiece | statusWord | captureLumaPiece | captureChromaPiece | apertureReadPiece | displayReadPiece =>
    exact front _ _
  | controlPageWrite | openControl | closeControl | restart | commandPointer =>
    simp only [exec, execControlPageWrite, execOpenControl, execCloseControl, execRestart, execCommandPointer]
    exact report _ _
  | setup | status | statusClear | view | viewPush | viewPop | record | mark | storeClear | storeProtect | triggers =>
    exact command _ _
  | stepFwd | stepRev | skipFwd | skipRev => exact move _ _
  | rewind | toEnd =>
    simp only [exec, execRewind, execToEnd]
    exact move _ _
  | reloadReadAnswer a | passThroughAnswer a | composerFetchAnswer a | lineWriteAnswer a | packetFetch a
  | setupBlockReadAnswer a | mountScanReadAnswer a | viewPageHeaderRead a | viewPopHeaderRead a
  | copyTransactionAnswer a | commit a | storeClearWriteAnswer a | traversalReadAnswer a | advanceReadAnswer a
  | triggerListReadAnswer a | messageWriteAnswer a | noticeWriteAnswer a => exact answer _ _ _

/-- Settles O4. -/
theorem resetRiseStartsReload : Obligations.ResetRiseStartsReload := by
  refine ⟨fun s straps low => ?_, fun s c low rise wf => exec_of_low low rise wf⟩
  refine ⟨_, (Runs.resetNRise low).exec_eq, rfl, rfl, ?_, ?_, ?_, ?_, rfl, rfl, ?_⟩
  iterate 4
    rintro rfl
    exact ⟨rfl, rfl⟩
  intro b outside
  cases b with
  | resetN | bridge | port | cu => simp at outside
  | _ => rfl

end Sys2Proof.Machine

/-! The setup state (R1, R30, R153, R160): SetupInv at every step. -/

namespace Sys2Proof.Machine

/-! ## What a posting leaves of the Command Unit -/

/-- A posting changes the notices, the owner and the NOTICE write. -/
theorem State.post_cu (s : State) (n : Notice) :
    (s.post n).cu = { s.cu with
      notices := (s.post n).cu.notices, owner := (s.post n).cu.owner, notice := (s.post n).cu.notice } := by
  unfold State.post State.deliver
  split <;> rfl

@[simp] theorem State.post_cmd (s : State) (n : Notice) : (s.post n).cu.cmd = s.cu.cmd := by rw [State.post_cu]

@[simp] theorem State.post_reload (s : State) (n : Notice) : (s.post n).cu.reload = s.cu.reload := by
  rw [State.post_cu]

@[simp] theorem State.post_reloadResult (s : State) (n : Notice) :
    (s.post n).cu.reloadResult = s.cu.reloadResult := by rw [State.post_cu]

@[simp] theorem State.post_msgAddr (s : State) (n : Notice) : (s.post n).cu.msgAddr = s.cu.msgAddr := by
  rw [State.post_cu]

/-- What a frame start leaves of the Command Unit. -/
structure SameUnit (u v : CommandUnit) : Prop where
  cmd : v.cmd = u.cmd
  reload : v.reload = u.reload
  result : v.reloadResult = u.reloadResult
  addr : v.msgAddr = u.msgAddr

theorem SameUnit.post (s : State) (n : Notice) : SameUnit s.cu (s.post n).cu :=
  ⟨by simp, by simp, by simp, by simp⟩

theorem SameUnit.trans {u v w : CommandUnit} (h : SameUnit u v) (k : SameUnit v w) : SameUnit u w :=
  ⟨k.cmd.trans h.cmd, k.reload.trans h.reload, k.result.trans h.result, k.addr.trans h.addr⟩

theorem SameUnit.refl (u : CommandUnit) : SameUnit u u := ⟨rfl, rfl, rfl, rfl⟩

theorem State.newGeometry_cu {s u : State} (same : u.cu = s.cu) : SameUnit s.cu u.newGeometry.cu := by
  rw [← same]
  unfold State.newGeometry
  dsimp only
  split
  · refine ⟨?_, ?_, ?_, ?_⟩ <;> simp
  · exact .refl _

theorem State.applyPending_cu (s : State) : SameUnit s.cu s.applyPending.cu := by
  unfold State.applyPending
  repeat' split
  · unfold State.applyStaged
    dsimp only
    split
    · exact .refl _
    · exact State.newGeometry_cu rfl
  · exact .refl _
  · exact .refl _

theorem State.timerFrameStart_cu (s : State) : SameUnit s.cu s.timerFrameStart.cu := by
  unfold State.timerFrameStart
  dsimp only
  split
  · exact .refl _
  · exact .post (s.setTimer s.timer.startFrame) _

theorem State.frameStart_cu (s : State) : SameUnit s.cu s.frameStart.cu := by
  have e : s.frameStart.cu = s.endFrame.applyPending.timerFrameStart.cu := by simp [State.frameStart]
  have ended : SameUnit s.cu s.endFrame.cu := by rw [State.endFrame_cu]; exact .refl _
  rw [e]
  exact ended.trans ((State.applyPending_cu _).trans (State.timerFrameStart_cu _))

/-! ## The pending set at the start of a frame -/

@[simp] theorem State.endFrame_staged (s : State) : s.endFrame.slots.staged = s.slots.staged := by
  unfold State.endFrame
  dsimp only
  repeat' split
  all_goals rfl

/-- A frame start leaves the pending set or puts it in force (R31). -/
theorem State.applyPending_staged (s : State) :
    s.applyPending.slots.staged = none ∨ s.applyPending.slots.staged = s.slots.staged := by
  unfold State.applyPending
  repeat' split
  · left
    unfold State.applyStaged
    dsimp only
    split
    · rfl
    · rw [State.newGeometry_slots]; rfl
  · exact .inr rfl
  · exact .inr rfl

@[simp] theorem State.fillSlot_staged (s : State) (c : Option (Fin 3)) :
    (s.fillSlot c).slots.staged = s.slots.staged := by
  cases c <;> rfl

theorem State.frameStart_staged (s : State) :
    s.frameStart.slots.staged = none ∨ s.frameStart.slots.staged = s.slots.staged := by
  have e : s.frameStart.slots.staged = s.endFrame.applyPending.slots.staged := by simp [State.frameStart]
  rw [e]
  have := s.endFrame.applyPending_staged
  rwa [State.endFrame_staged] at this

/-! ## SetupInv -/

/-- What SetupInv depends on. -/
theorem SetupInv.of_same {s t : State} (h : SetupInv s) (level : t.resetN = s.resetN)
    (run : t.bridge.run = s.bridge.run) (staged : t.slots.staged = none ∨ t.slots.staged = s.slots.staged)
    (cmd : s.cu.cmd = none → t.cu.cmd = none) (reload : t.cu.reload = s.cu.reload)
    (result : t.cu.reloadResult = s.cu.reloadResult) : SetupInv t := by
  obtain ⟨low, idle, reads, bypass⟩ := h
  refine ⟨fun l => ?_, fun r => ?_, fun r => ?_, fun b => ?_⟩
  · rw [level] at l
    exact ⟨run.trans (low l).1, cmd (low l).2⟩
  · rw [reload] at r
    exact ⟨result.trans (idle r).1, cmd (idle r).2⟩
  · have same : t.reloadReads = s.reloadReads := by simp only [State.reloadReads, reload]
    exact run.trans (reads (same ▸ r))
  · rcases staged with e | e
    · exact e
    · exact e.trans (bypass (run ▸ b))

/-- A command in progress leaves no reload (R153). -/
theorem SetupInv.reload_of_cmd {s : State} (h : SetupInv s) (busy : s.cu.cmd.isSome = true) : s.cu.reload = none := by
  refine Classical.byContradiction fun running => ?_
  rw [(h.2.1 running).2] at busy
  cases busy

theorem SetupInv.resetN_of_cmd {s : State} (h : SetupInv s) (busy : s.cu.cmd.isSome = true) : s.resetN = true := by
  refine Classical.byContradiction fun low => ?_
  rw [(h.1 (by simpa using low)).2] at busy
  cases busy

theorem setupInv_blind : Blind SetupInv where
  port _ _ h := h
  txn _ _ _ _ h := h
  asm _ _ _ h := h
  hist _ _ h := h
  completes s i _ h := h.of_same (by simp) (by simp) (.inr (by simp [State.frameCompletes_slots,
    SlotManager.completeFrame])) (by simp) (by simp) (by simp)
  errors _ _ h := h
  timer _ _ _ _ _ h := h
  fired _ _ h := h
  unfired _ h := h
  cu s u cmd reload result _ _ h := h.of_same rfl rfl (.inr rfl) (fun n => cmd.trans n) reload result
  cmd s c known _ h := by
    refine h.of_same rfl rfl (.inr rfl) (fun free => ?_) rfl rfl
    rcases known with rfl | busy
    · rfl
    · simp [free] at busy
  take s high free result h := by
    obtain ⟨low, idle, reads, bypass⟩ := h
    have still : s.cu.reload = none := by
      refine Classical.byContradiction fun running => ?_
      exact result (idle running).1
    exact ⟨fun l => by simp [high] at l, fun running => absurd still running, reads, bypass⟩
  loaded s _ h := by
    obtain ⟨low, idle, reads, bypass⟩ := h
    exact ⟨low, fun running => absurd rfl running, fun r => by simp [State.reloadReads] at r, bypass⟩
  store _ _ _ _ _ h := h
  view _ _ h := h
  slots s m _ _ staged h := h.of_same rfl rfl (.inr staged) id rfl rfl
  latch _ _ _ _ h := h

theorem SetupInv.frameStart {s : State} (h : SetupInv s) : SetupInv s.frameStart :=
  h.of_same (by simp) (by simp) s.frameStart_staged (fun free => s.frameStart_cu.cmd.trans free)
    s.frameStart_cu.reload s.frameStart_cu.result

theorem SetupInv.setCmdStage {s : State} (h : SetupInv s) (st : CmdStage) : SetupInv (s.setCmdStage st) := by
  refine h.of_same (by simp) (by simp) (.inr (by simp)) (fun free => by simp [free]) ?_ ?_ <;>
    (unfold State.setCmdStage; split <;> rfl)

theorem SetupInv.setupScans {s : State} (h : SetupInv s) : SetupInv s.setupScans := by
  unfold State.setupScans
  repeat' split
  all_goals first | exact h.setCmdStage _ | exact h

/-- The part enters RUN, where its reload, if any, has read its block. -/
theorem SetupInv.applyBypass {s : State} (h : SetupInv s) (read : s.reloadReads = false) (high : s.resetN = true)
    (b : SetupBlock) : SetupInv (s.applyBypass b) := by
  obtain ⟨low, idle, reads, bypass⟩ := h
  refine ⟨fun l => ?_, idle, fun r => ?_, fun bp => ?_⟩
  · rw [show (s.applyBypass b).resetN = s.resetN from rfl, high] at l
    cases l
  · rw [show (s.applyBypass b).reloadReads = s.reloadReads from rfl, read] at r
    cases r
  · cases bp

theorem SetupInv.applyRun {s : State} (h : SetupInv s) (run : s.bridge.run = .run) (b : SetupBlock) :
    SetupInv (s.applyRun b) := by
  have B := setupInv_blind
  have taken : ∀ x, SetupInv ((s.takeRun b).setStore x) := by
    intro x
    obtain ⟨low, idle, reads, bypass⟩ := h
    exact ⟨low, idle, reads, fun bp => by
      rw [show ((s.takeRun b).setStore x).bridge.run = s.bridge.run from rfl, run] at bp
      cases bp⟩
  have begun : SetupInv (s.takeRun b) := taken s.store
  unfold State.applyRun
  dsimp only
  repeat' split
  all_goals first
    | exact B.complete _ h
    | exact B.complete _ (taken _)
    | exact begun.setCmdStage _
    | exact SetupInv.setCmdStage (taken _) _

theorem SetupInv.setupRead {s : State} (h : SetupInv s) (a : Answer) : SetupInv (s.setupRead a) := by
  have B := setupInv_blind
  unfold State.setupRead
  split
  · next c busy =>
    have taken : s.cu.cmd.isSome = true := by simp [busy]
    split
    · split
      · exact B.complete _ h
      · split
        · exact B.keeps.presentCommand _ _ (h.setCmdStage _)
        · unfold State.judgeSetup
          split
          · exact B.complete _ h
          · split
            · refine (h.setCmdStage _).applyBypass ?_ (by simpa using h.resetN_of_cmd taken) _
              simp [State.reloadReads, State.setCmdStage, busy, h.reload_of_cmd taken]
            · next run => exact h.applyRun run _
    · exact h
  · exact h

theorem SetupInv.reloadRead {s : State} (h : SetupInv s) (high : s.resetN = true) (a : Answer) :
    SetupInv (s.reloadRead a) := by
  have ended : ∀ r, SetupInv (s.setCu { s.cu with reload := none, reloadResult := r }) := fun r =>
    ⟨h.1, fun running => absurd rfl running, fun r => by simp [State.reloadReads] at r, h.2.2.2⟩
  have again : s.reloadReads = true → ∀ addr got from_, SetupInv (s.reloadBlock addr got from_) :=
    fun reading addr got from_ => by
      have running : s.cu.reload ≠ none := by
        intro e
        simp [State.reloadReads, e] at reading
      exact ⟨h.1, fun _ => h.2.1 running, fun _ => h.2.2.1 reading, h.2.2.2⟩
  unfold State.reloadRead
  split
  · next stage =>
    have reading : s.reloadReads = true := by simp [State.reloadReads, stage]
    dsimp only
    repeat' split
    all_goals first | exact ended _ | exact again reading _ _ _
  · next stage =>
    have reading : s.reloadReads = true := by simp [State.reloadReads, stage]
    have running : s.cu.reload ≠ none := by simp [stage]
    have scanning : SetupInv (s.setCu { s.cu with reload := some .scan }) :=
      ⟨h.1, fun _ => h.2.1 running, fun r => by simp [State.reloadReads] at r, h.2.2.2⟩
    dsimp only
    repeat' split
    all_goals first
      | exact ended _
      | exact again reading _ _ _
      | exact scanning.applyBypass rfl high _
  · exact h

theorem SetupInv.listFrom {s : State} (h : SetupInv s) (addr total : Nat) (got : List Word) :
    SetupInv (s.listFrom addr total got) := by
  have B := setupInv_blind
  have loaded : ∀ ts, SetupInv (s.setTimer { s.timer with triggers := ts }) := fun _ => h
  unfold State.listFrom State.loadList
  dsimp only
  repeat' split
  all_goals first
    | exact B.complete _ h
    | exact B.complete _ (loaded _)
    | exact B.keeps.presentCommand _ _ (h.setCmdStage _)

theorem setupInv_reset : SetupInv State.reset :=
  ⟨fun _ => ⟨rfl, rfl⟩, fun running => absurd rfl running, fun _ => rfl, fun _ => rfl⟩

theorem SetupInv.of_runs {c : Instr} {s t : State} (run : Runs c s t) (h : SetupInv s) : SetupInv t := by
  have B := setupInv_blind
  have freed : SetupInv s.portFreed := h
  refine run.blind B (fun _ _ h => h) (fun deep => ?_) h
  cases run with
  | resetNFall => exact setupInv_reset
  | resetNRise low =>
    obtain ⟨bypass, free⟩ := h.1 low
    exact ⟨fun l => absurd l Bool.noConfusion, fun _ => ⟨rfl, free⟩, fun _ => bypass, h.2.2.2⟩
  | localTime => exact h
  | deferredScan => exact h.setupScans
  | luma front => exact B.keeps.lumaPiece _ _ (front.run (.inl rfl)) (fun _ _ h => h.frameStart) h
  | setupRead => exact freed.setupRead _
  | reloadRead got => exact freed.reloadRead (State.resetN_of_awake got.1) _
  | triggers =>
    unfold State.runTriggers
    dsimp only
    split
    · exact B.complete _ h
    · exact h.listFrom _ _ _
  | listRead =>
    unfold State.listRead
    repeat' split
    all_goals first | exact freed | exact B.complete _ freed | exact freed.listFrom _ _ _
  | badMode _ sel => rcases sel with rfl | rfl | rfl | rfl | rfl | rfl <;> cases deep
  | _ => cases deep

/-- Settles O60. -/
theorem setupInvKept : Obligations.SetupInvKept := by
  intro s t before h
  exact step_keeps (P := SetupInv) (fun _ _ h => h) (fun _ _ h => h) (fun run h => h.of_runs run) before h

/-- An invariant that leans on the setup state is kept by every step where every effect keeps it. -/
theorem step_keeps_of_setup {P : State → Prop} (port : ∀ s m, P s → P (s.setPort m))
    (queue : ∀ s q, P s → P (s.setPending q)) (runs : ∀ {c s t}, Runs c s t → SetupInv s → P s → P t) {s t : State}
    (setup : SetupInv s) (before : P s) (h : step s = .next t) : P t :=
  (step_keeps (P := fun u => SetupInv u ∧ P u) (fun s m h => ⟨h.1, port s m h.2⟩)
    (fun s q h => ⟨h.1, queue s q h.2⟩) (fun run h => ⟨h.1.of_runs run, runs run h.1 h.2⟩) ⟨setup, before⟩ h).2

end Sys2Proof.Machine

/-! The setup block and the lists that the deep commands take, for predicates that look neither at the command in
progress nor at the reload (`Aside`); the enhancement parameters (R53 to R55) and the trigger list (R142, R143). -/

namespace Sys2Proof.Machine

/-! ## Valid blocks -/

/-- The block meets the requirement of each of its fields (R155). -/
def SetupBlock.Valid (page : Span) (b : SetupBlock) : Prop := ∀ m ∈ List.range' 1 28, b.Required page m

theorem validateSetup_valid {straps : BitVec 2} {ws : List Word} (h : validateSetup (ctrlSpan straps) ws = none) :
    (SetupBlock.ofWords ws).Valid (ctrlSpan straps) :=
  ((validateSetup_eq_none_iff (Nat.zero_lt_succ _)).mp h).2

/-! ## Predicates that stand aside of the Command Unit -/

/-- A blind predicate that sees of the Command Unit the message buffer alone, and no trigger list. -/
structure Aside (P : State → Prop) : Prop extends Blind P where
  unit : ∀ s u, u.msgAddr = s.cu.msgAddr → P s → P (s.setCu u)
  list : ∀ s ts, P s → P (s.setTimer { s.timer with triggers := ts })

theorem State.startScan_setCmdStage (s : State) (st : CmdStage) (c : RegionChange) :
    (s.setCmdStage st).startScan c = (s.startScan c).setCmdStage st := by
  unfold State.setCmdStage
  rw [State.startScan_cu]
  cases s.cu.cmd <;> rfl

/-- What the block of a SETUP in RUN is once nothing refuses it (R158). -/
structure State.Takes (s : State) (b : SetupBlock) : Prop where
  run : s.bridge.run = .run
  valid : b.Valid (ctrlSpan s.bridge.straps)
  locked : s.lockedField b = none
  clear : s.clashField b = none

namespace Aside

variable {P : State → Prop} (A : Aside P) {s : State}
include A

theorem stage (st : CmdStage) (h : P s) : P (s.setCmdStage st) := by
  unfold State.setCmdStage
  split
  · exact A.unit _ _ rfl h
  · exact h

theorem setupScans (h : P s) : P s.setupScans := by
  unfold State.setupScans
  repeat' split
  all_goals first | exact A.stage _ h | exact h

theorem applyRun (b : SetupBlock) (margin : s.Takes b → s.storeChanged b = false →
      P ((s.takeRun b).setStore ((s.takeRun b).store.takeMargin b.margin)))
    (scans : s.Takes b → s.storeChanged b = true → P ((s.takeRun b).startScan b.regionChange))
    (waits : s.Takes b → s.storeChanged b = true →
      P ((s.takeRun b).setStore { (s.takeRun b).store with deferred := some b.regionChange }))
    (run : s.bridge.run = .run) (valid : b.Valid (ctrlSpan s.bridge.straps)) (h : P s) : P (s.applyRun b) := by
  unfold State.applyRun
  split
  · exact A.complete _ h
  · next locked =>
    split
    · exact A.complete _ h
    · next clear =>
      have takes : s.Takes b := ⟨run, valid, locked, clear⟩
      split
      · exact A.complete _ h
      · dsimp only
        split
        · next same => exact A.complete _ (margin takes (by simpa using same))
        · next changed =>
          simp only [Bool.not_eq_true', Bool.not_eq_false] at changed
          split
          · rw [State.startScan_setCmdStage]
            exact A.stage _ (scans takes changed)
          · exact A.stage _ (waits takes changed)

/-- The answer to a setup block read, where the predicate is kept by a valid block in either run state. -/
theorem setupRead (a : Answer)
    (bypass : ∀ u b, u.slots = s.slots → u.bridge = s.bridge → u.bridge.run = .bypass → b.Valid (ctrlSpan u.bridge.straps) → P u → P (u.applyBypass b))
    (run : ∀ u b, u.bridge.run = .run → b.Valid (ctrlSpan u.bridge.straps) → P u → P (u.applyRun b)) (h : P s) :
    P (s.setupRead a) := by
  unfold State.setupRead
  split
  · split
    · split
      · exact A.complete _ h
      · split
        · exact A.keeps.presentCommand _ _ (A.stage _ h)
        · unfold State.judgeSetup
          split
          · exact A.complete _ h
          · next valid =>
            split
            · next hr => exact bypass _ _ (by simp) (by simp) (by simpa using hr) (by simpa using validateSetup_valid valid) (A.stage _ h)
            · next hr => exact run _ _ hr (validateSetup_valid valid) h
    · exact h
  · exact h

/-- The answer to a read of the reload, which stands in BYPASS. -/
theorem reloadRead (a : Answer) (reads : s.reloadReads = true → s.bridge.run = .bypass)
    (bypass : ∀ u b, u.slots = s.slots → u.bridge = s.bridge → u.bridge.run = .bypass → b.Valid (ctrlSpan u.bridge.straps) → P u → P (u.applyBypass b))
    (h : P s) : P (s.reloadRead a) := by
  have ended : P s.reloadInvalid := A.unit _ _ rfl h
  have again : ∀ addr got from_, P (s.reloadBlock addr got from_) := fun _ _ _ => A.port _ _ (A.unit s _ rfl h)
  unfold State.reloadRead
  split
  · dsimp only
    repeat' split
    all_goals first | exact ended | exact again _ _ _
  · next stage =>
    have reading : s.bridge.run = .bypass := reads (by simp [State.reloadReads, stage])
    dsimp only
    repeat' split
    all_goals first
      | exact ended
      | exact again _ _ _
      | exact bypass _ _ rfl rfl reading (validateSetup_valid (by assumption)) (A.unit _ _ rfl h)
  · exact h

theorem listFrom (addr total : Nat) (got : List Word) (h : P s) : P (s.listFrom addr total got) := by
  unfold State.listFrom State.loadList
  dsimp only
  repeat' split
  all_goals first
    | exact A.complete _ h
    | exact A.complete _ (A.list _ _ h)
    | exact A.keeps.presentCommand _ _ (A.stage _ h)

theorem runTriggers (p : Packet) (h : P s) : P (s.runTriggers p) := by
  unfold State.runTriggers
  dsimp only
  split
  · exact A.complete _ h
  · exact A.listFrom _ _ _ h

theorem listRead (a : Answer) (h : P s) : P (s.listRead a) := by
  unfold State.listRead
  repeat' split
  all_goals first | exact h | exact A.complete _ h | exact A.listFrom _ _ _ h

end Aside

/-- The commands of setup, of the frame start and of reset. -/
def Instr.setsUp : Instr → Bool
  | .resetNFall | .resetNRise _ | .localTimeAdvance | .deferredMountScan | .captureLumaPiece
  | .setupBlockReadAnswer _ | .reloadReadAnswer _ => true
  | _ => false

/-- A predicate that stands aside is kept by every command but those of setup, frame start and reset. -/
theorem Runs.aside {P : State → Prop} (A : Aside P) {c : Instr} {s t : State} (run : Runs c s t)
    (other : Instr.setsUp c = true → P t) (before : P s) : P t := by
  refine run.blind A.toBlind (fun _ _ h => A.unit _ _ rfl h) (fun deep => ?_) before
  cases run with
  | triggers => exact A.runTriggers _ before
  | listRead => exact A.listRead _ (A.port _ _ before)
  | badMode _ sel => rcases sel with rfl | rfl | rfl | rfl | rfl | rfl <;> cases deep
  | _ =>
    first
    | exact other rfl
    | cases deep

/-! ## The enhancement parameters (R53 to R55) -/

/-- What EnhanceInv depends on. -/
theorem EnhanceInv.of_same {s t : State} (h : EnhanceInv s) (force : t.enh.force = s.enh.force)
    (latch : t.enh.latch = s.enh.latch) (staged : t.slots.staged = s.slots.staged)
    (frame : t.asm.frame = s.asm.frame) (run : t.bridge.run = s.bridge.run) : EnhanceInv t := by
  unfold EnhanceInv
  rw [force, latch, staged, frame, run]
  exact h

theorem putInForce_inBounds {g : StagedCapture} (h : g.inBounds) :
    (putInForce g.t g.g g.b g.wp g.auto g.a).inBounds := by
  obtain ⟨t, g, b, room, wp, least, most⟩ := h
  exact ⟨t, g, b, room, wp, rfl, least, most⟩

/-- The tracker leaves the bounds: it clamps the new white point (R62). -/
theorem track_inBounds {e : Enhancer} {wc hc : Nat} (force : e.force.inBounds) (latch : e.latch.inBounds)
    (same : e.force.b = e.latch.b) : (e.track wc hc).force.inBounds := by
  obtain ⟨t, g, b, room, wp, -, least, most⟩ := force
  have clamp := trackedWp_eq_clamp (b := e.latch.b) (by obtain ⟨-, -, -, _, _, -⟩ := latch; omega) e.latch.wp
    (whiteBin e.hist (wc * hc * e.latch.a / 256))
  refine ⟨t, g, b, ?_, ?_, ?_, least, most⟩
  · simp only [Enhancer.track, same]
    omega
  · simp only [Enhancer.track]
    omega
  · simp only [Enhancer.track, same]

theorem State.endFrame_frame (s : State) : s.endFrame.asm.frame = none := by
  unfold State.endFrame
  dsimp only
  repeat' split
  all_goals rfl

theorem Params.inBounds.completes {s : State} (h : EnhanceInv s) (i : Fin 3) (slot : s.asm.slot = some i) :
    EnhanceInv (s.frameCompletes i) := by
  obtain ⟨force, latch, staged, frame⟩ := h
  have present : s.asm.frame.isSome = true := by
    unfold Assembler.slot at slot
    split at slot
    · next f hf => simp [hf]
    · cases slot
  have same := (frame present).2
  refine ⟨?_, ?_, ?_, ?_⟩
  · unfold State.frameCompletes
    dsimp only
    split
    · exact track_inBounds (e := s.enh) force latch (by rw [same])
    · exact force
  · unfold State.frameCompletes
    dsimp only
    split <;> exact latch
  · rw [State.frameCompletes_slots]; exact staged
  · rw [State.frameCompletes_asm]
    exact fun b => absurd b (by simp)

theorem enhanceInv_aside : Aside EnhanceInv where
  port _ _ h := h
  txn _ _ _ _ h := h
  asm _ _ frame h := h.of_same rfl rfl rfl frame rfl
  hist _ _ h := h.of_same rfl rfl rfl rfl rfl
  completes _ i slot h := Params.inBounds.completes h i slot
  errors _ _ h := h
  timer _ _ _ _ _ h := h
  fired _ _ h := h
  unfired _ h := h
  cu _ _ _ _ _ _ _ h := h
  cmd _ _ _ _ h := h
  take _ _ _ _ h := h
  loaded _ _ h := h
  store _ _ _ _ _ h := h
  view _ _ h := h
  slots _ _ _ _ staged h := h.of_same rfl rfl staged rfl rfl
  latch _ _ _ _ h := h
  unit _ _ _ h := h
  list _ _ h := h

theorem State.newGeometry_staged (s : State) : s.newGeometry.slots.staged = s.slots.staged := by
  rw [State.newGeometry_slots]

/-- The set in force and the pending set once a pending set has been applied (R31, R54). -/
theorem State.applyPending_force (s : State) :
    (s.applyPending.enh = s.enh ∧ s.applyPending.slots.staged = s.slots.staged)
      ∨ ∃ g, s.slots.staged = some g
          ∧ s.applyPending.enh = { s.enh with force := putInForce g.t g.g g.b g.wp g.auto g.a }
          ∧ s.applyPending.slots.staged = none := by
  unfold State.applyPending
  split
  · next g waits =>
    split
    · refine .inr ⟨g, waits, ?_, ?_⟩ <;> unfold State.applyStaged <;> dsimp only <;> split
      · rfl
      · simp
      · rfl
      · rw [State.newGeometry_staged]; rfl
    · exact .inl ⟨rfl, rfl⟩
  · exact .inl ⟨rfl, rfl⟩

theorem State.frameStart_enh (s : State) : s.frameStart.enh = s.endFrame.applyPending.enh.latchFrame := by
  simp [State.frameStart]

theorem EnhanceInv.frameStart {s : State} (h : EnhanceInv s) (run : s.bridge.run = .run) :
    EnhanceInv s.frameStart := by
  obtain ⟨force, latch, staged, -⟩ := h
  have pending : s.frameStart.slots.staged = s.endFrame.applyPending.slots.staged := by simp [State.frameStart]
  have bounds : s.endFrame.applyPending.enh.force.inBounds
      ∧ ∀ g, s.endFrame.applyPending.slots.staged = some g → g.inBounds := by
    rcases s.endFrame.applyPending_force with ⟨same, kept⟩ | ⟨g, waits, put, none⟩
    · rw [same, kept, State.endFrame_enh, State.endFrame_staged]
      exact ⟨force, staged⟩
    · rw [put, none]
      rw [State.endFrame_staged] at waits
      exact ⟨putInForce_inBounds (staged g waits), by simp⟩
  refine ⟨?_, ?_, ?_, fun _ => ⟨by simpa using run, ?_⟩⟩
  · rw [State.frameStart_enh]; exact bounds.1
  · rw [State.frameStart_enh]; exact bounds.1
  · rw [pending]; exact bounds.2
  · rw [State.frameStart_enh]; rfl

theorem SetupBlock.Valid.enhancement {page : Span} {b : SetupBlock} (v : b.Valid page) :
    b.t ≤ 31 ∧ b.g ≤ 63 ∧ b.b ≤ 223 ∧ b.b + 32 ≤ b.wp ∧ b.wp ≤ 255 ∧ 1 ≤ b.a ∧ b.a ≤ 128 :=
  ⟨v 17 (by decide), v 18 (by decide), v 19 (by decide), (v 20 (by decide)).1, (v 20 (by decide)).2,
    (v 22 (by decide)).1, (v 22 (by decide)).2⟩

/-- In BYPASS no frame is in progress (R7). -/
theorem EnhanceInv.applyBypass {s : State} (h : EnhanceInv s) (bypass : s.bridge.run = .bypass) {b : SetupBlock}
    {page : Span} (valid : b.Valid page) : EnhanceInv (s.applyBypass b) := by
  obtain ⟨-, latch, staged, frame⟩ := h
  obtain ⟨t, g, bb, room, wp, least, most⟩ := valid.enhancement
  refine ⟨⟨t, g, bb, room, wp, rfl, least, most⟩, latch, staged, fun present => ?_⟩
  have := (frame present).1
  simp [bypass] at this

theorem EnhanceInv.takeRun {s : State} (h : EnhanceInv s) {b : SetupBlock} {page : Span} (valid : b.Valid page) :
    EnhanceInv (s.takeRun b) := by
  obtain ⟨force, latch, -, frame⟩ := h
  refine ⟨force, latch, ?_, frame⟩
  rintro g ⟨⟩
  exact valid.enhancement

theorem enhanceInv_reset : EnhanceInv State.reset := by
  refine ⟨?_, ?_, nofun, nofun⟩ <;> simp only [Params.inBounds] <;> decide

theorem EnhanceInv.of_runs {c : Instr} {s t : State} (run : Runs c s t) (setup : SetupInv s) (h : EnhanceInv s) :
    EnhanceInv t := by
  have A := enhanceInv_aside
  have bypass : ∀ (u : State) (b : SetupBlock), u.slots = s.slots → u.bridge = s.bridge → u.bridge.run = .bypass →
      b.Valid (ctrlSpan u.bridge.straps) → EnhanceInv u → EnhanceInv (u.applyBypass b) :=
    fun _ _ _ _ hb v hu => hu.applyBypass hb v
  refine run.aside A (fun deep => ?_) h
  cases run with
  | resetNFall =>
    exact enhanceInv_reset
  | resetNRise => exact h
  | localTime => exact h
  | deferredScan => exact A.setupScans h
  | luma front => exact A.keeps.lumaPiece _ _ (front.run (.inl rfl)) (fun _ hr h => h.frameStart hr) h
  | setupRead =>
    refine A.setupRead _ bypass (fun u b hr v hu => ?_) (A.port _ _ h)
    have taken := hu.takeRun v
    exact A.applyRun b (fun _ _ => taken) (fun _ _ => taken) (fun _ _ => taken) hr v hu
  | reloadRead => exact A.reloadRead _ setup.2.2.1 bypass (A.port _ _ h)
  | badMode _ sel => rcases sel with rfl | rfl | rfl | rfl | rfl | rfl <;> cases deep
  | _ => cases deep

/-! ## The trigger list (R142, R143) -/

/-- The part of TriggerInv about the list in force. -/
def ListGood (ts : List Trigger) : Prop :=
  ts.length ≤ 16 ∧ ts.Pairwise (fun x y => x.line < y.line) ∧ ∀ e ∈ ts, e.inRange

/-- A change of fired flags leaves lines and ranges. -/
theorem ListGood.map {ts : List Trigger} (h : ListGood ts) {f : Trigger → Trigger}
    (same : ∀ e, (f e).line = e.line ∧ (f e).k = e.k ∧ (f e).r = e.r) : ListGood (ts.map f) := by
  obtain ⟨few, ascending, ranges⟩ := h
  refine ⟨by simpa using few, ?_, ?_⟩
  · rw [List.pairwise_map]
    exact ascending.imp fun {x y} lt => by rw [(same x).1, (same y).1]; exact lt
  · intro e mem
    obtain ⟨d, before, rfl⟩ := List.mem_map.mp mem
    obtain ⟨line, k, r⟩ := same d
    unfold Trigger.inRange
    rw [line, k, r]
    exact ranges d before

theorem field_lt (w : Word) (lo width : Nat) : field w lo width < 2 ^ width := Nat.mod_lt _ (Nat.two_pow_pos _)

/-- What an entry that is good is (R142). -/
theorem checkEntry_good {hc : Nat} {before : Option Nat} {w0 w1 : Word} {e : Trigger}
    (h : checkEntry hc before w0 w1 = .good e) : e.inRange ∧ ∀ l, before = some l → l < e.line := by
  have narrow := field_lt w0 0 11
  unfold checkEntry at h
  dsimp only at h
  split at h
  · cases h
  split at h
  · cases h
  next k =>
  split at h
  · cases h
  next r =>
  split at h
  · cases h
  have range : ∀ a : Trigger, a.line = field w0 0 11 → a.k = field w0 12 3 → a.r = field w0 16 6 → a.inRange := by
    intro a line hk hr
    rw [Trigger.inRange, line, hk, hr]
    omega
  cases before with
  | none =>
    simp only [Bool.false_eq_true, if_false, EntryCheck.good.injEq] at h
    subst h
    exact ⟨range _ rfl rfl rfl, nofun⟩
  | some l =>
    simp only [decide_eq_true_eq] at h
    split at h
    · cases h
    · next order =>
      cases h
      exact ⟨range _ rfl rfl rfl, by rintro l ⟨⟩; exact Nat.lt_of_not_le order⟩

/-- What a list that is good is (R143). -/
theorem checkEntries_good {hc : Nat} {before : Option Nat} {index : Nat} {ws : List Word} {ts : List Trigger}
    (h : checkEntries hc before index ws = .good ts) :
    ts.length ≤ ws.length / 2 ∧ ts.Pairwise (fun x y => x.line < y.line) ∧ (∀ e ∈ ts, e.inRange)
      ∧ ∀ l, before = some l → ∀ e ∈ ts, l < e.line := by
  fun_induction checkEntries hc before index ws generalizing ts with
  | case1 => cases h
  | case2 => cases h
  | case3 before index w0 w1 rest t good us hrest ih =>
    cases h
    obtain ⟨few, ascending, ranges, above⟩ := ih hrest
    obtain ⟨range, order⟩ := checkEntry_good good
    refine ⟨?_, ?_, ?_, ?_⟩
    · simp only [List.length_cons]
      omega
    · exact List.pairwise_cons.mpr ⟨above _ rfl, ascending⟩
    · exact List.forall_mem_cons.mpr ⟨range, ranges⟩
    · intro l hl
      exact List.forall_mem_cons.mpr ⟨order l hl, fun e mem => Nat.lt_trans (order l hl) (above _ rfl e mem)⟩
  | case4 => cases h; simp

/-- The list is good, and no load is of more than 16 entries. -/
theorem triggerInv_iff (s : State) :
    TriggerInv s ↔ ListGood s.timer.triggers
      ∧ ∀ addr total got, s.cmdStage = some (.listRead addr total got) → total ≤ 32 := by
  unfold TriggerInv ListGood
  simp only [and_assoc]

theorem TriggerInv.of_same {s t : State} (h : TriggerInv s) (list : t.timer.triggers = s.timer.triggers)
    (cmd : t.cu.cmd = s.cu.cmd) : TriggerInv t := by
  unfold TriggerInv State.cmdStage
  rw [list, cmd]
  exact h

theorem TriggerInv.of_list {t : State} (list : ListGood t.timer.triggers)
    (stage : ∀ d, t.cu.cmd = some d → ∀ a n g, d.stage ≠ .listRead a n g) : TriggerInv t := by
  rw [triggerInv_iff]
  refine ⟨list, fun addr total got reads => ?_⟩
  obtain ⟨d, hd, e⟩ := Option.map_eq_some_iff.mp reads
  exact absurd e (stage d hd _ _ _)

theorem triggerInv_blind : Blind TriggerInv where
  port _ _ h := h
  txn _ _ _ _ h := h
  asm _ _ _ h := h
  hist _ _ h := h
  completes s i _ h := h.of_same (by simp) (by simp)
  errors _ _ h := h
  timer _ _ same _ _ h := h.of_same same rfl
  fired s n h := by
    rw [triggerInv_iff] at h ⊢
    refine ⟨h.1.map fun e => ?_, h.2⟩
    split <;> simp
  unfired s h := by
    rw [triggerInv_iff] at h ⊢
    exact ⟨h.1.map fun e => ⟨rfl, rfl, rfl⟩, h.2⟩
  cu _ _ cmd _ _ _ _ h := h.of_same rfl cmd
  cmd s c _ other h := .of_list ((triggerInv_iff s).mp h).1 other
  take s _ _ _ h := .of_list ((triggerInv_iff s).mp h).1 (by rintro d ⟨⟩; simp)
  loaded _ _ h := h
  store _ _ _ _ _ h := h
  view _ _ h := h
  slots _ _ _ _ _ h := h
  latch _ _ _ _ h := h

theorem TriggerInv.frameStart {s : State} (h : TriggerInv s) : TriggerInv s.frameStart := by
  rw [triggerInv_iff] at h ⊢
  have cmd : s.frameStart.cmdStage = s.cmdStage := by
    unfold State.cmdStage
    rw [s.frameStart_cu.cmd]
  rw [State.frameStart_timer, cmd]
  exact ⟨h.1.map fun e => ⟨rfl, rfl, rfl⟩, h.2⟩

theorem TriggerInv.setupScans {s : State} (h : TriggerInv s) : TriggerInv s.setupScans := by
  unfold State.setupScans
  repeat' split
  all_goals first | exact triggerInv_blind.setCmdStage _ (by simp) h | exact h

theorem TriggerInv.applyBypass {s : State} (h : TriggerInv s) (b : SetupBlock) : TriggerInv (s.applyBypass b) :=
  h.of_same rfl rfl

theorem TriggerInv.applyRun {s : State} (h : TriggerInv s) (b : SetupBlock) : TriggerInv (s.applyRun b) := by
  have B := triggerInv_blind
  have taken : TriggerInv (s.takeRun b) := h.of_same rfl rfl
  have stored : ∀ x, TriggerInv ((s.takeRun b).setStore x) := fun _ => h.of_same rfl rfl
  have scans : TriggerInv (((s.takeRun b).setCmdStage .setupScan).startScan b.regionChange) :=
    (B.setCmdStage .setupScan (by simp) taken).of_same (by simp) (by simp)
  unfold State.applyRun
  dsimp only
  repeat' split
  all_goals first
    | exact B.complete _ h
    | exact B.complete _ (stored _)
    | exact scans
    | exact B.setCmdStage .setupWait (by simp) (stored _)

theorem TriggerInv.setupRead {s : State} (h : TriggerInv s) (a : Answer) : TriggerInv (s.setupRead a) := by
  have B := triggerInv_blind
  have staged : ∀ addr got, TriggerInv (s.setCmdStage (.setupRead addr got)) :=
    fun _ _ => B.setCmdStage _ (by simp) h
  have scanning : TriggerInv (s.setCmdStage .setupScan) := B.setCmdStage _ (by simp) h
  unfold State.setupRead
  split
  · split
    · split
      · exact B.complete _ h
      · split
        · exact B.keeps.presentCommand _ _ (staged _ _)
        · unfold State.judgeSetup
          split
          · exact B.complete _ h
          · split
            · exact scanning.applyBypass _
            · exact h.applyRun _
    · exact h
  · exact h

theorem TriggerInv.reloadRead {s : State} (h : TriggerInv s) (a : Answer) : TriggerInv (s.reloadRead a) := by
  unfold State.reloadRead
  dsimp only
  repeat' split
  all_goals exact h

theorem TriggerInv.listFrom {s : State} (h : TriggerInv s) {addr total : Nat} {got : List Word} (few : total ≤ 32) :
    TriggerInv (s.listFrom addr total got) := by
  have B := triggerInv_blind
  unfold State.listFrom
  dsimp only
  split
  · unfold State.loadList
    split
    · next ts good =>
      obtain ⟨short, ascending, ranges, -⟩ := checkEntries_good good
      have taken : (got.take total).length ≤ total := List.length_take_le _ _
      refine B.complete _ ?_
      rw [triggerInv_iff] at h ⊢
      exact ⟨⟨show ts.length ≤ 16 by omega, ascending, ranges⟩, h.2⟩
    · exact B.complete _ h
  · split
    · exact B.complete _ h
    · refine B.keeps.presentCommand _ _ ?_
      rw [triggerInv_iff] at h ⊢
      refine ⟨by simpa using h.1, fun a n g reads => ?_⟩
      unfold State.cmdStage at reads
      rw [State.setCmdStage_cmd] at reads
      cases hc : s.cu.cmd <;> simp [hc] at reads
      omega

theorem triggerInv_reset : TriggerInv State.reset := ⟨by decide, .nil, nofun, nofun⟩

theorem TriggerInv.of_runs {c : Instr} {s t : State} (run : Runs c s t) (h : TriggerInv s) : TriggerInv t := by
  have B := triggerInv_blind
  have freed : TriggerInv s.portFreed := h
  refine run.blind B (fun _ _ h => h) (fun deep => ?_) h
  cases run with
  | resetNFall =>
    exact triggerInv_reset
  | resetNRise => exact h
  | localTime => exact h
  | deferredScan => exact h.setupScans
  | luma front => exact B.keeps.lumaPiece _ _ (front.run (.inl rfl)) (fun _ _ h => h.frameStart) h
  | setupRead => exact freed.setupRead _
  | reloadRead => exact freed.reloadRead _
  | triggers =>
    unfold State.runTriggers
    dsimp only
    split
    · exact B.complete _ h
    · exact h.listFrom (by omega)
  | listRead =>
    unfold State.listRead
    split
    · next c hc =>
      split
      · next addr total got stage =>
        split
        · exact B.complete _ freed
        · refine freed.listFrom (((triggerInv_iff s).mp h).2 addr total got ?_)
          rw [State.cmdStage, show s.cu.cmd = some c from hc, Option.map_some, stage]
      · exact freed
    · exact freed
  | badMode _ sel => rcases sel with rfl | rfl | rfl | rfl | rfl | rfl <;> cases deep
  | _ => cases deep

/-- Settles O11. -/
theorem enhanceAndTriggerInvKept : Obligations.EnhanceAndTriggerInvKept :=
  ⟨fun _ _ setup before h => step_keeps_of_setup (P := EnhanceInv) (fun _ _ h => h) (fun _ _ h => h)
    (fun run setup h => h.of_runs run setup) setup before h,
  fun _ _ before h => step_keeps (P := TriggerInv) (fun _ _ h => h) (fun _ _ h => h)
    (fun run h => h.of_runs run) before h⟩

/-! ## Right after reset -/

/-- Settles O15. -/
theorem invariantsAtReset : Obligations.InvariantsAtReset := by
  have engines : EngineInv State.reset :=
    ⟨.inl rfl, nofun, nofun, nofun, fun _ => ⟨rfl, rfl, rfl, fun n p taken => by cases taken⟩⟩
  refine ⟨setupInv_reset, holdsInv_reset, ⟨?_, nofun, nofun⟩, ⟨engines, by decide, nofun⟩, enhanceInv_reset,
    ⟨engines, nofun⟩, ⟨engines, ?_, nofun⟩, nofun, triggerInv_reset⟩
  · simp only [ViewContext.inRange]; decide
  · rintro p ⟨⟩; exact Nat.zero_le _

end Sys2Proof.Machine

/-! The region map (R2, R155, R158): the regions of a valid block lie apart from each other, and those of a block that
RUN takes lie apart from the ones in force beside them. -/

namespace Sys2Proof.Machine

/-! ## Regions apart from each other -/

theorem Span.apart_iff {x y : Span} : x.apart y ↔ y.base + y.size ≤ x.base ∨ x.base + x.size ≤ y.base := by
  simp only [Span.apart, Span.overlaps, Bool.and_eq_false_iff, decide_eq_false_iff_not, Nat.not_lt]

theorem Span.apart_comm {x y : Span} : x.apart y ↔ y.apart x := by
  rw [Span.apart_iff, Span.apart_iff, or_comm]

theorem Span.Disjoint.apart {x y : Span} (h : x.Disjoint y) (hx : 0 < x.size) (hy : 0 < y.size) : x.apart y :=
  (Span.overlaps_eq_false_iff hx hy).mpr h

/-- Fixed regions, apertures, view windows, store regions and message buffers within memory and apart. -/
def Laid (f a w t m : List Span) : Prop :=
  (∀ x ∈ f ++ a ++ w ++ t ++ m, x.proper) ∧ f.Pairwise Span.apart ∧ allApart f (a ++ w ++ t ++ m)
    ∧ allApart a (w ++ t ++ m) ∧ allApart w (t ++ m) ∧ allApart t m

theorem regionsInv_iff (s : State) :
    RegionsInv s ↔
      (s.bridge.run = .run → Laid s.fixedRegions s.apertures s.windows s.storeRegions [s.messageSpan]) := Iff.rfl

theorem allApart.mono {xs xs' ys ys' : List Span} (h : allApart xs ys) (hx : xs' ⊆ xs) (hy : ys' ⊆ ys) :
    allApart xs' ys' := fun x mx y my => h x (hx mx) y (hy my)

theorem subset_append {xs xs' ys ys' : List Span} (hx : xs' ⊆ xs) (hy : ys' ⊆ ys) : xs' ++ ys' ⊆ xs ++ ys :=
  List.append_subset.mpr ⟨List.subset_append_of_subset_left _ hx, List.subset_append_of_subset_right _ hy⟩

theorem Laid.mono {f a w t m a' w' t' : List Span} (h : Laid f a w t m) (ha : a' ⊆ a) (hw : w' ⊆ w) (ht : t' ⊆ t) :
    Laid f a' w' t' m := by
  obtain ⟨proper, fixed, fs, as, ws, ts⟩ := h
  have same : m ⊆ m := List.Subset.refl m
  have rest := subset_append (subset_append hw ht) same
  exact ⟨fun x mem => proper x (subset_append (subset_append (subset_append (subset_append (List.Subset.refl f) ha)
      hw) ht) same mem), fixed,
    fs.mono (List.Subset.refl f) (subset_append (subset_append (subset_append ha hw) ht) same),
    as.mono ha rest, ws.mono hw (subset_append ht same), ts.mono ht same⟩

/-- Two regions that keep their bases while both extents change lie apart, whichever extent each has. -/
theorem Span.apart_of_bases {a a' w w' : Span} (old : a.apart w) (new : a'.apart w') (aBase : a'.base = a.base)
    (wBase : w'.base = w.base) (ha : a.proper) (hw : w.proper) (ha' : a'.proper) (hw' : w'.proper) :
    a.apart w' ∧ a'.apart w := by
  simp only [Span.apart_iff, Span.proper] at *
  omega

/-- One region of each kind beside the one that follows it: an aperture and a view window keep their bases
(R158). -/
theorem Laid.beside {f : List Span} {a a' w w' t t' m m' : Span} (old : Laid f [a] [w] [t] [m])
    (new : Laid f [a'] [w'] [t'] [m']) (aBase : a'.base = a.base) (wBase : w'.base = w.base) (aperture_store : a'.apart t)
    (wt : w'.apart t) (ta : t'.apart a) (tw : t'.apart w) (ma : m'.apart a) (mw : m'.apart w) (mt : m'.apart t) :
    Laid f [a, a'] [w, w'] [t, t'] [m'] := by
  obtain ⟨proper, fixed, fs, as, ws, -⟩ := old
  obtain ⟨proper', -, fs', as', ws', ts'⟩ := new
  simp only [allApart, List.mem_append, List.mem_singleton, or_imp, forall_and, forall_eq] at proper fs as ws proper' fs' as' ws' ts'
  obtain ⟨⟨⟨⟨pf, pa⟩, pw⟩, pt⟩, -⟩ := proper
  obtain ⟨⟨⟨⟨-, pa'⟩, pw'⟩, pt'⟩, pm'⟩ := proper'
  obtain ⟨⟨⟨fa, fw⟩, ft⟩, -⟩ := fs
  obtain ⟨⟨⟨fa', fw'⟩, ft'⟩, fm'⟩ := fs'
  obtain ⟨⟨aw, at_old⟩, -⟩ := as
  obtain ⟨⟨aw', at'⟩, am'⟩ := as'
  obtain ⟨aw1, aw2⟩ := Span.apart_of_bases aw aw' aBase wBase pa pw pa' pw'
  have pair : ∀ (P : Span → Prop) (x y : Span), (∀ z ∈ [x, y], P z) ↔ P x ∧ P y := by simp
  simp only [Laid, allApart, List.mem_append, or_imp, forall_and, pair, List.mem_singleton, forall_eq]
  exact ⟨⟨⟨⟨⟨pf, pa, pa'⟩, pw, pw'⟩, pt, pt'⟩, pm'⟩, fixed, ⟨⟨⟨⟨fa, fa'⟩, fw, fw'⟩, ft, ft'⟩, fm'⟩,
    ⟨⟨⟨⟨aw, aw2⟩, aw1, aw'⟩, ⟨at_old, aperture_store⟩, Span.apart_comm.mp ta, at'⟩, Span.apart_comm.mp ma, am'⟩,
    ⟨⟨⟨ws.1, wt⟩, Span.apart_comm.mp tw, ws'.1⟩, Span.apart_comm.mp mw, ws'.2⟩, Span.apart_comm.mp mt, ts'⟩

/-- Regions that are apart two by two are laid apart. -/
theorem Laid.of_pairwise {f a w t m : List Span} (proper : ∀ x ∈ f ++ (a ++ (w ++ (t ++ m))), x.proper)
    (apart : (f ++ (a ++ (w ++ (t ++ m)))).Pairwise Span.apart) : Laid f a w t m := by
  simp only [List.pairwise_append] at apart
  obtain ⟨fixed, ⟨-, ⟨-, ⟨-, -, tm⟩, wr⟩, ar⟩, fr⟩ := apart
  simp only [Laid, allApart, List.append_assoc]
  exact ⟨proper, fixed, fr, ar, wr, tm⟩

/-! ## The regions of a valid block -/

theorem ctrlSpan_proper (straps : BitVec 2) : (ctrlSpan straps).proper := by
  simp only [Span.proper]
  revert straps
  decide

/-- The regions of a valid block lie within memory and apart from each other (R155). -/
theorem SetupBlock.Valid.laid {straps : BitVec 2} {b : SetupBlock} (v : b.Valid (ctrlSpan straps)) :
    Laid [ctrlSpan straps, b.slot 0, b.slot 1, b.slot 2] [b.aperture] [b.window] [b.store] [b.message] := by
  have page := ctrlSpan_proper straps
  have aperture := SetupBlock.aperture_size_pos (v 2 (by decide)) (v 3 (by decide))
  have slot := SetupBlock.slot_size_pos aperture (v 4 (by decide))
  have window := SetupBlock.window_size_pos (v 9 (by decide)) (v 10 (by decide))
  obtain ⟨limit, -, -, top, store⟩ := v 13 (by decide)
  have storePos := SetupBlock.store_size_pos limit
  obtain ⟨-, aTop, a⟩ := v 5 (by decide)
  obtain ⟨-, s0Top, s0⟩ := v 6 (by decide)
  obtain ⟨-, s1Top, s1⟩ := v 7 (by decide)
  obtain ⟨-, s2Top, s2⟩ := v 8 (by decide)
  obtain ⟨-, wTop, w⟩ := v 11 (by decide)
  obtain ⟨-, mTop, m⟩ := v 15 (by decide)
  have tTop : b.store.base + b.store.size ≤ memoryTop := by
    simp only [SetupBlock.store]
    omega
  have all : ∀ x ∈ [ctrlSpan straps, b.aperture, b.slot 0, b.slot 1, b.slot 2, b.window, b.store, b.message],
      x.proper := by
    simp only [List.forall_mem_cons, List.not_mem_nil, false_imp_iff, implies_true, and_true]
    exact ⟨page, ⟨aperture, aTop⟩, ⟨slot 0, s0Top⟩, ⟨slot 1, s1Top⟩, ⟨slot 2, s2Top⟩, ⟨window, wTop⟩,
      ⟨storePos, tTop⟩, ⟨Nat.zero_lt_succ _, mTop⟩⟩
  have apart : [ctrlSpan straps, b.aperture, b.slot 0, b.slot 1, b.slot 2, b.window, b.store, b.message].Pairwise
      Span.apart :=
    (pairwise_disjoint_iff_each_before.mpr ⟨a, s0, s1, s2, w, store, m⟩).imp_of_mem
      fun mx my disjoint => disjoint.apart (all _ mx).1 (all _ my).1
  have order : [ctrlSpan straps, b.aperture, b.slot 0, b.slot 1, b.slot 2, b.window, b.store, b.message].Perm
      ([ctrlSpan straps, b.slot 0, b.slot 1, b.slot 2] ++ ([b.aperture] ++ ([b.window] ++ ([b.store] ++ [b.message])))) :=
    ((List.perm_middle (l₁ := [b.slot 0, b.slot 1, b.slot 2])).symm).cons _
  exact .of_pairwise (fun x mem => all x (order.mem_iff.mpr mem))
    ((order.pairwise_iff fun h => Span.apart_comm.mp h).mp apart)

/-! ## The regions of a state -/

/-- What RegionsInv depends on; the regions of every kind may shrink to some of them. -/
theorem RegionsInv.of_subset {s t : State} (h : RegionsInv s) (run : t.bridge.run = .run → s.bridge.run = .run)
    (fixed : t.fixedRegions = s.fixedRegions) (apertures : t.apertures ⊆ s.apertures)
    (windows : t.windows ⊆ s.windows) (stores : t.storeRegions ⊆ s.storeRegions)
    (message : t.messageSpan = s.messageSpan) : RegionsInv t := by
  rw [regionsInv_iff] at h ⊢
  intro on
  rw [fixed, message]
  exact (h (run on)).mono apertures windows stores

theorem State.apertures_of_same {s t : State} (bridge : t.bridge.regions = s.bridge.regions)
    (wc : t.slots.wc = s.slots.wc) (hc : t.slots.hc = s.slots.hc) (staged : t.slots.staged = s.slots.staged) :
    t.apertures = s.apertures := by
  simp only [State.apertures, State.apertureSpan, bridge, wc, hc, staged]

theorem State.storeRegions_of_same {s t : State} (base : t.store.base = s.store.base)
    (limit : t.store.limit = s.store.limit) (deferred : t.store.deferred = s.store.deferred) :
    t.storeRegions = s.storeRegions := by
  simp only [State.storeRegions, State.storeSpan, base, limit, deferred]

theorem State.storeRegions_eq {s : State} : s.storeRegions = s.storeSpan ::
    s.store.deferred.toList.map fun d => { base := d.base, size := d.limit - d.base } := by
  unfold State.storeRegions
  cases s.store.deferred <;> rfl

/-- A latch takes the geometry in force or the staged one (R65, R67). -/
theorem latchSet_window (old staged : ViewSet) (f : Bool) :
    ((latchSet old staged f).wv = old.wv ∧ (latchSet old staged f).hv = old.hv)
      ∨ ((latchSet old staged f).wv = staged.wv ∧ (latchSet old staged f).hv = staged.hv) := by
  cases f
  · exact .inl ⟨rfl, rfl⟩
  · exact .inr ⟨rfl, rfl⟩

theorem regionsInv_aside : Aside RegionsInv where
  port _ _ h := h
  txn _ _ _ _ h := h
  asm _ _ _ h := h
  hist _ _ h := h
  completes s i _ h := h.of_subset (by simp) (by simp [State.fixedRegions, State.slotSpan, State.slotBase])
    (by rw [State.apertures_of_same (s := s)] <;> simp [State.frameCompletes_slots, SlotManager.completeFrame])
    (by simp [State.windows, State.windowSpan]) (by simp [State.storeRegions, State.storeSpan])
    (by simp [State.messageSpan])
  errors _ _ h := h
  timer _ _ _ _ _ h := h
  fired _ _ h := h
  unfired _ h := h
  cu _ _ _ _ _ addr _ h := h.of_subset id rfl (fun _ => id) (fun _ => id) (fun _ => id)
    (by simp [State.messageSpan, addr])
  cmd _ _ _ _ h := h
  take _ _ _ _ h := h
  loaded _ _ h := h
  store s x base limit deferred h := h.of_subset id rfl (fun _ => id) (fun _ => id)
    (by rw [State.storeRegions_of_same (s := s) (t := s.setStore x) base limit deferred]; exact fun _ => id) rfl
  view _ _ h := h
  slots s m wc hc staged h := h.of_subset id rfl
    (by rw [State.apertures_of_same (s := s) (t := s.setSlots m) rfl wc hc staged]; exact fun _ => id) (fun _ => id)
    (fun _ => id) rfl
  latch s l f set h := by
    refine h.of_subset id rfl (fun _ => id) (fun x mem => ?_) (fun _ => id) rfl
    have geometry := latchSet_window s.comp.latch.set s.comp.staged f
    simp only [State.windows, State.windowSpan, State.setComp_comp, State.setComp_bridge, set, List.mem_cons,
      List.not_mem_nil, or_false] at mem ⊢
    rcases geometry with ⟨wv, hv⟩ | ⟨wv, hv⟩ <;> rw [wv, hv] at mem
    · exact mem
    · exact .inr (mem.elim id id)
  unit _ _ addr h := h.of_subset id rfl (fun _ => id) (fun _ => id) (fun _ => id) (by simp [State.messageSpan, addr])
  list _ _ h := h

/-! ## Frame starts, scans and setup blocks -/

theorem State.endFrame_geometry (s : State) : s.endFrame.slots.wc = s.slots.wc ∧ s.endFrame.slots.hc = s.slots.hc := by
  unfold State.endFrame
  dsimp only
  repeat' split
  all_goals exact ⟨rfl, rfl⟩

/-- A frame start puts a pending geometry in force or leaves both (R31). -/
theorem State.applyPending_apertures (s : State) : s.applyPending.apertures ⊆ s.apertures := by
  unfold State.applyPending
  split
  · next g waits =>
    split
    · have put : (s.applyStaged g).apertures =
          [{ base := s.bridge.regions.apertureBase, size := 2 * g.wc * g.hc }] := by
        unfold State.applyStaged
        dsimp only
        split
        · rfl
        · simp [State.apertures, State.apertureSpan, State.newGeometry_slots]
      rw [put]
      simp [State.apertures, waits]
    · exact fun _ => id
  · exact fun _ => id

theorem State.applyPending_windows (s : State) : s.applyPending.windows = s.windows := by
  unfold State.applyPending
  repeat' split
  · unfold State.applyStaged
    dsimp only
    split
    · rfl
    · simp [State.windows, State.windowSpan, State.newGeometry_comp, ViewLatch.released]
  · rfl
  · rfl

theorem RegionsInv.frameStart {s : State} (h : RegionsInv s) : RegionsInv s.frameStart := by
  have geometry : s.endFrame.apertures = s.apertures :=
    State.apertures_of_same (by simp) s.endFrame_geometry.1 s.endFrame_geometry.2 (by simp)
  have applied : s.frameStart.apertures = s.endFrame.applyPending.apertures := by
    refine State.apertures_of_same ?_ ?_ ?_ ?_ <;>
      (simp only [State.frameStart]; cases State.chooseSlot _ <;> simp [State.fillSlot, State.setRec])
  refine h.of_subset (by simp) (by simp [State.fixedRegions, State.slotSpan, State.slotBase]) ?_ ?_ ?_ ?_
  · rw [applied, ← geometry]
    exact s.endFrame.applyPending_apertures
  · have same : s.frameStart.windows = s.endFrame.applyPending.windows := by
      simp [State.windows, State.windowSpan, State.frameStart]
    rw [same, State.applyPending_windows]
    simp [State.windows, State.windowSpan]
  · rw [State.storeRegions_of_same (s := s)] <;> simp
  · simp only [State.messageSpan, s.frameStart_cu.addr]

/-- A waiting region takes effect (R159). -/
theorem RegionsInv.startScan {s : State} (h : RegionsInv s) {c : RegionChange} (waits : s.store.deferred = some c) :
    RegionsInv (s.startScan c) := by
  refine h.of_subset id rfl (fun _ => id) (fun _ => id) (fun x mem => ?_) rfl
  have only : (s.startScan c).storeRegions = [{ base := c.base, size := c.limit - c.base }] := rfl
  rw [only] at mem
  simpa [State.storeRegions, waits] using .inr (List.mem_singleton.mp mem)

/-- The regions of a block applied in BYPASS are its own (R157). -/
theorem SetupBlock.Valid.applyBypass {s : State} {b : SetupBlock} (valid : b.Valid (ctrlSpan s.bridge.straps))
    (none : s.slots.staged = none) : RegionsInv (s.applyBypass b) := by
  rw [regionsInv_iff]
  intro _
  have apertures : (s.applyBypass b).apertures = [b.aperture] := by
    simp only [State.apertures, show (s.applyBypass b).slots.staged = Option.none from none]
    rfl
  rw [apertures]
  have windows : (s.applyBypass b).windows = [b.window, b.window] := rfl
  rw [windows]
  exact valid.laid.mono (fun _ => id) (by simp) (fun _ => id)

/-- The locked fields of a block that RUN takes are those in force (R158). -/
theorem State.lockedField_none {s : State} {b : SetupBlock} (h : s.lockedField b = none) :
    b.slotSize = s.bridge.regions.slotSize ∧ b.apertureBase = s.bridge.regions.apertureBase
      ∧ b.slotBase[0] = s.bridge.regions.slotBase[0] ∧ b.slotBase[1] = s.bridge.regions.slotBase[1]
      ∧ b.slotBase[2] = s.bridge.regions.slotBase[2] ∧ b.viewBase = s.bridge.regions.viewBase := by
  unfold State.lockedField at h
  simp only [ne_eq] at h
  split at h
  · cases h
  grind

/-- The regions of a block that RUN takes lie apart from those in force beside them (R158). -/
theorem State.clashField_none {s : State} {b : SetupBlock} (h : s.clashField b = none) :
    b.aperture.apart s.storeSpan ∧ b.window.apart s.storeSpan
      ∧ (s.storeChanged b = true → b.store.apart s.apertureSpan ∧ b.store.apart s.windowSpan)
      ∧ b.message.apart s.apertureSpan ∧ b.message.apart s.windowSpan ∧ b.message.apart s.storeSpan := by
  unfold State.clashField at h
  simp only [Span.apart]
  grind

/-- A block that changes no store region names one in force or waiting (R158, R159). -/
theorem State.store_mem_of_unchanged {s : State} {b : SetupBlock} (h : s.storeChanged b = false) :
    b.store ∈ s.storeRegions := by
  simp only [State.storeChanged, bne_eq_false_iff_eq, State.storeTarget] at h
  unfold State.storeRegions
  cases waits : s.store.deferred with
  | none =>
    simp only [waits, Prod.mk.injEq] at h
    simp [State.storeSpan, SetupBlock.store, h.1, h.2]
  | some c =>
    simp only [waits, Prod.mk.injEq] at h
    simp [SetupBlock.store, h.1, h.2]

/-- The regions in force and those of a block that RUN takes, side by side (R158). -/
theorem State.Takes.laid {s : State} {b : SetupBlock} (takes : s.Takes b) (h : RegionsInv s) :
    Laid s.fixedRegions [s.apertureSpan, b.aperture] [s.windowSpan, b.window] [s.storeSpan, b.store] [b.message] := by
  obtain ⟨size, apertureBase, slot0, slot1, slot2, viewBase⟩ := State.lockedField_none takes.locked
  obtain ⟨aperture_store, wt, changed, ma, mw, mt⟩ := State.clashField_none takes.clear
  have old := (regionsInv_iff s).mp h takes.run
  have fixed : s.fixedRegions = [ctrlSpan s.bridge.straps, b.slot 0, b.slot 1, b.slot 2] := by
    simp only [State.fixedRegions, State.slotSpan, State.slotBase, SetupBlock.slot, size]
    simp [slot0, slot1, slot2]
  have new := fixed ▸ takes.valid.laid
  have apertures : [s.apertureSpan] ⊆ s.apertures := by simp [State.apertures]
  have windows : [s.windowSpan] ⊆ s.windows := by simp [State.windows]
  have stores : [s.storeSpan] ⊆ s.storeRegions := by simp [State.storeRegions]
  have beside : b.store.apart s.apertureSpan ∧ b.store.apart s.windowSpan := by
    cases same : s.storeChanged b with
    | true => exact changed same
    | false =>
      obtain ⟨-, -, -, as, ws, -⟩ := old
      have mem := State.store_mem_of_unchanged same
      exact ⟨Span.apart_comm.mp (as _ (apertures (by simp)) _ (by simp [mem])),
        Span.apart_comm.mp (ws _ (windows (by simp)) _ (by simp [mem]))⟩
  exact (old.mono apertures windows stores).beside new apertureBase viewBase aperture_store wt beside.1 beside.2 ma mw mt

theorem RegionsInv.takeRun {s : State} (h : RegionsInv s) {b : SetupBlock} (takes : s.Takes b) {t : State}
    (bridge : t.bridge = (s.takeRun b).bridge) (slots : t.slots = (s.takeRun b).slots)
    (comp : t.comp = (s.takeRun b).comp) (cu : t.cu = (s.takeRun b).cu)
    (stores : t.storeRegions ⊆ [s.storeSpan, b.store]) : RegionsInv t := by
  have laid := takes.laid h
  obtain ⟨-, apertureBase, -, -, -, viewBase⟩ := State.lockedField_none takes.locked
  rw [regionsInv_iff]
  intro _
  have fixed : t.fixedRegions = s.fixedRegions := by
    simp only [State.fixedRegions, State.slotSpan, State.slotBase, bridge]
    rfl
  have apertures : t.apertures = [s.apertureSpan, b.aperture] := by
    simp only [State.apertures, State.apertureSpan, bridge, slots, SetupBlock.aperture, apertureBase]
    rfl
  have windows : t.windows = [s.windowSpan, b.window] := by
    simp only [State.windows, State.windowSpan, bridge, comp, SetupBlock.window, viewBase]
    rfl
  have message : t.messageSpan = b.message := by
    simp only [State.messageSpan, cu]
    rfl
  rw [fixed, apertures, windows, message]
  exact laid.mono (fun _ => id) (fun _ => id) stores

theorem RegionsInv.applyRun {s : State} (h : RegionsInv s) {b : SetupBlock} (run : s.bridge.run = .run)
    (valid : b.Valid (ctrlSpan s.bridge.straps)) : RegionsInv (s.applyRun b) := by
  have store : b.store ∈ [s.storeSpan, b.store] := by simp
  refine regionsInv_aside.applyRun b (fun takes same => ?_) (fun takes _ => ?_) (fun takes _ => ?_) run valid h
  · refine h.takeRun takes rfl rfl rfl rfl fun x mem => ?_
    have target := same
    simp only [State.storeChanged, bne_eq_false_iff_eq, State.storeTarget] at target
    unfold Store.takeMargin at mem
    change x ∈ State.storeRegions ((s.takeRun b).setStore (match s.store.deferred with
      | some c => { s.store with deferred := some { c with margin := b.margin } }
      | none => { s.store with margin := b.margin })) at mem
    cases waits : s.store.deferred with
    | none =>
      simp only [waits, State.storeRegions, State.setStore_store, State.storeSpan] at mem
      simpa [State.storeSpan] using .inl (List.mem_singleton.mp mem)
    | some c =>
      simp only [waits, Prod.mk.injEq] at target
      simp only [waits, State.storeRegions, State.setStore_store, State.storeSpan] at mem
      simpa [State.storeSpan, SetupBlock.store, target.1, target.2] using mem
  · refine h.takeRun takes rfl rfl rfl rfl fun x mem => ?_
    have only : ((s.takeRun b).startScan b.regionChange).storeRegions = [b.store] := rfl
    rw [only] at mem
    simpa using .inr (List.mem_singleton.mp mem)
  · exact h.takeRun takes rfl rfl rfl rfl (fun _ => id)

theorem RegionsInv.of_runs {c : Instr} {s t : State} (run : Runs c s t) (setup : SetupInv s) (h : RegionsInv s) :
    RegionsInv t := by
  have A := regionsInv_aside
  have bypassed : ∀ (u : State) (b : SetupBlock), u.slots = s.slots → u.bridge = s.bridge →
      u.bridge.run = .bypass → b.Valid (ctrlSpan u.bridge.straps) → RegionsInv u → RegionsInv (u.applyBypass b) :=
    fun u b slots bridge bypass valid _ => valid.applyBypass (slots ▸ setup.2.2.2 (bridge ▸ bypass))
  refine run.aside A (fun deep => ?_) h
  cases run with
  | resetNFall => exact nofun
  | resetNRise low =>
    intro on
    cases (setup.1 low).1.symm.trans on
  | localTime => exact h
  | deferredScan _ _ waits =>
    refine (A.setupScans h).startScan ?_
    unfold State.setupScans
    repeat' split
    all_goals simpa using waits
  | luma front => exact A.keeps.lumaPiece _ _ (front.run (.inl rfl)) (fun _ _ h => h.frameStart) h
  | setupRead => exact A.setupRead _ bypassed (fun _ _ hr v hu => hu.applyRun hr v) (A.port _ _ h)
  | reloadRead => exact A.reloadRead _ setup.2.2.1 bypassed (A.port _ _ h)
  | badMode _ sel => rcases sel with rfl | rfl | rfl | rfl | rfl | rfl <;> cases deep
  | _ => cases deep

/-- Settles O14. -/
theorem regionsInvKept : Obligations.RegionsInvKept := fun _ _ setup before h =>
  step_keeps_of_setup (P := RegionsInv) (fun _ _ h => h) (fun _ _ h => h) (fun run setup h => h.of_runs run setup)
    setup before h

end Sys2Proof.Machine

/-! The engines of the Store Controller (R105). `Guards X` lists what the store and the view can go through, one
field an elementary change with the conditions under which it happens; a predicate that they keep is kept, together
with EngineInv, by every step. The invariants of the view, of the page shown and of the store are such predicates. -/

namespace Sys2Proof.Machine

/-! ## EngineInv in its parts -/

/-- What the engines, the store and the stage of the command in progress say of each other. -/
def Engines (x : Store) (st : Option CmdStage) : Prop :=
  (x.copy = none ∨ x.trav = none)
    ∧ (∀ op, x.trav = some op → op.ofCommand = true → st = some .engine ∧ x.deferred = none)
    ∧ (∀ p last, x.trav = some (.scan p last) → x.formatted = false ∧ x.eod = 0)
    ∧ (∀ c, x.copy = some c → c.trigger = false → st = some .engine)

/-- What BYPASS keeps idle (R108, R163). -/
def State.Quiet (s : State) : Prop :=
  s.enginesIdle = true ∧ s.store.deferred = none ∧ s.holdsPiece = false
    ∧ ∀ n p, s.dispatched n = some p → n = 1 ∨ n = 2

theorem engineInv_iff (s : State) :
    EngineInv s ↔ Engines s.store s.cmdStage ∧ (s.bridge.run = .bypass → s.Quiet) := by
  unfold EngineInv Engines State.Quiet
  simp only [and_assoc]

/-- No command waits for an engine. -/
def Unowned (x : Store) : Prop :=
  (∀ op, x.trav = some op → op.ofCommand = false) ∧ ∀ c, x.copy = some c → c.trigger = true

theorem unowned_of_idle {x : Store} (copy : x.copy = none) (trav : x.trav = none) : Unowned x :=
  ⟨by simp [trav], by simp [copy]⟩

theorem Engines.unowned {x : Store} {st : Option CmdStage} (h : Engines x st) (other : st ≠ some .engine) :
    Unowned x := by
  obtain ⟨-, trav, -, copy⟩ := h
  refine ⟨fun op hop => ?_, fun c hc => ?_⟩
  · refine Classical.byContradiction fun owned => ?_
    exact other (trav op hop (by simpa using owned)).1
  · refine Classical.byContradiction fun owned => ?_
    exact other (copy c hc (by simpa using owned))

theorem Engines.stage {x : Store} {st st' : Option CmdStage} (h : Engines x st)
    (free : Unowned x ∨ st' = some .engine) : Engines x st' := by
  obtain ⟨one, trav, scan, copy⟩ := h
  refine ⟨one, fun op hop owned => ?_, scan, fun c hc owned => ?_⟩
  · rcases free with free | engine
    · rw [free.1 op hop] at owned; cases owned
    · exact ⟨engine, (trav op hop owned).2⟩
  · rcases free with free | engine
    · rw [free.2 c hc] at owned; cases owned
    · exact engine

theorem State.Quiet.of_same {s t : State} (h : s.Quiet) (copy : t.store.copy = s.store.copy)
    (trav : t.store.trav = s.store.trav) (deferred : t.store.deferred = s.store.deferred)
    (holds : t.holdsPiece = true → s.holdsPiece = true)
    (cmd : ∀ n p, t.dispatched n = some p → n = 1 ∨ n = 2) : t.Quiet := by
  obtain ⟨idle, none, held, -⟩ := h
  refine ⟨?_, deferred.trans none, ?_, cmd⟩
  · simpa only [State.enginesIdle, copy, trav] using idle
  · refine Classical.byContradiction fun now => ?_
    simp [held] at holds
    exact now (by simpa using holds)

theorem EngineInv.run_of_capturing {s : State} (h : EngineInv s) (on : s.capturing) : s.bridge.run = .run := by
  rcases on with run | held
  · exact run
  · cases run : s.bridge.run with
    | run => rfl
    | bypass =>
      obtain ⟨-, quiet⟩ := (engineInv_iff s).mp h
      obtain ⟨-, -, none, -⟩ := quiet run
      rw [held] at none
      cases none

theorem EngineInv.run_of_busy {s : State} (h : EngineInv s)
    (busy : s.store.copy ≠ none ∨ s.store.trav ≠ none ∨ s.store.deferred ≠ none) : s.bridge.run = .run := by
  cases run : s.bridge.run with
  | run => rfl
  | bypass =>
    obtain ⟨-, quiet⟩ := (engineInv_iff s).mp h
    obtain ⟨idle, none, -, -⟩ := quiet run
    obtain ⟨copy, trav⟩ := (State.enginesIdle_iff s).mp idle
    rcases busy with copies | travels | waits
    · exact absurd copy copies
    · exact absurd trav travels
    · exact absurd none waits

theorem EngineInv.run_of_hands {s : State} (h : EngineInv s) {n : Nat} {p : Packet} (taken : s.hands n p)
    (other : 3 ≤ n) : s.bridge.run = .run := by
  cases run : s.bridge.run with
  | run => rfl
  | bypass =>
    obtain ⟨-, quiet⟩ := (engineInv_iff s).mp h
    obtain ⟨-, -, -, code⟩ := quiet run
    have := code n p taken.2
    omega

theorem State.deferred_of_awake {s : State} (up : s.awake = true) (idle : s.enginesIdle = true) :
    s.store.deferred = none := by
  simpa [State.awake, State.mountDue, idle, State.resetN_of_awake up] using up

/-! ## What the store and the view go through -/

/-- A view that may take the place of the one in force: within the ranges where that is, with room on its stack, and
of a page only below the end of data, in RUN, with no copy running and no region change waiting. -/
structure State.MayShow (s : State) (v : ViewController) : Prop where
  ranges : s.view.current.inRange → (∀ e ∈ s.view.stack, e.ctx.inRange) →
    v.current.inRange ∧ ∀ e ∈ v.stack, e.ctx.inRange
  depth : v.stack.length ≤ s.view.stack.length
    ∨ v.stack.length ≤ 4 ∧ ∀ q, s.store.trav ≠ some (.viewHeader q true)
  page : ∀ part, v.current.source = .page part → s.view.current.source = .page part
    ∨ part.offset < s.store.eod ∧ s.bridge.run = .run ∧ s.store.deferred = none ∧ s.store.copy = none

/-- The stack after the current context is given up (R86, R89). -/
def State.stackGiven (s : State) (push : Bool) : List StackEntry :=
  if push then { ctx := s.view.current, standing := s.view.current.held.isSome } :: s.view.stack else s.view.stack

/-- A copy that may run: a stage of the one in progress, a clear with no page shown, or a record that fits before
every page shown (R106, R107). -/
def State.MayCopy (s : State) (c : CopyOp) : Prop :=
  (∃ d, s.store.copy = some d ∧ c.job = d.job ∧ c.offset = d.offset ∧ c.header = d.header)
    ∨ (s.view.current.pageFrom 0 = false ∧ c.offset + c.header.length = 0)
    ∨ (c.job ≠ .clear ∧ s.view.current.pageFrom c.offset = false
        ∧ c.offset + c.header.length + 32 ≤ s.storeSize)

/-- The store at the start of a mount scan (R104, R108). -/
def Store.scanning (x : Store) (c : RegionChange) : Store :=
  { x with
    base := c.base, limit := c.limit, margin := c.margin, formatted := false, protect := false,
    position := some 0, eod := 0, serial := 0, lesson := 0, trav := some (.scan 0 none), deferred := none }

/-- What RESTART leaves of the store. -/
structure Store.Restarted (x y : Store) : Prop where
  base : y.base = x.base
  limit : y.limit = x.limit
  deferred : y.deferred = x.deferred
  copy : y.copy = none
  trav : y.trav = none ∨ ∃ p last, x.trav = some (.scan p last) ∧ y.trav = some (.scan p last)
  found : (y.eod = x.eod ∧ y.formatted = x.formatted ∧ (y.position = x.position ∨ y.position = none))
    ∨ y.eod = 0 ∧ y.formatted = false ∧ (y.position = some 0 ∨ y.position = none)

/-- A predicate of the store, the view and the run state that their elementary changes keep. -/
structure Guards (X : State → Prop) : Prop where
  same : ∀ s t, t.store = s.store → t.view = s.view → t.bridge.run = s.bridge.run → X s → X t
  view : ∀ s v, s.MayShow v → X s → X (s.setView v)
  trav : ∀ s op, (∀ q push, op = some (.viewHeader q push) →
    q.valuesGood = true ∧ (push = true → s.view.stack.length ≤ 3)) → X s → X (s.setStore { s.store with trav := op })
  shown : ∀ s q push c, s.store.trav = some (.viewHeader q push) →
    (q.valuesGood = true → s.view.current.inRange → c.inRange) →
    (∀ part, c.source = .page part →
      part.offset < s.store.eod ∧ s.bridge.run = .run ∧ s.store.deferred = none ∧ s.store.copy = none) →
    X s → X ((s.setStore { s.store with trav := none }).setView { current := c, stack := s.stackGiven push })
  copy : ∀ s c, (∀ d, c = some d → s.MayCopy d) → X s → X (s.setStore { s.store with copy := c })
  position : ∀ s p, (∀ q, p = some q → q ≤ s.store.eod ∨ ∃ old, s.store.position = some old ∧ q ≤ old) → X s →
    X (s.setPosition p)
  committed : ∀ s c, s.store.copy = some c → X s → X (s.setStore { s.store.committed c with copy := none })
  cleared : ∀ s c x, s.store.copy = some c → c.job = .clear → x.base = s.store.base → x.limit = s.store.limit →
    x.deferred = s.store.deferred → x.trav = s.store.trav → x.copy = none → x.eod = 0 → x.position = some 0 → X s →
    X (s.setStore x)
  marks : ∀ s x, x.base = s.store.base → x.limit = s.store.limit → x.deferred = s.store.deferred →
    x.trav = s.store.trav → x.copy = s.store.copy → x.eod = s.store.eod → x.position = s.store.position → X s →
    X (s.setStore x)
  waits : ∀ s c, ((∃ d, s.store.deferred = some d ∧ c.base = d.base ∧ c.limit = d.limit)
      ∨ c.base + 65536 ≤ c.limit ∧ s.view.current.pageFrom 0 = false) → X s →
    X (s.setStore { s.store with deferred := some c })
  scan : ∀ s t c, s.store.copy = none → t.store = s.store.scanning c → t.view = s.view →
    (t.bridge.run = s.bridge.run ∨ s.bridge.run = .bypass) →
    (s.bridge.run = .run ∧ s.store.deferred = some c
      ∨ c.base + 65536 ≤ c.limit ∧ (s.view.current.pageFrom 0 = false ∨ s.bridge.run = .bypass)) → X s → X t
  found : ∀ s p n, s.store.eod = 0 → p + 32 ≤ s.storeSize → X s →
    X (s.setStore { s.store with formatted := true, eod := p, position := some 0, serial := n })
  restart : ∀ s t, s.store.Restarted t.store → t.view = ViewController.reset → t.bridge.run = s.bridge.run → X s →
    X t
  reset : ∀ q, X (State.reset.setPending q)

/-- The predicate holds in RUN, with the engines in order. -/
def InRun (X : State → Prop) (s : State) : Prop :=
  s.bridge.run = .run ∧ Engines s.store s.cmdStage ∧ X s

theorem InRun.engaged {X : State → Prop} {s : State} (h : InRun X s) : EngineInv s ∧ X s :=
  ⟨(engineInv_iff s).mpr ⟨h.2.1, fun bypass => by cases h.1.symm.trans bypass⟩, h.2.2⟩

theorem InRun.of_engaged {X : State → Prop} {s : State} (run : s.bridge.run = .run) (h : EngineInv s ∧ X s) :
    InRun X s := ⟨run, ((engineInv_iff s).mp h.1).1, h.2⟩

theorem State.cmdStage_setCmdStage (s : State) (st : CmdStage) :
    (s.setCmdStage st).cmdStage = s.cu.cmd.map fun _ => st := by
  simp only [State.cmdStage, State.setCmdStage_cmd]
  cases s.cu.cmd <;> rfl

theorem State.useTrav_setCmdStage (s : State) (op : TravOp) (st : CmdStage) :
    (s.useTrav op).setCmdStage st = (s.setCmdStage st).useTrav op := by
  unfold State.setCmdStage
  rw [show (s.useTrav op).cu = s.cu from rfl, show s.cu = s.cu from rfl]
  cases s.cu.cmd <;> rfl

theorem State.useCopy_setCmdStage (s : State) (c : CopyOp) (st : CmdStage) :
    (s.useCopy c).setCmdStage st = (s.setCmdStage st).useCopy c := by
  unfold State.setCmdStage
  rw [show (s.useCopy c).cu = s.cu from rfl]
  cases s.cu.cmd <;> rfl

/-! ## In RUN -/

section
variable {X : State → Prop} (G : Guards X) {s t : State}

/-- What `InRun` depends on. -/
theorem InRun.of_same (G : Guards X) (h : InRun X s) (store : t.store = s.store) (view : t.view = s.view)
    (run : t.bridge.run = s.bridge.run) (cmd : t.cu.cmd = s.cu.cmd) : InRun X t := by
  obtain ⟨on, engines, x⟩ := h
  refine ⟨run.trans on, ?_, G.same s t store view run x⟩
  simpa only [store, State.cmdStage, cmd] using engines

theorem InRun.setCmdStage (G : Guards X) (h : InRun X s) (st : CmdStage) (free : Unowned s.store ∨ st = .engine) :
    InRun X (s.setCmdStage st) := by
  obtain ⟨on, engines, x⟩ := h
  refine ⟨by simpa using on, ?_, G.same s _ (by simp) (by simp) (by simp) x⟩
  rw [State.setCmdStage_store, State.cmdStage_setCmdStage]
  cases hc : s.cu.cmd with
  | none => exact engines.stage (.inl (engines.unowned (by simp [State.cmdStage, hc])))
  | some c => exact engines.stage (free.imp id (by rintro rfl; rfl))

theorem InRun.present (G : Guards X) (h : InRun X s) (p : Purpose) (b : Burst) : InRun X (s.present p b) :=
  h.of_same G rfl rfl rfl rfl

theorem InRun.complete (G : Guards X) (h : InRun X s) (o : Result) (free : Unowned s.store) :
    InRun X (s.complete o) := by
  unfold State.complete State.completeWith
  split
  · exact h
  · next c _ =>
    have staged := fun st => h.setCmdStage G st (.inl free)
    exact (staged _).of_same G (by simp) (by simp) (by simp) (State.presentCommand_cmd _ _ _)

theorem InRun.post (G : Guards X) (h : InRun X s) (n : Notice) : InRun X (s.post n) :=
  h.of_same G (by simp) (by simp) (by simp) (by simp)

theorem InRun.releaseOpt (G : Guards X) (h : InRun X s) (o : Option (Fin 3)) : InRun X (s.releaseOpt o) :=
  h.of_same G (by simp) (by simp) (by simp) (by simp)

theorem InRun.setView (G : Guards X) (h : InRun X s) {v : ViewController} (may : s.MayShow v) :
    InRun X (s.setView v) := ⟨h.1, h.2.1, G.view s v may h.2.2⟩

/-- The traversal engine begins or goes on. -/
theorem InRun.useTrav (G : Guards X) (h : InRun X s) (op : TravOp) (free : s.store.copy = none)
    (room : ∀ q push, op = .viewHeader q push → q.valuesGood = true ∧ (push = true → s.view.stack.length ≤ 3))
    (owned : op.ofCommand = true → s.cmdStage = some .engine ∧ s.store.deferred = none)
    (scan : ∀ p last, op = .scan p last → s.store.formatted = false ∧ s.store.eod = 0) : InRun X (s.useTrav op) := by
  obtain ⟨on, -, x⟩ := h
  refine ⟨on, ⟨.inl free, ?_, ?_, ?_⟩, G.trav s _ (by rintro q push ⟨⟩; exact room _ _ rfl) x⟩
  · rintro _ ⟨⟩ own
    exact owned own
  · rintro p last ⟨⟩
    exact scan p last rfl
  · intro c hc
    rw [show (s.useTrav op).store.copy = s.store.copy from rfl, free] at hc
    cases hc

theorem InRun.idleTrav (G : Guards X) (h : InRun X s) : InRun X s.idleTrav := by
  obtain ⟨on, ⟨-, -, -, copy⟩, x⟩ := h
  exact ⟨on, ⟨.inr rfl, nofun, nofun, copy⟩, G.trav s none nofun x⟩

theorem InRun.setPosition (G : Guards X) (h : InRun X s) {p : Option Nat}
    (bound : ∀ q, p = some q → q ≤ s.store.eod ∨ ∃ old, s.store.position = some old ∧ q ≤ old) :
    InRun X (s.setPosition p) := ⟨h.1, h.2.1, G.position s p bound h.2.2⟩

theorem InRun.lost (G : Guards X) (h : InRun X s) : InRun X (s.setPosition none) := h.setPosition G nofun

/-- A copy goes on with its operation, or a trigger or a command in progress begins one. -/
theorem InRun.useCopy (G : Guards X) (h : InRun X s) (c : CopyOp) (free : s.store.trav = none) (may : s.MayCopy c)
    (owned : c.trigger = false → s.cmdStage = some .engine) : InRun X (s.useCopy c) := by
  obtain ⟨on, -, x⟩ := h
  refine ⟨on, ⟨.inr free, ?_, ?_, ?_⟩, G.copy s (some c) (by rintro d ⟨⟩; exact may) x⟩
  · intro op hop
    rw [show (s.useCopy c).store.trav = s.store.trav from rfl, free] at hop
    cases hop
  · intro p last hop
    rw [show (s.useCopy c).store.trav = s.store.trav from rfl, free] at hop
    cases hop
  · rintro _ ⟨⟩ own
    exact owned own

theorem InRun.copyFrom (G : Guards X) (h : InRun X s) (c : CopyOp) (n : Nat) (free : s.store.trav = none)
    (may : ∀ st, s.MayCopy { c with stage := st }) (owned : c.trigger = false → s.cmdStage = some .engine) :
    InRun X (s.copyFrom c n) := by
  obtain ⟨st, store⟩ := s.copyFrom_store c n
  exact (h.useCopy G { c with stage := st } free (may st) owned).of_same G store (by simp) (by simp) (by simp)

theorem State.mayCopy_of_running {s : State} {c : CopyOp} (running : s.store.copy = some c) (st : CopyStage) :
    s.MayCopy { c with stage := st } := .inl ⟨c, running, rfl, rfl, rfl⟩

theorem State.mayCopy_record {s : State} {fmt src p : Nat} {f : Format} {i : Fin 3} (v tr : Bool)
    (accepted : s.checkRecord fmt src = .accepted p f i) (st : CopyStage) :
    s.MayCopy { job := .page i, trigger := tr, offset := p, header := s.pageHeader f i v, stage := st } := by
  obtain ⟨-, -, -, -, -, -, -, -, -, unused, fits⟩ := State.checkRecord_accepted accepted
  simp only [State.pageInUse, Bool.or_eq_false_iff] at unused
  exact .inr (.inr ⟨by simp, unused.1, of_decide_eq_true fits⟩)

theorem State.mayCopy_mark {s : State} {n p : Nat} (tr : Bool) (accepted : s.checkMark n = .accepted p)
    (st : CopyStage) :
    s.MayCopy { job := .mark, trigger := tr, offset := p, header := s.markHeader n, stage := st } := by
  obtain ⟨-, -, -, -, -, -, unused, fits⟩ := State.checkMark_accepted accepted
  simp only [State.pageInUse, Bool.or_eq_false_iff] at unused
  exact .inr (.inr ⟨by simp, unused.1, of_decide_eq_true fits⟩)

/-- What may run does not depend on the command in progress or on the slots. -/
theorem State.MayCopy.of_same {s t : State} {c : CopyOp} (h : s.MayCopy c) (store : t.store = s.store)
    (view : t.view = s.view) : t.MayCopy c := by
  unfold State.MayCopy State.storeSize
  rw [store, view]
  exact h

theorem InRun.acceptRecord (G : Guards X) (h : InRun X s) {p : Nat} {f : Format} {i : Fin 3} {v tr : Bool}
    (idle : s.enginesIdle = true)
    (may : ∀ st, s.MayCopy { job := .page i, trigger := tr, offset := p, header := s.pageHeader f i v, stage := st })
    (owned : tr = false → s.cmdStage = some .engine) : InRun X (s.acceptRecord p f i v tr) := by
  have pinned : InRun X (s.takeHold i) := h.of_same G rfl rfl rfl rfl
  exact pinned.copyFrom G _ 0 ((State.enginesIdle_iff s).mp idle).2 (fun st => (may st).of_same rfl rfl) owned

theorem InRun.acceptMark (G : Guards X) (h : InRun X s) {p n : Nat} {tr : Bool} (idle : s.enginesIdle = true)
    (may : ∀ st, s.MayCopy { job := .mark, trigger := tr, offset := p, header := s.markHeader n, stage := st })
    (owned : tr = false → s.cmdStage = some .engine) : InRun X (s.acceptMark p n tr) :=
  h.copyFrom G _ 0 ((State.enginesIdle_iff s).mp idle).2 may owned

theorem InRun.advanceAt (G : Guards X) (h : InRun X s) (p : Nat) (b : Bool) (free : s.store.copy = none) :
    InRun X (s.advanceAt p b) := by
  unfold State.advanceAt
  split
  · exact (h.idleTrav G).post G _
  · exact (h.useTrav G (.advance b) free (by simp) (by simp [TravOp.ofCommand]) (by simp)).present G _ _

/-! ## Line events -/

/-- A zoom moves toward its target and stays in range (R94). -/
theorem moveZoom_between (z zt n : Nat) :
    min z zt ≤ moveZoom z zt n ∧ moveZoom z zt n ≤ max z zt := by
  unfold moveZoom
  split <;> omega

theorem State.mayShow_zoom (s : State) (n : Nat) :
    s.MayShow { s.view with
      current := { s.view.current with z := moveZoom s.view.current.z s.view.current.zt n } } where
  ranges current stack := by
    have := moveZoom_between s.view.current.z s.view.current.zt n
    refine ⟨?_, stack⟩
    simp only [ViewContext.inRange] at current ⊢
    omega
  depth := .inl (Nat.le_refl _)
  page _ shown := .inl shown

theorem InRun.lineEvent (G : Guards X) (h : InRun X s) (n : Nat) : InRun X (s.lineEvent n) := by
  refine State.lineEvent_keeps (P := InRun X) (fun _ _ h => h.of_same G rfl rfl rfl rfl)
    (fun _ h => h.of_same G rfl rfl rfl rfl) (fun _ n h => h.post G n) (fun s _ _ _ _ accepted h => ?_)
    (fun s _ _ accepted h => ?_) (fun s p _ _ idle h => ?_) (fun s n h => h.setView G (s.mayShow_zoom n)) n h
  · obtain ⟨-, -, -, idle, -⟩ := State.checkRecord_accepted accepted
    exact h.acceptRecord G idle (State.mayCopy_record _ _ accepted) nofun
  · obtain ⟨-, idle, -⟩ := State.checkMark_accepted accepted
    exact h.acceptMark G idle (State.mayCopy_mark _ accepted) nofun
  · exact h.advanceAt G p false ((State.enginesIdle_iff s).mp idle).1

end

end Sys2Proof.Machine

/-! Every command keeps the engines in order, together with a predicate that the changes of store and view keep. -/

namespace Sys2Proof.Machine

/-! ## The bounds of a header that was judged good -/

/-- A record that a reader below the end of data found good is not empty and ends below it (R102). -/
theorem judgeChain_bound {eod p : Nat} {ws : List Word} {h : Header} (good : judgeChain eod p ws = some h)
    (record : h.kind ≠ .endRecord) : p + h.length ≤ eod ∧ 0 < h.length := by
  unfold judgeChain judgeShape at good
  repeat' split at good
  all_goals first
    | (cases good; done)
    | skip
  next shape h' found below =>
    cases good
    split at found
    · cases found
    · split at found
      · next judged =>
        cases found
        rw [Bool.and_eq_true] at judged
        have length : h.length = h.shapeLength := by
          have := judged.2
          simp only [Header.shapeGood, Bool.and_eq_true, beq_iff_eq] at this
          exact this.1
        have positive : 0 < h.shapeLength := by
          unfold Header.shapeLength
          split
          · exact Nat.succ_pos _
          · exact Nat.succ_pos _
          · next kind => exact absurd kind record
        simp only [Bool.or_eq_true, beq_iff_eq, decide_eq_true_eq] at below
        rcases below with kind | below
        · exact absurd kind record
        · exact ⟨below, length ▸ positive⟩
      · cases found

theorem judgeScan_bound {size p : Nat} {ws : List Word} {h : Header} (good : judgeScan size p ws = some h) :
    p + 32 ≤ size := by
  unfold judgeScan at good
  repeat' split at good
  all_goals first
    | (cases good; done)
    | omega

/-! ## The predicate with the engines in order -/

/-- The predicate holds with the engines in order. -/
def Engaged (X : State → Prop) (s : State) : Prop := EngineInv s ∧ X s

section
variable {X : State → Prop} {s t : State}

theorem Engaged.inRun (h : Engaged X s) (run : s.bridge.run = .run) : InRun X s := InRun.of_engaged run h

/-- What changes neither store, view nor run state leaves the engines in order when the command in progress keeps
its stage, or no command waits for an engine. -/
theorem Engaged.of_cmd (G : Guards X) (h : Engaged X s) (store : t.store = s.store) (view : t.view = s.view)
    (run : t.bridge.run = s.bridge.run)
    (stage : Unowned s.store ∨ t.cmdStage = some .engine ∨ t.cmdStage = s.cmdStage)
    (codes : s.bridge.run = .bypass → ∀ n p, t.dispatched n = some p → n = 1 ∨ n = 2)
    (holds : t.holdsPiece = true → s.bridge.run = .run ∨ s.holdsPiece = true) : Engaged X t := by
  obtain ⟨engines, x⟩ := h
  obtain ⟨inOrder, quiet⟩ := (engineInv_iff s).mp engines
  refine ⟨(engineInv_iff t).mpr ⟨?_, fun bypass => ?_⟩, G.same s t store view run x⟩
  · rw [store]
    rcases stage with free | engine | same
    · exact inOrder.stage (.inl free)
    · exact inOrder.stage (.inr engine)
    · rw [same]; exact inOrder
  · rw [run] at bypass
    refine (quiet bypass).of_same (by rw [store]) (by rw [store]) (by rw [store]) (fun held => ?_) (codes bypass)
    rcases holds held with on | held
    · cases bypass.symm.trans on
    · exact held

theorem Engaged.of_same (G : Guards X) (h : Engaged X s) (store : t.store = s.store) (view : t.view = s.view)
    (bridge : t.bridge.run = s.bridge.run) (cmd : t.cu.cmd = s.cu.cmd)
    (holds : t.holdsPiece = true → s.bridge.run = .run ∨ s.holdsPiece = true) : Engaged X t := by
  refine h.of_cmd G store view bridge (.inr (.inr (by simp only [State.cmdStage, cmd]))) (fun bypass n p => ?_) holds
  obtain ⟨-, quiet⟩ := (engineInv_iff s).mp h.1
  rw [State.dispatched_eq, cmd, ← State.dispatched_eq]
  exact (quiet bypass).2.2.2 n p

theorem State.holdsPiece_same {s t : State} (same : t.bridge = s.bridge) :
    t.holdsPiece = true → s.bridge.run = .run ∨ s.holdsPiece = true := by
  intro held
  exact .inr (by simpa only [State.holdsPiece, same] using held)

/-- A completed command is dispatched no more. -/
theorem State.complete_dispatched (s : State) (o : Result) (n : Nat) : (s.complete o).dispatched n = none := by
  rw [Option.eq_none_iff_forall_not_mem]
  intro p taken
  obtain ⟨cmd, -⟩ := State.dispatched_eq.mp taken
  unfold State.complete State.completeWith at cmd
  split at cmd
  · next none => rw [none] at cmd; cases cmd
  · simp only [State.presentCommand_cmd, State.setCmdStage_cmd, Option.map_eq_some_iff] at cmd
    obtain ⟨c, -, made⟩ := cmd
    cases congrArg Command.stage made

theorem Engaged.complete (G : Guards X) (h : Engaged X s) (o : Result) (free : Unowned s.store) :
    Engaged X (s.complete o) :=
  h.of_cmd G (by simp) (by simp) (by simp) (.inl free)
    (fun _ n p taken => by rw [State.complete_dispatched] at taken; cases taken) (State.holdsPiece_same (by simp))

theorem Engaged.setCmdStage (G : Guards X) (h : Engaged X s) (st : CmdStage) (other : st ≠ .dispatched)
    (free : Unowned s.store) : Engaged X (s.setCmdStage st) := by
  refine h.of_cmd G (by simp) (by simp) (by simp) (.inl free) (fun _ n p taken => ?_) (State.holdsPiece_same (by simp))
  obtain ⟨cmd, -⟩ := State.dispatched_eq.mp taken
  rw [State.setCmdStage_cmd, Option.map_eq_some_iff] at cmd
  obtain ⟨c, -, made⟩ := cmd
  exact absurd (congrArg Command.stage made) other

theorem Engaged.presentCommand (G : Guards X) (h : Engaged X s) (p : Purpose) (b : Burst) :
    Engaged X (s.presentCommand p b) :=
  h.of_same G (by simp) (by simp) (by simp) (by simp) (State.holdsPiece_same (by simp))

/-- No command waits for an engine while the one in progress is at another stage. -/
theorem Engaged.unowned (h : Engaged X s) (other : s.cmdStage ≠ some .engine) : Unowned s.store :=
  ((engineInv_iff s).mp h.1).1.unowned other

/-- The traffic keeps the engines in order. -/
theorem engaged_keeps (G : Guards X) : Keeps (Engaged X) where
  port _ _ h := h.of_same G rfl rfl rfl rfl (State.holdsPiece_same rfl)
  txn s x g a free h := by
    refine h.of_same G rfl rfl rfl rfl fun held => ?_
    rcases free with on | other
    · exact .inl (h.1.run_of_capturing on)
    · exfalso
      unfold State.holdsPiece at held
      split at held
      · next hx => exact other _ _ hx rfl
      · cases held
  asm _ _ _ h := h.of_same G rfl rfl rfl rfl (State.holdsPiece_same rfl)
  hist _ _ h := h.of_same G rfl rfl rfl rfl (State.holdsPiece_same rfl)
  completes _ _ _ h := h.of_same G (by simp) (by simp) (by simp) (by simp) (State.holdsPiece_same (by simp))
  broken _ h := h.of_same G (by simp) (by simp) (by simp) (by simp) (State.holdsPiece_same (by simp))
  event s n on h := ((h.inRun (h.1.run_of_capturing on)).lineEvent G n).engaged
  errors _ _ h := h.of_same G rfl rfl rfl rfl (State.holdsPiece_same rfl)
  timer _ _ _ _ _ h := h.of_same G rfl rfl rfl rfl (State.holdsPiece_same rfl)
  cu _ _ cmd _ _ _ _ h := h.of_same G rfl rfl rfl cmd (State.holdsPiece_same rfl)
  cmd s c idle _ plain h := by
    refine h.of_cmd G rfl rfl rfl (.inl (h.unowned idle)) (fun _ n p taken => ?_) (State.holdsPiece_same rfl)
    obtain ⟨cmd, -⟩ := State.dispatched_eq.mp taken
    cases plain _ cmd
  take s _ free _ h := by
    refine h.of_cmd G rfl rfl rfl (.inl (h.unowned (by simp [State.cmdStage, free]))) (fun _ n p taken => ?_)
      (State.holdsPiece_same rfl)
    obtain ⟨cmd, -⟩ := State.dispatched_eq.mp taken
    cases cmd

/-! ## Frame starts and display pieces -/

theorem State.frameStart_view (s : State) : s.frameStart.view = s.view ∨ s.frameStart.view = s.view.dropHolds := by
  have e : s.frameStart.view = s.endFrame.applyPending.view := by simp [State.frameStart]
  have ended : s.endFrame.view = s.view := by simp
  rw [e, ← ended]
  unfold State.applyPending
  repeat' split
  · unfold State.applyStaged
    dsimp only
    split
    · exact .inl rfl
    · exact .inr (State.newGeometry_view _)
  · exact .inl rfl
  · exact .inl rfl

/-- A frozen context that becomes LIVE stays within its ranges and shows no page (R97). -/
theorem State.mayShow_dropHolds (s : State) : s.MayShow s.view.dropHolds where
  ranges current stack := by
    constructor
    · unfold ViewController.dropHolds
      dsimp only
      split <;> exact current
    · simp only [ViewController.dropHolds, List.mem_map]
      rintro _ ⟨e, mem, rfl⟩
      exact stack e mem
  depth := .inl (by simp [ViewController.dropHolds])
  page part shown := by
    left
    unfold ViewController.dropHolds at shown
    dsimp only at shown
    split at shown
    · cases shown
    · exact shown

theorem InRun.frameStart (G : Guards X) (h : InRun X s) : InRun X s.frameStart := by
  have same : ∀ u : State, InRun X u → u.store = s.store → u.bridge = s.bridge → u.cu = s.cu →
      s.frameStart.view = u.view → InRun X s.frameStart := fun u hu store bridge cu view =>
    hu.of_same G (by simp [store]) view (by simp [bridge]) (by rw [cu]; exact s.frameStart_cu.cmd)
  rcases s.frameStart_view with view | view
  · exact same s h rfl rfl rfl view
  · exact same _ (h.setView G s.mayShow_dropHolds) rfl rfl rfl view

theorem InRun.displayPiece (G : Guards X) (h : InRun X s) (x : Txn) (p : Piece) : InRun X (s.displayPiece x p) := by
  have latched : ∀ f, InRun X (s.takeLatch f) := fun f => h.of_same G (by simp) (by simp) (by simp) (by simp)
  unfold State.displayPiece
  dsimp only
  split
  · exact (latched _).of_same G rfl rfl rfl rfl
  · exact h.of_same G rfl rfl rfl rfl

/-! ## The view commands -/

/-- The stage of a command in progress that an engine works for. -/
theorem State.cmdStage_engine {s : State} (busy : s.cu.cmd.isSome = true) :
    (s.setCmdStage .engine).cmdStage = some .engine := by
  rw [State.cmdStage_setCmdStage]
  obtain ⟨c, hc⟩ := Option.isSome_iff_exists.mp busy
  rw [hc]
  rfl

theorem State.hands.busy {s : State} {n : Nat} {p : Packet} (h : s.hands n p) : s.cu.cmd.isSome = true := by
  simp [(State.dispatched_eq.mp h.2).1]

theorem InRun.setStageFor (G : Guards X) (h : InRun X s) : InRun X (s.setCmdStage .engine) :=
  h.setCmdStage G .engine (.inr rfl)

/-- A request's context is within ranges when its values are good (R83, R85, R86). -/
theorem ViewRequest.context_inRange {q : ViewRequest} (good : q.valuesGood = true) {old : ViewContext}
    (range : old.inRange) (src : Source) : (q.context old src).inRange := by
  simp only [ViewRequest.valuesGood, Bool.and_eq_true, decide_eq_true_eq] at good
  obtain ⟨zLow, zHigh, -⟩ := range
  simp only [ViewContext.inRange, ViewRequest.context]
  split <;> omega

theorem ViewRequest.pageContext_inRange {q : ViewRequest} (good : q.valuesGood = true) {old : ViewContext}
    (range : old.inRange) (p : Nat) (h : Header) : (q.pageContext old p h).inRange := by
  unfold ViewRequest.pageContext
  dsimp only
  split
  · simp only [ViewContext.inRange, clampNat]
    omega
  · exact ViewRequest.context_inRange good range _

theorem ViewRequest.pageContext_source (q : ViewRequest) (old : ViewContext) (p : Nat) (h : Header) :
    (q.pageContext old p h).source =
      .page { offset := p, serial := h.serial, format := h.format, w := h.w, h := h.h } := by
  unfold ViewRequest.pageContext
  dsimp only
  split <;> rfl

/-- The checks of a view request that nothing refuses (R85, R89). -/
theorem State.checkView_none {s : State} {q : ViewRequest} {push : Bool} (h : s.checkView q push = none) :
    q.valuesGood = true ∧ (push = true → s.view.stack.length ≤ 3)
      ∧ (q.kind = some .page → s.enginesIdle = true) := by
  unfold State.checkView at h
  repeat' split at h
  all_goals first
    | (cases h; done)
    | skip
  next good full busy _ _ _ =>
    simp only [Bool.not_eq_true', Bool.not_eq_false] at good
    simp only [Bool.and_eq_true, decide_eq_true_eq, not_and, Nat.not_le] at full
    refine ⟨good, fun pushed => ?_, fun page => ?_⟩
    · have := full pushed
      omega
    · refine Classical.byContradiction fun off => ?_
      exact busy ⟨page, by simpa using off⟩

theorem State.giveUpCurrent_view (s : State) (push : Bool) :
    (s.giveUpCurrent push).view = { s.view with stack := s.stackGiven push } := by
  unfold State.giveUpCurrent State.stackGiven
  cases push <;> simp

/-- A context that takes the place of the current one (R86, R89). -/
theorem State.mayShow_given {s : State} {push : Bool} {c : ViewContext}
    (range : s.view.current.inRange → c.inRange)
    (room : push = true → s.view.stack.length ≤ 3 ∧ ∀ q, s.store.trav ≠ some (.viewHeader q true))
    (page : ∀ part, c.source = .page part →
      part.offset < s.store.eod ∧ s.bridge.run = .run ∧ s.store.deferred = none ∧ s.store.copy = none) :
    s.MayShow { current := c, stack := s.stackGiven push } where
  ranges current stack := by
    refine ⟨range current, ?_⟩
    unfold State.stackGiven
    split
    · exact List.forall_mem_cons.mpr ⟨current, stack⟩
    · exact stack
  depth := by
    unfold State.stackGiven
    split
    · next pushed =>
      obtain ⟨short, other⟩ := room pushed
      exact .inr ⟨Nat.succ_le_succ short, other⟩
    · exact .inl (Nat.le_refl _)
  page part shown := .inr (page part shown)

/-- The current context is given up and another takes its place. -/
theorem InRun.show (G : Guards X) (h : InRun X s) {push : Bool} {c : ViewContext} {u : State}
    (given : u.view = { s.view with stack := s.stackGiven push }) (store : u.store = s.store)
    (run : u.bridge.run = s.bridge.run) (cmd : u.cu.cmd = s.cu.cmd)
    (may : s.MayShow { current := c, stack := s.stackGiven push }) : InRun X (u.setCurrent c) := by
  have shown := h.setView G may
  refine shown.of_same G store ?_ run cmd
  simp only [State.setCurrent, State.setView_view, given]

@[simp] theorem State.changeView_store (s : State) (q : ViewRequest) (push : Bool) :
    (s.changeView q push).store = s.store := by
  unfold State.changeView
  dsimp only
  repeat' split
  all_goals simp [State.setCurrent]

theorem InRun.changeView (G : Guards X) (h : InRun X s) {q : ViewRequest} {push : Bool} (good : q.valuesGood = true)
    (room : push = true → s.view.stack.length ≤ 3 ∧ ∀ q, s.store.trav ≠ some (.viewHeader q true)) :
    InRun X (s.changeView q push) := by
  have shows : ∀ src : Source, (∀ part, src ≠ .page part) →
      ∀ u : State, u.view = (s.giveUpCurrent push).view → u.store = s.store → u.bridge.run = s.bridge.run →
        u.cu.cmd = s.cu.cmd → InRun X (u.setCurrent (q.context s.view.current src)) := by
    intro src other u view store run cmd
    refine h.show G (push := push) (by rw [view, State.giveUpCurrent_view]) store run cmd
      (State.mayShow_given (fun range => ViewRequest.context_inRange good range _) room ?_)
    intro part shown
    exact absurd shown (other part)
  unfold State.changeView
  dsimp only
  repeat' split
  all_goals exact shows _ (by simp) _ (by simp) (by simp) (by simp) (by simp)

theorem InRun.runView (G : Guards X) (h : InRun X s) {n : Nat} {p : Packet} (taken : s.hands n p) (q : ViewRequest)
    (push : Bool) : InRun X (s.runView q push) := by
  have free : Unowned s.store := h.2.1.unowned (by simp [taken.cmdStage])
  unfold State.runView
  split
  · exact h.complete G _ free
  · next checked =>
    obtain ⟨good, room, idle⟩ := State.checkView_none checked
    split
    · next pos kind _ =>
      have idle := idle kind
      rw [State.useTrav_setCmdStage]
      have staged := h.setStageFor G
      refine (staged.useTrav G (.viewHeader q push) ?_ ?_ ?_ (by simp)).present G _ _
      · simpa using ((State.enginesIdle_iff s).mp idle).1
      · rintro q' push' ⟨⟩
        simpa using ⟨good, room⟩
      · exact fun _ => ⟨State.cmdStage_engine taken.busy, by simpa using State.deferred_of_awake taken.1 idle⟩
    · have changed := h.changeView G (q := q) good fun pushed => ⟨room pushed, fun q' reads => ?_⟩
      · refine changed.complete G _ ?_
        rw [State.changeView_store]
        exact free
      · have := free.1 _ reads
        simp [TravOp.ofCommand] at this

/-- What an operation that a command waits for tells of the store. -/
theorem InRun.owned (h : InRun X s) {op : TravOp} (reads : s.store.trav = some op) :
    s.store.copy = none ∧ Unowned s.idleTrav.store ∧ (op.ofCommand = true → s.store.deferred = none) := by
  obtain ⟨-, ⟨one, trav, -, -⟩, -⟩ := h
  have copy : s.store.copy = none := by
    rcases one with copy | none
    · exact copy
    · rw [none] at reads; cases reads
  exact ⟨copy, unowned_of_idle copy rfl, fun own => (trav op reads own).2⟩

theorem InRun.viewHeaderRead (G : Guards X) (h : InRun X s) (a : Answer) : InRun X (s.viewHeaderRead a) := by
  unfold State.viewHeaderRead
  split
  · next q push p reads position =>
    obtain ⟨copy, free, own⟩ := h.owned reads
    have idle := h.idleTrav G
    dsimp only
    split
    · exact idle.complete G _ free
    · split
      · exact (idle.lost G).complete G _ free
      · next hd judged =>
        split
        · next kind =>
          obtain ⟨bound, length⟩ := judgeChain_bound judged (by simp [kind])
          have shown := G.shown s q push (q.pageContext s.view.current p hd) reads
            (fun values range => ViewRequest.pageContext_inRange values range _ _)
            (fun part shown => by
              rw [ViewRequest.pageContext_source] at shown
              cases shown
              exact ⟨show p < s.store.eod by omega, h.1, own rfl, copy⟩) h.2.2
          have next : InRun X (s.idleTrav.setView
              { current := q.pageContext s.view.current p hd, stack := s.stackGiven push }) :=
            ⟨idle.1, idle.2.1, shown⟩
          have given : InRun X ((s.idleTrav.giveUpCurrent push).setCurrent (q.pageContext s.view.current p hd)) :=
            next.of_same G (by simp [State.setCurrent, State.idleTrav])
              (by simp only [State.setCurrent, State.setView_view, State.giveUpCurrent_view]; rfl)
              (by simp [State.setCurrent]) (by simp [State.setCurrent])
          refine given.complete G _ ?_
          simpa [State.setCurrent] using free
        · exact idle.complete G _ free
  · exact h

/-- An entry of the stack may become the current context (R92). -/
theorem State.mayShow_entry {s : State} {e : StackEntry} {rest : List StackEntry} (top : s.view.stack = e :: rest)
    (page : ∀ part, e.ctx.source = .page part →
      part.offset < s.store.eod ∧ s.bridge.run = .run ∧ s.store.deferred = none ∧ s.store.copy = none) :
    s.MayShow { current := e.ctx, stack := rest } where
  ranges _ stack := by
    rw [top] at stack
    exact List.forall_mem_cons.mp stack
  depth := .inl (by simp [top])
  page part shown := .inr (page part shown)

theorem liveDefault_inRange : ViewContext.liveDefault.inRange := by
  simp only [ViewContext.inRange]
  decide

theorem State.mayShow_default {s : State} {e : StackEntry} {rest : List StackEntry} (top : s.view.stack = e :: rest) :
    s.MayShow { current := ViewContext.liveDefault, stack := rest } where
  ranges _ stack := by
    rw [top] at stack
    exact ⟨liveDefault_inRange, (List.forall_mem_cons.mp stack).2⟩
  depth := .inl (by simp [top])
  page part shown := by cases shown

theorem InRun.restoreEntry (G : Guards X) (h : InRun X s) {e : StackEntry} {rest : List StackEntry}
    (top : s.view.stack = e :: rest) (free : Unowned s.store)
    (page : ∀ part, e.ctx.source = .page part →
      part.offset < s.store.eod ∧ s.bridge.run = .run ∧ s.store.deferred = none ∧ s.store.copy = none) :
    InRun X (s.restoreEntry e rest) := by
  have shown := h.setView G (State.mayShow_entry top page)
  have given : InRun X ((s.releaseOpt s.view.current.held).setView { current := e.ctx, stack := rest }) :=
    shown.of_same G (by simp) rfl (by simp) (by simp)
  exact given.complete G _ (by simpa using free)

theorem InRun.discardEntry (G : Guards X) (h : InRun X s) {e : StackEntry} {rest : List StackEntry}
    (top : s.view.stack = e :: rest) (free : Unowned s.store) : InRun X (s.discardEntry e rest) := by
  have shown := h.setView G (State.mayShow_default top)
  have given : InRun X (((s.releaseOpt e.held).releaseOpt s.view.current.held).setView
      { current := ViewContext.liveDefault, stack := rest }) := shown.of_same G (by simp) rfl (by simp) (by simp)
  exact given.complete G _ (by simpa using free)

theorem InRun.runPop (G : Guards X) (h : InRun X s) {n : Nat} {p : Packet} (taken : s.hands n p) :
    InRun X s.runPop := by
  have free : Unowned s.store := h.2.1.unowned (by simp [taken.cmdStage])
  unfold State.runPop
  split
  · exact h.complete G _ free
  · next e rest top =>
    split
    · next source => exact h.restoreEntry G top free (by simp [source])
    · next source => exact h.restoreEntry G top free (by simp [source])
    · next source =>
      split
      · exact h.restoreEntry G top free (by simp [source])
      · exact h.discardEntry G top free
    · split
      · exact h.complete G _ free
      · next busy =>
        have idle : s.enginesIdle = true := by simpa using busy
        split
        · exact h.discardEntry G top free
        · rw [State.useTrav_setCmdStage]
          refine ((h.setStageFor G).useTrav G .popHeader ?_ (by simp) ?_ (by simp)).present G _ _
          · simpa using ((State.enginesIdle_iff s).mp idle).1
          · exact fun _ => ⟨State.cmdStage_engine taken.busy, by simpa using State.deferred_of_awake taken.1 idle⟩

theorem InRun.popHeaderRead (G : Guards X) (h : InRun X s) (a : Answer) : InRun X (s.popHeaderRead a) := by
  have idle := h.idleTrav G
  unfold State.popHeaderRead
  dsimp only
  split
  · next e rest reads top =>
    obtain ⟨copy, free, own⟩ := h.owned reads
    split
    · next part source =>
      split
      · exact idle.complete G _ free
      · split
        · next hd judged =>
          split
          · next good =>
            obtain ⟨bound, length⟩ := judgeChain_bound judged (by simp [good.1])
            refine idle.restoreEntry G top free fun part' shown => ?_
            rw [source] at shown
            cases shown
            exact ⟨show part.offset < s.store.eod by omega, h.1, own rfl, copy⟩
          · exact idle.discardEntry G top free
        · exact idle.discardEntry G top free
    · exact idle
  · exact h

end

end Sys2Proof.Machine

/-! The commands of the store, of setup and of reset keep the engines in order. -/

namespace Sys2Proof.Machine

section
variable {X : State → Prop} {s t : State}

/-! ## RECORD, MARK and the copy engine -/

/-- The checks of RECORD look neither at the command in progress nor at its stage. -/
theorem InRun.runRecord (G : Guards X) (h : InRun X s) {n : Nat} {p : Packet} (taken : s.hands n p) :
    InRun X (s.runRecord p) := by
  have free : Unowned s.store := h.2.1.unowned (by simp [taken.cmdStage])
  unfold State.runRecord
  split
  · exact h.complete G _ free
  · next accepted =>
    obtain ⟨-, -, -, idle, -⟩ := State.checkRecord_accepted accepted
    refine (h.setStageFor G).acceptRecord G (by simpa [State.enginesIdle] using idle) (fun st => ?_)
      fun _ => State.cmdStage_engine taken.busy
    have fixed : ∀ f i v, (s.setCmdStage .engine).pageHeader f i v = s.pageHeader f i v := by
      simp [State.pageHeader, State.slotRec]
    rw [fixed]
    exact (State.mayCopy_record _ _ accepted st).of_same (by simp) (by simp)

theorem InRun.runMark (G : Guards X) (h : InRun X s) {n : Nat} {p : Packet} (taken : s.hands n p) :
    InRun X (s.runMark p) := by
  have free : Unowned s.store := h.2.1.unowned (by simp [taken.cmdStage])
  unfold State.runMark
  split
  · exact h.complete G _ free
  · next accepted =>
    obtain ⟨-, idle, -⟩ := State.checkMark_accepted accepted
    refine (h.setStageFor G).acceptMark G (by simpa [State.enginesIdle] using idle) (fun st => ?_)
      fun _ => State.cmdStage_engine taken.busy
    have fixed : ∀ n, (s.setCmdStage .engine).markHeader n = s.markHeader n := by simp [State.markHeader]
    rw [fixed]
    exact (State.mayCopy_mark _ accepted st).of_same (by simp) (by simp)

/-- What a running copy tells of the other engine and of the command in progress. -/
theorem InRun.copying (h : InRun X s) {c : CopyOp} (running : s.store.copy = some c) :
    s.store.trav = none ∧ (c.trigger = false → s.cmdStage = some .engine) := by
  obtain ⟨-, ⟨one, -, -, copy⟩, -⟩ := h
  refine ⟨?_, copy c running⟩
  rcases one with none | trav
  · rw [none] at running; cases running
  · exact trav

theorem InRun.endCopy (G : Guards X) (h : InRun X s) {c : CopyOp} (running : s.store.copy = some c) :
    InRun X (s.endCopy c) ∧ Unowned (s.endCopy c).store := by
  obtain ⟨trav, -⟩ := h.copying running
  obtain ⟨on, -, x⟩ := h
  have ended : InRun X (s.setStore { s.store with copy := none }) :=
    ⟨on, ⟨.inl rfl, by simp [trav], by simp [trav], nofun⟩, G.copy s none nofun x⟩
  refine ⟨ended.of_same G (State.endCopy_store s c) (by simp [State.endCopy]) (by simp [State.endCopy])
    (by simp [State.endCopy]), ?_⟩
  rw [State.endCopy_store]
  exact unowned_of_idle rfl trav

theorem InRun.copyFailed (G : Guards X) (h : InRun X s) (c : CopyOp) (free : Unowned s.store) :
    InRun X (s.copyFailed c) := by
  unfold State.copyFailed
  split
  · exact h.post G _
  · exact h.complete G _ free

theorem InRun.copyAnswer (G : Guards X) (h : InRun X s) (a : Answer) : InRun X (s.copyAnswer a) := by
  unfold State.copyAnswer
  split
  · exact h
  · next c running =>
    obtain ⟨trav, owned⟩ := h.copying running
    have on : ∀ st, InRun X (s.useCopy { c with stage := st }) := fun st =>
      h.useCopy G { c with stage := st } trav (State.mayCopy_of_running running st) owned
    split
    · obtain ⟨ended, free⟩ := h.endCopy G running
      exact ended.copyFailed G c free
    · split
      · split
        · exact (on _).present G _ _
        · exact (on _).present G _ _
      · exact h.copyFrom G c _ trav (State.mayCopy_of_running running) owned
      · exact (on _).present G _ _
      · exact (on _).present G _ _
      · exact h

theorem InRun.commitAnswer (G : Guards X) (h : InRun X s) (a : Answer) : InRun X (s.commitAnswer a) := by
  unfold State.commitAnswer
  split
  · exact h
  · next c running =>
    obtain ⟨ended, free⟩ := h.endCopy G running
    obtain ⟨trav, -⟩ := h.copying running
    dsimp only
    split
    · have failed := (ended.lost G).copyFailed G c free
      split
      · exact failed.post G _
      · exact failed
    · have moved : InRun X (s.setStore { s.store.committed c with copy := none }) :=
        ⟨h.1, ⟨.inl rfl, by simp [Store.committed, trav], by simp [Store.committed, trav], nofun⟩,
          G.committed s c running h.2.2⟩
      have store : ((s.endCopy c).setStore ((s.endCopy c).store.committed c)).store =
          { s.store.committed c with copy := none } := by
        rw [State.setStore_store, State.endCopy_store]
        rfl
      have done : InRun X ((s.endCopy c).setStore ((s.endCopy c).store.committed c)) :=
        moved.of_same G store (by simp [State.endCopy]) (by simp [State.endCopy]) (by simp [State.endCopy])
      split
      · split
        · exact done.post G _
        · exact done
      · refine done.complete G _ ?_
        rw [store]
        exact unowned_of_idle rfl trav

/-! ## STORE_CLEAR and STORE_PROTECT -/

theorem InRun.runClear (G : Guards X) (h : InRun X s) {n : Nat} {p : Packet} (taken : s.hands n p) :
    InRun X s.runClear := by
  have free : Unowned s.store := h.2.1.unowned (by simp [taken.cmdStage])
  unfold State.runClear
  split
  · exact h.complete G _ free
  · next busy =>
    have idle : s.enginesIdle = true := by simpa using busy
    split
    · exact h.complete G _ free
    · next unused =>
      rw [State.useCopy_setCmdStage]
      refine ((h.setStageFor G).useCopy G _ (by simpa using ((State.enginesIdle_iff s).mp idle).2) ?_ ?_).present G _ _
      · exact .inr (.inl ⟨by simpa using unused, rfl⟩)
      · exact fun _ => State.cmdStage_engine taken.busy

theorem InRun.clearAnswer (G : Guards X) (h : InRun X s) (a : Answer) : InRun X (s.clearAnswer a) := by
  unfold State.clearAnswer
  split
  · exact h
  · next c running =>
    split
    · next clear =>
      obtain ⟨trav, -⟩ := h.copying running
      have store := State.endCopy_store s c
      have done : ∀ x : Store, x.base = s.store.base → x.limit = s.store.limit → x.deferred = s.store.deferred →
          x.trav = s.store.trav → x.copy = none → x.eod = 0 → x.position = some 0 → ∀ o,
            InRun X (((s.endCopy c).setStore x).complete o) := by
        intro x base limit deferred same copy eod position o
        have cleared : InRun X (s.setStore x) :=
          ⟨h.1, ⟨.inl copy, by simp [same, trav], by simp [same, trav], by simp [copy]⟩,
            G.cleared s c x running clear base limit deferred same copy eod position h.2.2⟩
        have ended : InRun X ((s.endCopy c).setStore x) :=
          cleared.of_same G rfl (by simp [State.endCopy]) (by simp [State.endCopy]) (by simp [State.endCopy])
        exact ended.complete G o (unowned_of_idle copy (same.trans trav))
      dsimp only
      rw [store]
      split
      · exact done (Store.clearFailed { s.store with copy := none }) rfl rfl rfl rfl rfl rfl rfl _
      · exact done (Store.cleared { s.store with copy := none }) rfl rfl rfl rfl rfl rfl rfl _
    · exact h

theorem InRun.marks (G : Guards X) (h : InRun X s) (idle : s.enginesIdle = true ∨ Unowned s.store) (x : Store)
    (base : x.base = s.store.base) (limit : x.limit = s.store.limit) (deferred : x.deferred = s.store.deferred)
    (trav : x.trav = s.store.trav) (copy : x.copy = s.store.copy) (eod : x.eod = s.store.eod)
    (position : x.position = s.store.position) (formatted : x.formatted = s.store.formatted) (o : Result) :
    InRun X ((s.setStore x).complete o) := by
  obtain ⟨on, engines, held⟩ := h
  have changed : InRun X (s.setStore x) := by
    refine ⟨on, ?_, G.marks s x base limit deferred trav copy eod position held⟩
    unfold Engines
    rw [State.setStore_store, copy, trav, deferred, formatted, eod]
    exact engines
  refine changed.complete G o ?_
  rcases idle with idle | free
  · obtain ⟨c, t⟩ := (State.enginesIdle_iff s).mp idle
    exact unowned_of_idle (copy.trans c) (trav.trans t)
  · unfold Unowned
    rw [State.setStore_store, trav, copy]
    exact free

/-! ## MOVE and ADVANCE -/

/-- The traversal engine is in use for the command in progress, or its next step is judged. -/
theorem InRun.moveStep (G : Guards X) (h : InRun X s) (m : MoveMode) (l n : Nat) (copy : s.store.copy = none)
    (engine : s.cmdStage = some .engine) (deferred : s.store.deferred = none) : InRun X (s.moveStep m l n) := by
  have stops : ∀ o, InRun X (s.idleTrav.complete o) := fun o =>
    (h.idleTrav G).complete G o (unowned_of_idle copy rfl)
  have reads : ∀ st, InRun X (s.useTrav (.move m l n st)) := fun st =>
    h.useTrav G _ copy (by simp) (fun _ => ⟨engine, deferred⟩) (by simp)
  unfold State.moveStep
  repeat' split
  all_goals first
    | exact stops _
    | exact (reads _).present G _ _

theorem InRun.runTraversal (G : Guards X) (h : InRun X s) {m : Option MoveMode} {k : Nat} (taken : s.moves m k)
    (mode : MoveMode) (n : Nat) : InRun X (s.runTraversal mode n) := by
  have free : Unowned s.store := h.2.1.unowned (by simp [taken.cmdStage])
  obtain ⟨p, taken, -⟩ := taken
  unfold State.runTraversal
  split
  · exact h.complete G _ free
  · next busy =>
    have idle : s.enginesIdle = true := by simpa using busy
    repeat' split
    all_goals first
      | exact h.complete G _ free
      | exact (h.setStageFor G).moveStep G _ _ _ (by simpa using ((State.enginesIdle_iff s).mp idle).1)
          (State.cmdStage_engine taken.busy) (by simpa using State.deferred_of_awake taken.1 idle)

theorem InRun.moveRead (G : Guards X) (h : InRun X s) (a : Answer) : InRun X (s.moveRead a) := by
  unfold State.moveRead
  split
  · next m l n st p reads position =>
    obtain ⟨copy, free, own⟩ := h.owned reads
    have deferred := own rfl
    have engine : s.cmdStage = some .engine := by
      obtain ⟨-, ⟨-, trav, -, -⟩, -⟩ := h
      exact (trav _ reads rfl).1
    have lost : ∀ l n, InRun X (s.moveLost l n) := fun _ _ =>
      ((h.lost G).idleTrav G).complete G _ (unowned_of_idle copy rfl)
    have pass : ∀ d k, d ≤ s.store.eod ∨ d ≤ p → InRun X (s.movePass m l n d k) := by
      intro d k bound
      have moved : InRun X (s.setPosition (some d)) := h.setPosition G (by
        rintro _ ⟨⟩
        exact bound.imp id fun le => ⟨p, position, le⟩)
      have stops : ∀ o, InRun X ((s.setPosition (some d)).idleTrav.complete o) := fun o =>
        (moved.idleTrav G).complete G o (unowned_of_idle copy rfl)
      unfold State.movePass
      dsimp only
      repeat' split
      all_goals first
        | exact stops _
        | exact moved.moveStep G _ _ _ copy engine deferred
    split
    · exact (h.idleTrav G).complete G _ free
    · split
      · split
        · exact lost _ _
        · next hd judged =>
          split
          · exact lost _ _
          · next record => exact pass _ _ (.inl (judgeChain_bound judged record).1)
      · dsimp only
        split
        · exact (h.useTrav G _ copy (by simp) (fun _ => ⟨engine, deferred⟩) (by simp)).present G _ _
        · exact lost _ _
      · split
        · exact lost _ _
        · split
          · exact pass _ _ (.inr (Nat.sub_le _ _))
          · exact lost _ _
  · exact h

theorem InRun.advanceRead (G : Guards X) (h : InRun X s) (a : Answer) : InRun X (s.advanceRead a) := by
  have idle := h.idleTrav G
  have lost := ((h.lost G).idleTrav G).post G .positionLost
  unfold State.advanceRead
  split
  · next passed p reads position =>
    obtain ⟨copy, -, -⟩ := h.owned reads
    split
    · exact idle.of_same G rfl rfl rfl rfl
    · split
      · exact lost
      · next hd judged =>
        split
        · exact lost
        · exact idle.post G _
        · next kind =>
          obtain ⟨bound, length⟩ := judgeChain_bound judged (by simp [kind])
          split
          · exact InRun.advanceAt G (h.setPosition G (by rintro _ ⟨⟩; exact .inl bound)) _ _ copy
          · split
            · exact idle
            · next waits =>
              have none : s.store.deferred = none := by simpa using waits
              have may : s.idleTrav.MayShow { s.view with current := { s.view.current with
                  source := .page { offset := p, serial := hd.serial, format := hd.format, w := hd.w, h := hd.h } } } :=
                ⟨fun current stack => ⟨current, stack⟩, .inl (Nat.le_refl _), fun part shown => by
                  cases shown
                  exact .inr ⟨show p < s.store.eod by omega, h.1, none, copy⟩⟩
              exact (idle.setView G may).of_same G (by simp [State.advanceSource, State.setCurrent])
                (by simp [State.advanceSource, State.setCurrent, State.idleTrav]) (by simp [State.advanceSource, State.setCurrent])
                (by simp [State.advanceSource, State.setCurrent])
  · exact h

/-! ## The mount scan -/

theorem InRun.endScan (G : Guards X) (idle : InRun X s.idleTrav) (copy : s.store.copy = none) : InRun X s.endScan := by
  have free : Unowned s.idleTrav.store := unowned_of_idle copy rfl
  unfold State.endScan
  dsimp only
  split
  · exact idle.of_same G rfl rfl rfl rfl
  · repeat' split
    all_goals first
      | exact idle.complete G _ free
      | exact idle

theorem InRun.scanRead (G : Guards X) (h : InRun X s) (a : Answer) : InRun X (s.scanRead a) := by
  unfold State.scanRead
  split
  · next p last reads =>
    obtain ⟨copy, -, -⟩ := h.owned reads
    obtain ⟨on, ⟨one, trav, scan, owned⟩, x⟩ := h
    obtain ⟨unformatted, empty⟩ := scan p last reads
    have h : InRun X s := ⟨on, ⟨one, trav, scan, owned⟩, x⟩
    split
    · exact (h.idleTrav G).endScan G copy
    · split
      · exact (h.idleTrav G).endScan G copy
      · next hd judged =>
        split
        · have idle := h.idleTrav G
          have found := fun n => G.found s.idleTrav p n empty (judgeScan_bound judged) idle.2.2
          exact InRun.endScan G ⟨on, ⟨.inr rfl, nofun, nofun, owned⟩, G.same _ _ rfl rfl rfl (found _)⟩ copy
        · exact (h.useTrav G _ copy (by simp) (by simp [TravOp.ofCommand])
            (by rintro p last ⟨⟩; exact ⟨unformatted, empty⟩)).present G _ _
  · exact h

end

end Sys2Proof.Machine

/-! RESTART, setup and the deferred scan keep the engines in order; every command does. -/

namespace Sys2Proof.Machine

section
variable {X : State → Prop} {s t : State}

/-! ## RESTART -/

/-- RESTART on the View Controller changes slots and view alone (R98). -/
theorem State.restartView_frame (s : State) :
    ∃ m, s.restartView = (s.setSlots m).setView ViewController.reset := by
  unfold State.restartView
  dsimp only
  rw [State.releaseStack_frame s.view.stack s]
  generalize (s.view.stack.foldl (fun t e => t.releaseOpt e.held) s).slots = m
  cases s.view.current.held with
  | none => exact ⟨m, rfl⟩
  | some i =>
    refine ⟨((s.setSlots m).releaseOpt (some i)).slots, ?_⟩
    simp only [State.releaseOpt, State.releaseHold]
    split <;> rfl

theorem State.restart_view (s : State) : s.restart.view = ViewController.reset := by
  obtain ⟨m, frame⟩ := s.restartStore.restartView_frame
  simp only [State.restart, frame]
  rfl

theorem State.restart_store (s : State) : s.restart.store = s.restartStore.store := by
  obtain ⟨m, frame⟩ := s.restartStore.restartView_frame
  simp only [State.restart, frame]
  rfl

theorem State.restart_bridge (s : State) : s.restart.bridge = s.bridge := by
  obtain ⟨m, frame⟩ := s.restartStore.restartView_frame
  simp only [State.restart, frame]
  change s.restartStore.bridge = s.bridge
  simp [State.restartStore]

theorem State.restart_cmd (s : State) : s.restart.cu.cmd = none := rfl

/-- RESTART ends a copy and a traversal but leaves a scan; an aborted clear leaves an UNFORMATTED, empty store
(R110, R117, R119, R131). -/
theorem State.restarted (s : State) : s.store.Restarted s.restart.store := by
  rw [State.restart_store]
  unfold State.restartStore
  dsimp only
  rw [State.setStore_store, State.setPort_store, State.releaseOpt_store]
  refine ⟨?_, ?_, ?_, rfl, ?_, ?_⟩
  · split <;> rfl
  · split <;> rfl
  · split <;> rfl
  · have same : (if s.port.grantedFor (· == .clearWrite) = true then s.store.clearFailed else s.store).trav
        = s.store.trav := by split <;> rfl
    dsimp only
    rw [same]
    split
    · next p last scans => exact .inr ⟨p, last, scans, rfl⟩
    · exact .inl rfl
  · by_cases clearing : s.port.grantedFor (· == .clearWrite) = true
    · right
      simp only [if_pos clearing, Store.clearFailed]
      refine ⟨trivial, trivial, ?_⟩
      split
      · exact .inr rfl
      · exact .inl rfl
    · left
      simp only [if_neg clearing]
      refine ⟨trivial, trivial, ?_⟩
      split
      · exact .inr rfl
      · exact .inl rfl

theorem Engaged.restart (G : Guards X) (h : Engaged X s) : Engaged X s.restart := by
  obtain ⟨engines, x⟩ := h
  obtain ⟨⟨one, trav, scan, copy⟩, quiet⟩ := (engineInv_iff s).mp engines
  have after := s.restarted
  have view := s.restart_view
  have bridge := s.restart_bridge
  have cmd := s.restart_cmd
  generalize s.restart = t at after view bridge cmd
  obtain ⟨base, limit, deferred, none, scans, found⟩ := after
  have owned : ∀ op, t.store.trav = some op → ∃ p last, op = .scan p last ∧ s.store.trav = some (.scan p last) := by
    intro op hop
    rcases scans with idle | ⟨p, last, was, now⟩
    · rw [idle] at hop; cases hop
    · rw [now] at hop; cases hop; exact ⟨p, last, rfl, was⟩
  refine ⟨(engineInv_iff t).mpr ⟨⟨.inl none, fun op hop own => ?_, fun p last hop => ?_, fun c hc => ?_⟩,
    fun bypass => ?_⟩, G.restart s t ⟨base, limit, deferred, none, scans, found⟩ view (by rw [bridge]) x⟩
  · obtain ⟨p, last, rfl, -⟩ := owned op hop
    cases own
  · obtain ⟨p', last', e, was⟩ := owned _ hop
    obtain ⟨unformatted, empty⟩ := scan p' last' was
    rcases found with ⟨eod, formatted, -⟩ | ⟨eod, formatted, -⟩
    · exact ⟨formatted.trans unformatted, eod.trans empty⟩
    · exact ⟨formatted, eod⟩
  · rw [none] at hc; cases hc
  · rw [bridge] at bypass
    obtain ⟨idle, waits, held, -⟩ := quiet bypass
    have free : t.store.trav = Option.none := by
      rcases scans with idle | ⟨p, last, was, -⟩
      · exact idle
      · rw [((State.enginesIdle_iff s).mp idle).2] at was; cases was
    refine ⟨(State.enginesIdle_iff t).mpr ⟨none, free⟩, deferred.trans waits, ?_, fun n p taken => ?_⟩
    · simpa only [State.holdsPiece, bridge] using held
    · obtain ⟨busy, -⟩ := State.dispatched_eq.mp taken
      rw [cmd] at busy; cases busy

/-! ## Packets -/

theorem Engaged.packetAnswer (G : Guards X) (h : Engaged X s) (a : Answer) : Engaged X (s.packetAnswer a) := by
  unfold State.packetAnswer
  split
  · next c hc =>
    split
    · next fetch =>
      have free : Unowned s.store := h.unowned (by simp [State.cmdStage, hc, fetch])
      split
      · exact h.complete G _ free
      · generalize Packet.ofWords a.words = pkt
        have refused : ∀ o, Engaged X ((s.setCu { s.cu with
            cmd := some { packet := some pkt, stage := .dispatched } }).complete o) := fun o =>
          h.of_cmd G (by simp) (by simp) (by simp) (.inl free)
            (fun _ n p taken => by rw [State.complete_dispatched] at taken; cases taken)
            (State.holdsPiece_same (by simp))
        unfold State.judgePacket
        dsimp only
        split
        · exact refused _
        · split
          · exact refused _
          · next judged =>
            refine h.of_cmd G rfl rfl rfl (.inl free) (fun bypass n p taken => ?_) (State.holdsPiece_same rfl)
            obtain ⟨busy, code⟩ := State.dispatched_eq.mp taken
            cases busy
            subst code
            refine Classical.byContradiction fun other => ?_
            exact judged ⟨bypass, by omega, by omega⟩
    · exact h
  · exact h

/-! ## Setup -/

/-- A scan begins where no copy runs. -/
theorem engines_scanning {x : Store} {c : RegionChange} {st : Option CmdStage} (copy : x.copy = none) :
    Engines (x.scanning c) st := by
  refine ⟨.inl copy, ?_, ?_, ?_⟩
  · rintro _ ⟨⟩ own
    cases own
  · exact fun _ _ _ => ⟨rfl, rfl⟩
  · intro c' hc
    rw [show (x.scanning c).copy = x.copy from rfl, copy] at hc
    cases hc

theorem Engines.deferred {x : Store} {st : Option CmdStage} (h : Engines x st) (free : Unowned x)
    (d : Option RegionChange) : Engines { x with deferred := d } st := by
  obtain ⟨one, -, scan, copy⟩ := h
  refine ⟨one, fun op hop own => ?_, scan, copy⟩
  rw [free.1 op hop] at own
  cases own

/-- The store region of a valid block (R155). -/
theorem SetupBlock.Valid.regionChange {page : Span} {b : SetupBlock} (v : b.Valid page) :
    b.regionChange.base + 65536 ≤ b.regionChange.limit := (v 13 (by decide)).1

theorem Engaged.applyBypass (G : Guards X) (h : Engaged X s) (bypass : s.bridge.run = .bypass) {b : SetupBlock}
    {page : Span} (valid : b.Valid page) : Engaged X (s.applyBypass b) := by
  obtain ⟨engines, x⟩ := h
  obtain ⟨-, quiet⟩ := (engineInv_iff s).mp engines
  obtain ⟨idle, -⟩ := quiet bypass
  obtain ⟨copy, -⟩ := (State.enginesIdle_iff s).mp idle
  exact InRun.engaged ⟨rfl, engines_scanning copy,
    G.scan s _ b.regionChange copy rfl rfl (.inr bypass) (.inr ⟨valid.regionChange, .inr bypass⟩) x⟩

theorem InRun.applyRun (G : Guards X) (h : InRun X s) (free : Unowned s.store) {b : SetupBlock} {page : Span}
    (valid : b.Valid page) : InRun X (s.applyRun b) := by
  have begun : InRun X (s.takeRun b) := h.of_same G rfl rfl rfl rfl
  unfold State.applyRun
  split
  · exact h.complete G _ free
  · split
    · exact h.complete G _ free
    · split
      · exact h.complete G _ free
      · next unused =>
        dsimp only
        split
        · obtain ⟨on, engines, x⟩ := begun
          have margin : InRun X ((s.takeRun b).setStore ((s.takeRun b).store.takeMargin b.margin)) := by
            unfold Store.takeMargin
            split
            · next c waits =>
              exact ⟨on, engines.deferred free _, G.waits _ { c with margin := b.margin }
                (.inl ⟨c, waits, rfl, rfl⟩) x⟩
            · exact ⟨on, engines, G.marks _ _ rfl rfl rfl rfl rfl rfl rfl x⟩
          refine margin.complete G _ ?_
          unfold Store.takeMargin
          split <;> exact free
        · next changed =>
          have none : s.view.current.pageFrom 0 = false := by
            simp only [Bool.not_eq_true', Bool.not_eq_false] at changed
            simpa [changed] using unused
          split
          · next idle =>
            rw [State.startScan_setCmdStage]
            obtain ⟨copy, -⟩ := (State.enginesIdle_iff s).mp idle
            have scans : InRun X ((s.takeRun b).startScan b.regionChange) :=
              ⟨begun.1, engines_scanning copy, G.scan (s.takeRun b) _ b.regionChange copy rfl rfl (.inl rfl)
                (.inr ⟨valid.regionChange, .inl none⟩) begun.2.2⟩
            refine scans.setCmdStage G _ (.inl ⟨?_, ?_⟩)
            · rintro _ ⟨⟩
              rfl
            · intro c hc
              rw [show ((s.takeRun b).startScan b.regionChange).store.copy = s.store.copy from rfl, copy] at hc
              cases hc
          · obtain ⟨on, engines, x⟩ := begun
            have waits : InRun X ((s.takeRun b).setStore { (s.takeRun b).store with deferred := some b.regionChange }) :=
              ⟨on, engines.deferred free _, G.waits _ b.regionChange (.inr ⟨valid.regionChange, none⟩) x⟩
            exact waits.setCmdStage G _ (.inl free)

theorem Engaged.setupRead (G : Guards X) (h : Engaged X s) (a : Answer) : Engaged X (s.setupRead a) := by
  unfold State.setupRead
  split
  · next c hc =>
    split
    · next stage =>
      have free : Unowned s.store := h.unowned (by simp [State.cmdStage, hc, stage])
      split
      · exact h.complete G _ free
      · split
        · exact (h.setCmdStage G _ (by simp) free).presentCommand G _ _
        · unfold State.judgeSetup
          split
          · exact h.complete G _ free
          · next valid =>
            split
            · next bypass =>
              exact (h.setCmdStage G .setupScan (by simp) free).applyBypass G (by simpa using bypass)
                (validateSetup_valid valid)
            · next run => exact ((h.inRun run).applyRun G free (validateSetup_valid valid)).engaged
    · exact h
  · exact h

theorem Engaged.reloadRead (G : Guards X) (h : Engaged X s) (a : Answer)
    (reads : s.reloadReads = true → s.bridge.run = .bypass) : Engaged X (s.reloadRead a) := by
  have other : ∀ u : CommandUnit, u.cmd = s.cu.cmd → Engaged X (s.setCu u) := fun u cmd =>
    h.of_same G rfl rfl rfl cmd (State.holdsPiece_same rfl)
  have again : ∀ addr got from_, Engaged X (s.reloadBlock addr got from_) := fun _ _ _ =>
    (other { s.cu with reload := _ } rfl).of_same G rfl rfl rfl rfl (State.holdsPiece_same rfl)
  have ended : Engaged X s.reloadInvalid := other _ rfl
  unfold State.reloadRead
  split
  · dsimp only
    repeat' split
    all_goals first | exact ended | exact again _ _ _
  · next stage =>
    have bypass : s.bridge.run = .bypass := reads (by simp [State.reloadReads, stage])
    dsimp only
    repeat' split
    all_goals first
      | exact ended
      | exact again _ _ _
      | exact (other { s.cu with reload := some .scan } rfl).applyBypass G bypass (validateSetup_valid (by assumption))
  · exact h

/-- A region change that has waited takes effect once no operation runs (R108, R159). -/
theorem Engaged.deferredScan (G : Guards X) (h : Engaged X s) (due : s.mountDue = true) {c : RegionChange}
    (waits : s.store.deferred = some c) : Engaged X (s.setupScans.startScan c) := by
  have on := h.1.run_of_busy (.inr (.inr (by simp [waits])))
  simp only [State.mountDue, Bool.and_eq_true] at due
  obtain ⟨copy, trav⟩ := (State.enginesIdle_iff s).mp due.2
  have run := h.inRun on
  have begun : InRun X s.setupScans ∧ s.setupScans.store = s.store := by
    unfold State.setupScans
    repeat' split
    all_goals first
      | exact ⟨run.setCmdStage G _ (.inl (unowned_of_idle copy trav)), by simp⟩
      | exact ⟨run, rfl⟩
  obtain ⟨begun, store⟩ := begun
  exact InRun.engaged ⟨begun.1, engines_scanning (by rw [store]; exact copy),
    G.scan _ _ c (by rw [store]; exact copy) rfl rfl (.inl rfl) (.inl ⟨begun.1, by rw [store]; exact waits⟩) begun.2.2⟩

/-! ## TRIGGERS -/

theorem Engaged.listFrom (G : Guards X) (h : Engaged X s) (free : Unowned s.store) (addr total : Nat)
    (got : List Word) : Engaged X (s.listFrom addr total got) := by
  have loaded : ∀ ts, Engaged X (s.setTimer { s.timer with triggers := ts }) := fun _ =>
    h.of_same G rfl rfl rfl rfl (State.holdsPiece_same rfl)
  unfold State.listFrom State.loadList
  dsimp only
  repeat' split
  all_goals first
    | exact h.complete G _ free
    | exact (loaded _).complete G _ free
    | exact (h.setCmdStage G _ (by simp) free).presentCommand G _ _

theorem Engaged.listRead (G : Guards X) (h : Engaged X s) (a : Answer) : Engaged X (s.listRead a) := by
  unfold State.listRead
  split
  · next c hc =>
    split
    · next stage =>
      have free : Unowned s.store := h.unowned (by simp [State.cmdStage, hc, stage])
      split
      · exact h.complete G _ free
      · exact h.listFrom G free _ _ _
    · exact h
  · exact h

/-! ## Every command -/

theorem InRun.reposition (G : Guards X) (h : InRun X s) {m : Option MoveMode} {k : Nat} (taken : s.moves m k)
    {x : Store} (moved : s.enginesIdle = true → InRun X ((s.setStore x).complete (Result.done 0))) :
    InRun X (s.runReposition x) := by
  have free : Unowned s.store := h.2.1.unowned (by simp [taken.cmdStage])
  unfold State.runReposition
  split
  · exact h.complete G _ free
  · next busy =>
    split
    · exact h.complete G _ free
    · exact moved (by simpa using busy)

/-- An answer of an engine in use comes in RUN. -/
theorem Engaged.while_busy (h : Engaged X s) {f : State → State} (idle : s.store.copy = none → s.store.trav = none → f s = s)
    (run : InRun X s → InRun X (f s)) : Engaged X (f s) := by
  by_cases busy : s.store.copy = none ∧ s.store.trav = none
  · rw [idle busy.1 busy.2]; exact h
  · exact (run (h.inRun (h.1.run_of_busy ((Classical.not_and_iff_not_or_not.mp busy).imp_right .inl)))).engaged

/-- Every command keeps the engines in order, with a predicate that the changes of store and view keep. -/
theorem Runs.engaged (G : Guards X) {c : Instr} (run : Runs c s t) (setup : SetupInv s) (h : Engaged X s) :
    Engaged X t := by
  have K := engaged_keeps G
  have freed : Engaged X s.portFreed := K.freed h
  have taken : ∀ {n p}, s.hands n p → 3 ≤ n → InRun X s := fun hands other => h.inRun (h.1.run_of_hands hands other)
  have moves : ∀ {m n}, s.moves m n → InRun X s := fun ⟨p, hands, _⟩ => taken hands (by decide)
  refine run.keeps K (fun _ _ h => h.of_same G rfl rfl rfl rfl (State.holdsPiece_same rfl)) (fun special => ?_) h
  cases run with
  | resetNFall =>
    refine ⟨(engineInv_iff _).mpr ⟨⟨.inl rfl, nofun, nofun, nofun⟩, fun _ => ⟨rfl, rfl, rfl, fun n p busy => ?_⟩⟩,
      G.reset _⟩
    cases (State.dispatched_eq.mp busy).1
  | resetNRise => exact h.of_same G rfl rfl rfl rfl (fun held => .inr held)
  | localTime => exact h.of_same G rfl rfl rfl rfl (State.holdsPiece_same rfl)
  | deferredScan _ due waits => exact h.deferredScan G due waits
  | restart => exact K.endReport _ _ _ (h.restart G)
  | restartClosed => exact K.endReport _ _ _ (K.setControl _ _ h)
  | luma front =>
    exact K.lumaPiece _ _ (front.run (.inl rfl)) (fun u on hu => ((Engaged.inRun hu on).frameStart G).engaged) h
  | display front => exact ((h.inRun (front.run (by simp))).displayPiece G _ _).engaged
  | packetAnswer => exact freed.packetAnswer G _
  | setupRead => exact freed.setupRead G _
  | reloadRead => exact freed.reloadRead G _ setup.2.2.1
  | scanRead =>
    refine freed.while_busy (f := fun u => u.scanRead _) (fun _ trav => ?_) (fun on => on.scanRead G _)
    simp only [State.scanRead, trav]
  | statusClear hands one =>
    have done := K.completeWith s.statusResult true (by simp [hands.cmdStage]) h
    exact done.of_same G rfl rfl rfl rfl (fun held => .inr held)
  | view hands => exact ((taken hands (by decide)).runView G hands _ _).engaged
  | viewPush hands => exact ((taken hands (by decide)).runView G hands _ _).engaged
  | viewPop hands => exact ((taken hands (by decide)).runPop G hands).engaged
  | viewHeader =>
    refine freed.while_busy (f := fun u => u.viewHeaderRead _) (fun _ trav => ?_) (fun on => on.viewHeaderRead G _)
    simp only [State.viewHeaderRead, trav]
  | popHeader =>
    refine freed.while_busy (f := fun u => u.popHeaderRead _) (fun _ trav => ?_) (fun on => on.popHeaderRead G _)
    simp only [State.popHeaderRead, trav]
  | record hands => exact ((taken hands (by decide)).runRecord G hands).engaged
  | mark hands => exact ((taken hands (by decide)).runMark G hands).engaged
  | copyAnswer =>
    refine freed.while_busy (f := fun u => u.copyAnswer _) (fun copy _ => ?_) (fun on => on.copyAnswer G _)
    simp only [State.copyAnswer, copy]
  | commit =>
    refine freed.while_busy (f := fun u => u.commitAnswer _) (fun copy _ => ?_) (fun on => on.commitAnswer G _)
    simp only [State.commitAnswer, copy]
  | storeClear hands => exact ((taken hands (by decide)).runClear G hands).engaged
  | clearAnswer =>
    refine freed.while_busy (f := fun u => u.clearAnswer _) (fun copy _ => ?_) (fun on => on.clearAnswer G _)
    simp only [State.clearAnswer, copy]
  | storeProtect hands =>
    exact ((taken hands (by decide)).marks G (.inr (h.unowned (by simp [hands.cmdStage])))
      { s.store with protect := true } rfl rfl rfl rfl rfl rfl
      rfl rfl _).engaged
  | stepFwd hands | stepRev hands | skipFwd hands | skipRev hands =>
    exact ((moves hands).runTraversal G hands _ _).engaged
  | rewind hands =>
    refine ((moves hands).reposition G hands (fun idle => ?_)).engaged
    exact InRun.marks G (h := (moves hands).setPosition G (p := some 0) (by rintro _ ⟨⟩; exact .inl (Nat.zero_le _)))
      (.inl idle) { s.store with position := some 0, lesson := 0 } rfl rfl rfl rfl rfl rfl rfl rfl _
  | toEnd hands =>
    refine ((moves hands).reposition G hands (fun idle => ?_)).engaged
    exact InRun.marks G (h := (moves hands).setPosition G (p := some s.store.eod) (by rintro _ ⟨⟩; exact .inl (Nat.le_refl _)))
      (.inl idle) _ rfl rfl rfl rfl rfl rfl rfl rfl _
  | moveRead =>
    refine freed.while_busy (f := fun u => u.moveRead _) (fun _ trav => ?_) (fun on => on.moveRead G _)
    simp only [State.moveRead, trav]
  | advanceRead =>
    refine freed.while_busy (f := fun u => u.advanceRead _) (fun _ trav => ?_) (fun on => on.advanceRead G _)
    simp only [State.advanceRead, trav]
  | triggers hands =>
    have free : Unowned s.store := h.unowned (by simp [hands.cmdStage])
    unfold State.runTriggers
    dsimp only
    split
    · exact h.complete G _ free
    · exact h.listFrom G free _ _ _
  | listRead => exact freed.listRead G _
  | badMode _ sel => rcases sel with rfl | rfl | rfl | rfl | rfl | rfl <;> exact K.complete _ (by simp [State.moves.cmdStage ‹_›]) h
  | _ => cases special

/-- EngineInv and a predicate that the changes of store and view keep are kept by every step. -/
theorem step_engaged (G : Guards X) (setup : SetupInv s) (before : Engaged X s) (h : step s = .next t) :
    Engaged X t :=
  step_keeps_of_setup (P := Engaged X) (fun _ _ h => h.of_same G rfl rfl rfl rfl (State.holdsPiece_same rfl))
    (fun _ _ h => h.of_same G rfl rfl rfl rfl (State.holdsPiece_same rfl)) (fun run setup h => run.engaged G setup h)
    setup before h

end

end Sys2Proof.Machine

/-! The invariants of the view (R83, R84), of the page shown (R83, R106) and of the store (R99, R103, R107): each
is kept by the changes that the store and the view go through. -/

namespace Sys2Proof.Machine

/-! ## The ranges of the contexts and the depth of the stack (R83, R84) -/

/-- The invariants of the view but for the engines. -/
def ViewGood (s : State) : Prop :=
  s.view.current.inRange ∧ (∀ e ∈ s.view.stack, e.ctx.inRange) ∧ s.view.stack.length ≤ 4
    ∧ ∀ q push, s.store.trav = some (.viewHeader q push) →
        q.valuesGood = true ∧ (push = true → s.view.stack.length ≤ 3)

theorem viewGood_iff (s : State) : ContextInv s ∧ StackInv s ↔ Engaged ViewGood s := by
  unfold ContextInv StackInv Engaged ViewGood
  constructor
  · rintro ⟨⟨current, stack, values⟩, engines, depth, room⟩
    exact ⟨engines, current, stack, depth, fun q push reads =>
      ⟨values q push reads, by rintro rfl; exact room q reads⟩⟩
  · rintro ⟨engines, current, stack, depth, reads⟩
    exact ⟨⟨current, stack, fun q push r => (reads q push r).1⟩, engines, depth, fun q r => (reads q true r).2 rfl⟩

/-- A change of the store leaves the view where it starts no header read of VIEW. -/
theorem ViewGood.of_view {s t : State} (h : ViewGood s) (view : t.view = s.view)
    (reads : ∀ q push, t.store.trav = some (.viewHeader q push) → s.store.trav = some (.viewHeader q push)) :
    ViewGood t := by
  unfold ViewGood
  rw [view]
  exact ⟨h.1, h.2.1, h.2.2.1, fun q push r => h.2.2.2 q push (reads q push r)⟩

theorem viewGood_default {s : State} (view : s.view = ViewController.reset)
    (reads : ∀ q push, s.store.trav ≠ some (.viewHeader q push)) : ViewGood s := by
  unfold ViewGood
  rw [view]
  exact ⟨liveDefault_inRange, by simp [ViewController.reset], by simp [ViewController.reset],
    fun q push r => absurd r (reads q push)⟩

theorem viewGood_guards : Guards ViewGood where
  same _ _ store view _ h := h.of_view view fun q push r => by rwa [← store]
  view s v may h := by
    obtain ⟨current, stack, depth, reads⟩ := h
    obtain ⟨current', stack'⟩ := may.ranges current stack
    refine ⟨current', stack', ?_, fun q push r => ⟨(reads q push r).1, fun pushed => ?_⟩⟩
    · rcases may.depth with less | ⟨room, -⟩
      · exact Nat.le_trans less depth
      · exact room
    · rcases may.depth with less | ⟨-, other⟩
      · exact Nat.le_trans less ((reads q push r).2 pushed)
      · subst pushed
        exact absurd r (other q)
  trav s op room h := by
    obtain ⟨current, stack, depth, -⟩ := h
    exact ⟨current, stack, depth, room⟩
  shown s q push c reads range _ h := by
    obtain ⟨current, stack, depth, room⟩ := h
    obtain ⟨values, short⟩ := room q push reads
    unfold State.stackGiven
    refine ⟨range values current, ?_, ?_, nofun⟩
    · dsimp only [State.setView_view]
      split
      · exact List.forall_mem_cons.mpr ⟨current, stack⟩
      · exact stack
    · dsimp only [State.setView_view]
      split
      · next pushed => exact Nat.succ_le_succ (short pushed)
      · exact depth
  copy _ _ _ h := h
  position _ _ _ h := h
  committed _ _ _ h := h
  cleared _ _ _ _ _ _ _ _ trav _ _ _ h := h.of_view rfl fun q push r => by rwa [← trav]
  marks _ _ _ _ _ trav _ _ _ h := h.of_view rfl fun q push r => by rwa [← trav]
  waits _ _ _ h := h
  scan _ _ _ _ store view _ _ h := h.of_view view fun q push r => by rw [store] at r; cases r
  found _ _ _ _ _ h := h
  restart _ _ after view _ _ := viewGood_default view fun q push r => by
    rcases after.trav with idle | ⟨p, last, -, scans⟩
    · rw [idle] at r; cases r
    · rw [scans] at r; cases r
  reset _ := viewGood_default rfl nofun

/-- Settles O10. -/
theorem viewInvKept : Obligations.ViewInvKept := fun s t setup contexts stack h =>
  (viewGood_iff t).mpr (step_engaged viewGood_guards setup ((viewGood_iff s).mp ⟨contexts, stack⟩) h)

/-! ## The page shown (R83, R106) -/

/-- The invariant of the page shown but for the engines. -/
def PageGood (s : State) : Prop :=
  ∀ part, s.view.current.source = .page part →
    part.offset < s.store.eod ∧ s.bridge.run = .run ∧ s.store.deferred = none
      ∧ ∀ c, s.store.copy = some c → c.job ≠ .clear ∧ part.offset < c.offset

theorem State.currentPage_iff (s : State) (p : Nat) :
    s.currentPage = some p ↔ ∃ part, s.view.current.source = .page part ∧ part.offset = p := by
  unfold State.currentPage
  split
  · next part source => simp [source]
  · next other =>
    refine ⟨nofun, ?_⟩
    rintro ⟨part, source, -⟩
    exact absurd source (other part)

theorem pageInv_iff (s : State) : PageInv s ↔ Engaged PageGood s := by
  unfold PageInv Engaged PageGood
  refine and_congr_right fun _ => ⟨fun h part source => h _ ((s.currentPage_iff _).mpr ⟨part, source, rfl⟩), ?_⟩
  intro h p page
  obtain ⟨part, source, rfl⟩ := (s.currentPage_iff _).mp page
  exact h part source

theorem ViewContext.pageFrom_eq_false {c : ViewContext} {p : Nat} (h : c.pageFrom p = false) :
    ∀ part, c.source = .page part → part.offset < p := by
  intro part source
  simpa [ViewContext.pageFrom, source] using h

theorem ViewContext.not_page {c : ViewContext} (h : c.pageFrom 0 = false) : ∀ part, c.source ≠ .page part :=
  fun part source => Nat.not_lt_zero _ (ViewContext.pageFrom_eq_false h part source)

/-- A change that keeps the view, the end of data and the copy keeps the page shown. -/
theorem PageGood.of_same {s t : State} (h : PageGood s) (view : t.view = s.view) (eod : t.store.eod = s.store.eod)
    (run : t.bridge.run = s.bridge.run) (deferred : t.store.deferred = s.store.deferred)
    (copy : t.store.copy = s.store.copy) : PageGood t := by
  unfold PageGood
  rw [view, eod, run, deferred, copy]
  exact h

/-- Where no page is shown nothing is asked. -/
theorem pageGood_of_none {s : State} (none : ∀ part, s.view.current.source ≠ .page part) : PageGood s :=
  fun part source => absurd source (none part)

theorem pageGood_guards : Guards PageGood where
  same _ _ store view run h := h.of_same view (by rw [store]) run (by rw [store]) (by rw [store])
  view s v may h part source := by
    rcases may.page part source with was | ⟨below, on, waits, copy⟩
    · exact h part was
    · exact ⟨below, on, waits, fun c running => by
        rw [show (s.setView v).store = s.store from rfl, copy] at running
        cases running⟩
  trav _ _ _ h := h
  shown s q push c reads _ page _ part source := by
    obtain ⟨below, on, waits, copy⟩ := page part source
    exact ⟨below, on, waits, fun c' running => by
      rw [show ((s.setStore { s.store with trav := none }).setView _).store.copy = s.store.copy from rfl, copy] at running
      cases running⟩
  copy s c may h part source := by
    obtain ⟨below, on, waits, old⟩ := h part source
    refine ⟨below, on, waits, ?_⟩
    rintro d rfl
    rcases may d rfl with ⟨was, running, job, offset, -⟩ | ⟨unused, -⟩ | ⟨other, unused, -⟩
    · rw [job, offset]
      exact old was running
    · exact absurd source (ViewContext.not_page unused part)
    · exact ⟨other, ViewContext.pageFrom_eq_false unused part source⟩
  position _ _ _ h := h
  committed s c running h part source := by
    obtain ⟨-, on, waits, old⟩ := h part source
    obtain ⟨-, before⟩ := old c running
    exact ⟨Nat.lt_of_lt_of_le before (Nat.le_add_right _ _), on, waits, nofun⟩
  cleared s c x running clear _ _ _ _ _ _ _ h :=
    pageGood_of_none fun part source => ((h part source).2.2.2 c running).1 clear
  marks _ _ _ _ deferred _ copy eod _ h := h.of_same rfl eod rfl deferred copy
  waits s c change h := pageGood_of_none fun part source => by
    obtain ⟨-, -, none, -⟩ := h part source
    rcases change with ⟨d, waits, -⟩ | ⟨-, unused⟩
    · rw [none] at waits; cases waits
    · exact ViewContext.not_page unused part source
  scan s t c _ _ view _ why h := pageGood_of_none fun part source => by
    rw [view] at source
    obtain ⟨-, on, none, -⟩ := h part source
    rcases why with ⟨-, waits⟩ | ⟨-, unused | bypass⟩
    · rw [none] at waits; cases waits
    · exact ViewContext.not_page unused part source
    · cases on.symm.trans bypass
  found s p n empty _ h := pageGood_of_none fun part source => by
    obtain ⟨below, -⟩ := h part source
    omega
  restart _ _ _ view _ _ := pageGood_of_none fun part source => by rw [view] at source; cases source
  reset _ := pageGood_of_none nofun

/-- Settles O12. -/
theorem pageInvKept : Obligations.PageInvKept := fun s t setup before h =>
  (pageInv_iff t).mpr (step_engaged pageGood_guards setup ((pageInv_iff s).mp before) h)

/-! ## The position and the space of the store (R99, R103, R107) -/

/-- What the store asks of its space while the part is in RUN. -/
structure Store.Roomy (x : Store) : Prop where
  size : 65536 ≤ x.limit - x.base
  endFits : x.eod + 32 ≤ x.limit - x.base
  change : ∀ d, x.deferred = some d → d.base + 65536 ≤ d.limit
  copyFits : ∀ c, x.copy = some c → c.offset + c.header.length + 32 ≤ x.limit - x.base

theorem Store.Roomy.of_position {x : Store} (h : x.Roomy) (p : Option Nat) : Store.Roomy { x with position := p } :=
  ⟨h.size, h.endFits, h.change, h.copyFits⟩

/-- The invariant of the store but for the engines. -/
def StoreGood (s : State) : Prop :=
  (∀ p, s.store.position = some p → p ≤ s.store.eod) ∧ (s.bridge.run = .run → s.store.Roomy)

theorem storeInv_iff (s : State) : StoreInv s ↔ Engaged StoreGood s := by
  unfold StoreInv Engaged StoreGood State.storeSize
  refine and_congr_right fun _ => and_congr_right fun _ => imp_congr_right fun _ => ?_
  exact ⟨fun ⟨size, endFits, change, copyFits⟩ => ⟨size, endFits, change, copyFits⟩,
    fun ⟨size, endFits, change, copyFits⟩ => ⟨size, endFits, change, copyFits⟩⟩

theorem StoreGood.of_same {s t : State} (h : StoreGood s) (run : t.bridge.run = s.bridge.run)
    (base : t.store.base = s.store.base) (limit : t.store.limit = s.store.limit)
    (deferred : t.store.deferred = s.store.deferred) (copy : t.store.copy = s.store.copy)
    (eod : t.store.eod = s.store.eod) (position : t.store.position = s.store.position) : StoreGood t := by
  obtain ⟨bound, roomy⟩ := h
  unfold StoreGood
  rw [run, position, eod]
  refine ⟨bound, fun on => ?_⟩
  obtain ⟨size, endFits, change, copyFits⟩ := roomy on
  constructor
  · rw [base, limit]; exact size
  · rw [base, limit, eod]; exact endFits
  · rw [deferred]; exact change
  · rw [base, limit, copy]; exact copyFits

/-- A store that has been emptied. -/
theorem StoreGood.emptied {s t : State} (h : StoreGood s) (run : t.bridge.run = s.bridge.run)
    (base : t.store.base = s.store.base) (limit : t.store.limit = s.store.limit)
    (deferred : t.store.deferred = s.store.deferred) (copy : t.store.copy = none) (eod : t.store.eod = 0)
    (position : t.store.position = some 0 ∨ t.store.position = none) : StoreGood t := by
  refine ⟨fun p at_ => ?_, fun on => ?_⟩
  · rcases position with zero | lost
    · rw [zero] at at_; cases at_; exact Nat.zero_le _
    · rw [lost] at at_; cases at_
  · obtain ⟨size, -, change, -⟩ := h.2 (run ▸ on)
    constructor
    · rw [base, limit]; exact size
    · rw [base, limit, eod]; omega
    · rw [deferred]; exact change
    · rw [copy]; nofun

theorem storeGood_guards : Guards StoreGood where
  same _ _ store _ run h := h.of_same run (by rw [store]) (by rw [store]) (by rw [store]) (by rw [store])
    (by rw [store]) (by rw [store])
  view _ _ _ h := h
  trav _ _ _ h := h.of_same rfl rfl rfl rfl rfl rfl rfl
  shown _ _ _ _ _ _ _ h := h.of_same rfl rfl rfl rfl rfl rfl rfl
  copy s c may h := by
    obtain ⟨bound, roomy⟩ := h
    refine ⟨bound, fun on => ?_⟩
    obtain ⟨size, endFits, change, copyFits⟩ := roomy on
    refine ⟨size, endFits, change, ?_⟩
    rintro d rfl
    rcases may d rfl with ⟨was, running, -, offset, header⟩ | ⟨-, nothing⟩ | ⟨-, -, fits⟩
    · rw [offset, header]
      exact copyFits was running
    · rw [nothing]
      exact Nat.le_trans (by decide) size
    · exact fits
  position s p bound h := by
    refine ⟨fun q moved => ?_, fun on => (h.2 on).of_position p⟩
    rcases bound q moved with le | ⟨old, was, le⟩
    · exact le
    · exact Nat.le_trans le (h.1 old was)
  committed s c running h := by
    refine ⟨fun q moved => ?_, fun on => ?_⟩
    · cases moved
      exact Nat.le_refl _
    · obtain ⟨size, -, change, copyFits⟩ := h.2 on
      exact ⟨size, copyFits c running, change, nofun⟩
  cleared _ _ _ _ _ base limit deferred _ copy eod position h :=
    h.emptied rfl base limit deferred copy eod (.inl position)
  marks _ _ base limit deferred _ copy eod position h := h.of_same rfl base limit deferred copy eod position
  waits s c change h := by
    refine ⟨h.1, fun on => ?_⟩
    obtain ⟨size, endFits, old, copyFits⟩ := h.2 on
    refine ⟨size, endFits, ?_, copyFits⟩
    rintro _ ⟨⟩
    rcases change with ⟨d, waits, base, limit⟩ | ⟨room, -⟩
    · rw [base, limit]
      exact old d waits
    · exact room
  scan s t c copy store _ _ why h := by
    have room : t.bridge.run = .run → c.base + 65536 ≤ c.limit := fun on => by
      rcases why with ⟨was, waits⟩ | ⟨room, -⟩
      · exact (h.2 was).change c waits
      · exact room
    have copies : t.store.copy = none := by rw [store]; exact copy
    have empty : t.store.eod = 0 := by rw [store]; rfl
    refine ⟨fun q at_ => ?_, fun on => ?_⟩
    · rw [store] at at_
      cases at_
      exact Nat.zero_le _
    · have room := room on
      have size : t.store.limit - t.store.base = c.limit - c.base := by rw [store]; rfl
      refine ⟨by omega, by omega, ?_, ?_⟩
      · rw [store]; exact nofun
      · rw [copies]; exact nofun
  found s p n _ fits h := by
    refine ⟨fun q at_ => ?_, fun on => ?_⟩
    · cases at_
      exact Nat.zero_le _
    · obtain ⟨size, -, change, copyFits⟩ := h.2 on
      exact ⟨size, fits, change, copyFits⟩
  restart s t after _ run h := by
    rcases after.found with ⟨eod, -, position⟩ | ⟨eod, -, position⟩
    · refine ⟨fun p at_ => ?_, fun on => ?_⟩
      · rcases position with same | lost
        · rw [eod]
          exact h.1 p (same ▸ at_)
        · rw [lost] at at_; cases at_
      · obtain ⟨size, endFits, change, -⟩ := h.2 (run ▸ on)
        constructor
        · rw [after.base, after.limit]; exact size
        · rw [after.base, after.limit, eod]; exact endFits
        · rw [after.deferred]; exact change
        · rw [after.copy]; nofun
    · exact h.emptied run after.base after.limit after.deferred after.copy eod position
  reset _ := ⟨fun p at_ => by cases at_; exact Nat.zero_le _, nofun⟩

/-- Settles O13. -/
theorem storeInvKept : Obligations.StoreInvKept := fun s t setup before h =>
  (storeInv_iff t).mpr (step_engaged storeGood_guards setup ((storeInv_iff s).mp before) h)

end Sys2Proof.Machine

/-! The frame of a command as one fact a block, the transactions of the command in progress, and the arbiter of
the memory port (R14, R170). -/

namespace Sys2Proof.Machine

/-! ## Frames -/

theorem onlyChanges_iff {bs : List Block} {s t : State} :
    OnlyChanges bs s t ↔
      (Block.resetN ∈ bs ∨ t.resetN = s.resetN) ∧ (Block.bridge ∈ bs ∨ t.bridge = s.bridge)
        ∧ (Block.port ∈ bs ∨ t.port = s.port) ∧ (Block.asm ∈ bs ∨ t.asm = s.asm)
        ∧ (Block.slots ∈ bs ∨ t.slots = s.slots) ∧ (Block.enh ∈ bs ∨ t.enh = s.enh)
        ∧ (Block.comp ∈ bs ∨ t.comp = s.comp) ∧ (Block.view ∈ bs ∨ t.view = s.view)
        ∧ (Block.store ∈ bs ∨ t.store = s.store) ∧ (Block.timer ∈ bs ∨ t.timer = s.timer)
        ∧ (Block.cu ∈ bs ∨ t.cu = s.cu) ∧ (Block.pending ∈ bs ∨ t.pending = s.pending) := by
  constructor
  · intro frame
    exact ⟨Classical.or_iff_not_imp_left.mpr (frame .resetN), Classical.or_iff_not_imp_left.mpr (frame .bridge),
      Classical.or_iff_not_imp_left.mpr (frame .port), Classical.or_iff_not_imp_left.mpr (frame .asm),
      Classical.or_iff_not_imp_left.mpr (frame .slots), Classical.or_iff_not_imp_left.mpr (frame .enh),
      Classical.or_iff_not_imp_left.mpr (frame .comp), Classical.or_iff_not_imp_left.mpr (frame .view),
      Classical.or_iff_not_imp_left.mpr (frame .store), Classical.or_iff_not_imp_left.mpr (frame .timer),
      Classical.or_iff_not_imp_left.mpr (frame .cu), Classical.or_iff_not_imp_left.mpr (frame .pending)⟩
  · rintro ⟨resetN, bridge, port, asm, slots, enh, comp, view, store, timer, cu, pending⟩ b outside
    cases b with
    | resetN => exact resetN.resolve_left outside
    | bridge => exact bridge.resolve_left outside
    | port => exact port.resolve_left outside
    | asm => exact asm.resolve_left outside
    | slots => exact slots.resolve_left outside
    | enh => exact enh.resolve_left outside
    | comp => exact comp.resolve_left outside
    | view => exact view.resolve_left outside
    | store => exact store.resolve_left outside
    | timer => exact timer.resolve_left outside
    | cu => exact cu.resolve_left outside
    | pending => exact pending.resolve_left outside

theorem OnlyChanges.refl (bs : List Block) (s : State) : OnlyChanges bs s s := by
  simp [onlyChanges_iff]

theorem Block.same_trans {b : Block} {s u t : State} (first : b.same s u) (second : b.same u t) :
    b.same s t := by
  cases b <;> exact Eq.trans second first

theorem OnlyChanges.trans {bs : List Block} {s u t : State} (first : OnlyChanges bs s u)
    (second : OnlyChanges bs u t) : OnlyChanges bs s t :=
  fun b outside => Block.same_trans (first b outside) (second b outside)

theorem OnlyChanges.mono {bs cs : List Block} {s t : State} (frame : OnlyChanges bs s t) (sub : bs ⊆ cs) :
    OnlyChanges cs s t := fun b outside => frame b fun mem => outside (sub mem)

@[simp] theorem State.portFreed_port (s : State) :
    s.portFreed.port = { s.port with granted := none } := rfl

/-- What follows an answer changes the port besides. -/
theorem OnlyChanges.of_portFreed {bs : List Block} {s t : State} (port : Block.port ∈ bs)
    (frame : OnlyChanges bs s.portFreed t) : OnlyChanges bs s t := by
  refine OnlyChanges.trans ?_ frame
  simp [onlyChanges_iff, State.portFreed, port]

/-! ## Transactions of the command in progress -/

@[simp] theorem State.presentCommand_port (s : State) (p : Purpose) (b : Burst) :
    (s.presentCommand p b).port = s.cmdPort p b := by
  unfold State.presentCommand State.cmdPort
  split <;> simp [State.present_port]

@[simp] theorem State.presentCommand_cu (s : State) (p : Purpose) (b : Burst) :
    (s.presentCommand p b).cu = { s.cu with held := s.cmdHeld p b } := by
  unfold State.presentCommand State.cmdHeld
  split <;> simp

theorem State.setCmdStage_of {s : State} {p : Option Packet} {st : CmdStage}
    (cmd : s.cu.cmd = some { packet := p, stage := st }) (next : CmdStage) :
    s.setCmdStage next = s.setCu { s.cu with cmd := some { packet := p, stage := next } } := by
  simp [State.setCmdStage, cmd]

/-- The command in progress reaches a stage and its transaction is presented. -/
theorem State.setCmdStage_reads {s : State} {p : Option Packet} {st : CmdStage}
    (cmd : s.cu.cmd = some { packet := p, stage := st }) (next : CmdStage) (q : Purpose) (b : Burst) :
    CommandReads s ((s.setCmdStage next).presentCommand q b) p next q b := by
  rw [State.setCmdStage_of cmd]
  exact ⟨State.presentCommand_port _ q b, State.presentCommand_cu _ q b⟩

/-- The completion event as a stage of the command in progress (R165). -/
theorem State.completeWith_reads {s : State} {p : Packet} {st : CmdStage}
    (cmd : s.cu.cmd = some { packet := some p, stage := st }) (o : Result) (report : Bool) :
    CommandReads s (s.completeWith o report) (some p) (.message (replyOf s p o report) o.cls o.reason) .message
      (replyOf s p o report).upper := by
  simpa [State.completeWith, cmd, replyOf] using s.setCmdStage_reads cmd _ .message _

theorem State.setCmdStage_onlyChanges (s : State) (st : CmdStage) : OnlyChanges [.cu] s (s.setCmdStage st) := by
  simp [onlyChanges_iff]

theorem State.presentCommand_onlyChanges (s : State) (p : Purpose) (b : Burst) :
    OnlyChanges [.port, .cu] s (s.presentCommand p b) := by
  simp [onlyChanges_iff]

theorem State.present_onlyChanges (s : State) (p : Purpose) (b : Burst) :
    OnlyChanges [.port] s (s.present p b) := by
  simp [onlyChanges_iff]

theorem State.completeWith_onlyChanges (s : State) (o : Result) (report : Bool) :
    OnlyChanges [.port, .cu] s (s.completeWith o report) := by
  simp [onlyChanges_iff]

theorem State.complete_onlyChanges (s : State) (o : Result) : OnlyChanges [.port, .cu] s (s.complete o) :=
  s.completeWith_onlyChanges o false

/-- Presenting a transaction of the command in progress depends on the port and the Command Unit but for the
command. -/
theorem CommandPresents.congr {s u t : State} {p : Purpose} {b : Burst} (port : u.port = s.port)
    (cu : u.cu = { s.cu with cmd := u.cu.cmd }) (h : CommandPresents u t p b) : CommandPresents s t p b := by
  unfold CommandPresents Presents at *
  rw [port, cu] at h
  exact h

theorem Completed.congr {s u t : State} {p : Packet} {o : Result} (port : u.port = s.port)
    (cu : u.cu = { s.cu with cmd := u.cu.cmd }) (h : Completed u t p o) : Completed s t p o :=
  ⟨h.1, h.2.congr port cu⟩

theorem State.hands.cmd {s : State} {n : Nat} {p : Packet} (taken : s.hands n p) :
    s.cu.cmd = some { packet := some p, stage := .dispatched } := (State.dispatched_eq.mp taken.2).1

/-! ## The arbiter (R14) -/

/-- The first requester in the fixed order is the one of which none of lower rank waits. -/
theorem MemoryPort.firstWaiting_of {m : MemoryPort} {q : Requester} {r : Request} (waits : m.waiting q = some r)
    (first : ∀ q', q'.rank < q.rank → m.waiting q' = none) : m.firstWaiting = some (q, r) := by
  have composer := first .composer
  have passThrough := first .passThrough
  have lineWriter := first .lineWriter
  have store := first .store
  cases q <;> simp_all [MemoryPort.firstWaiting, arbiterOrder, Requester.rank]

theorem MemoryPort.grant_waiting (m : MemoryPort) (q q' : Requester) (r : Request) :
    (m.grant q r).waiting q' = if q = q' then none else m.waiting q' := by
  cases q <;> cases q' <;> rfl

/-- The purposes that a command answers. -/
def Purpose.answeredWith (p : Purpose) : Purpose → Bool :=
  match p with
  | .composerStored | .composerSource => fun q => q == .composerStored || q == .composerSource
  | p => (· == p)

theorem Purpose.answeredWith_iff (p q : Purpose) (a : Answer) :
    p.answeredWith q = true ↔ q.answeredBy a = p.answeredBy a := by
  cases p <;> cases q <;> simp [Purpose.answeredWith, Purpose.answeredBy]

/-- What the answer to a transaction of a purpose does when its requester wants it. -/
def Purpose.onReply (p : Purpose) (a : Answer) (s : State) : State :=
  match p with
  | .composerStored | .composerSource => s.composerAnswer a
  | .passThrough => s.passAnswer a
  | .lineWrite => s.lineAnswer a
  | .scanRead => s.scanRead a
  | .viewHeader => s.viewHeaderRead a
  | .popHeader => s.popHeaderRead a
  | .copy => s.copyAnswer a
  | .commit => s.commitAnswer a
  | .clearWrite => s.clearAnswer a
  | .moveRead => s.moveRead a
  | .advanceRead => s.advanceRead a
  | .reloadRead => s.reloadRead a
  | .packet => s.packetAnswer a
  | .setupBlock => s.setupRead a
  | .triggerList => s.listRead a
  | .message => s.messageAnswer
  | .notice => s.noticeAnswer

theorem Purpose.exec_answeredBy (p : Purpose) (a : Answer) (s : State) :
    exec (p.answeredBy a) s = s.onAnswer p.answeredWith a fun _ s' => p.onReply a s' := by
  cases p <;> rfl

/-- An answer that is not of the granted transaction is ignored (log entry 6). -/
theorem State.onAnswer_ignored {s : State} {sel : Purpose → Bool} {a : Answer} {k : Request → State → State}
    (other : ∀ g, s.port.granted = some g → sel g.request.purpose = false ∨ answerFits a g.request.burst = false) :
    s.onAnswer sel a k = .next s := by
  have ignored : s.answered sel a = none := by
    cases granted : s.port.granted with
    | none => simp [State.answered, granted]
    | some g => rcases other g granted with h | h <;> simp [State.answered, granted, h]
  simp [State.onAnswer, ignored]

/-- Settles O5: the grant takes the first waiting requester, and `onAnswer` gates every answer. -/
theorem memoryPortServed : Obligations.MemoryPortServed := by
  refine ⟨fun s q r up waits => ⟨fun free first => ?grants, fun busy => ?stays⟩, fun s p a up =>
    ⟨fun r granted purpose fits => ?stale, fun other => ?ignored⟩⟩
  case grants =>
    refine ⟨_, (Runs.grant up free (MemoryPort.firstWaiting_of waits first)).exec_eq, rfl, ?_, ?_, ?_⟩
    · simp [MemoryPort.grant_waiting]
    · intro q' differs
      simp [MemoryPort.grant_waiting, Ne.symm differs]
    · simp [onlyChanges_iff]
  case stays =>
    simp [exec, execMemoryPortGrant, State.whenAwake, Option.isNone_iff_eq_none, busy]
  case stale =>
    rw [p.exec_answeredBy]
    exact State.onAnswer_stale up granted ((p.answeredWith_iff _ a).mpr (by rw [purpose])) fits
  case ignored =>
    rw [p.exec_answeredBy]
    refine State.onAnswer_ignored fun g granted => (other g granted).imp_left fun differs => ?_
    simpa using mt (p.answeredWith_iff _ a).mp differs

/-! ## The packet fetch (R154, R163, R177) -/

/-- The fields of a packet are bits of its words. -/
theorem Packet.ofWords_four (w0 w1 w2 w3 : Word) :
    Packet.ofWords [w0, w1, w2, w3] =
      { code := w0.toNat % 256, modifier := w0.toNat / 256 % 16, ie := w0.getLsbD 12,
        release := w0.getLsbD 13, p1 := w1, p2 := w2, p3 := w3 } := by
  simp [Packet.ofWords, wordAt, field, flagAt_eq_getLsbD]

/-- Settles O29, by the branches of `judgePacket`. -/
theorem packetFetched : Obligations.PacketFetched := by
  intro s w0 w1 w2 w3 a got cmd
  have fetching : s.portFreed.cu.cmd = some { packet := none, stage := .fetch } := cmd
  refine ⟨_, (Runs.packetAnswer got).exec_eq, ?frame, fun failed => ?failed, fun fine words => ?judged⟩
  case frame =>
    simp only [State.packetAnswer, fetching, State.judgePacket]
    repeat' split
    all_goals simp [onlyChanges_iff, State.portFreed]
  case failed =>
    simpa [State.packetAnswer, fetching, failed] using s.portFreed.complete_spec_unread _ fetching
  case judged =>
    intro p
    have read : s.portFreed.packetAnswer a = s.portFreed.judgePacket p := by
      simp [State.packetAnswer, fetching, fine, words, Packet.ofWords_four, p]
    rw [read]
    have completed (o : Result) : Completed s.portFreed ((s.portFreed.setCu
        { s.portFreed.cu with cmd := some { packet := some p, stage := .dispatched } }).complete o) p o :=
      (State.complete_spec o rfl).congr rfl rfl
    refine ⟨fun bad => ?_, fun low high bypass one two => ?_, fun low high known => ?_⟩
    · rw [State.judgePacket, if_pos bad]
      exact completed _
    · rw [State.judgePacket, if_neg (by omega), if_pos ⟨bypass, one, two⟩]
      exact completed _
    · rw [State.judgePacket, if_neg (by omega), if_neg ?_]
      · exact ⟨rfl, rfl⟩
      · rintro ⟨bypass, one, two⟩
        rcases known with run | is | is
        · have run : s.portFreed.bridge.run = .run := run
          simp [run] at bypass
        · exact one is
        · exact two is

end Sys2Proof.Machine

/-! Words put together from fields, the reports of STATUS, and the writing of messages and notices (R165, R166,
R170, R173, R178). -/

namespace Sys2Proof.Machine

/-! ## A word as its fields, highest first -/

theorem toNat_concat {m n : Nat} (x : BitVec m) (y : BitVec n) :
    (x ++ y).toNat = x.toNat * 2 ^ n + y.toNat := by
  rw [BitVec.toNat_append, ← Nat.shiftLeft_add_eq_or_of_lt y.isLt, Nat.shiftLeft_eq]

theorem bit_eq_toNat (b : Bool) : bit b = b.toNat := by cases b <;> rfl

theorem pairWord_eq_concat (x y : Half) : pairWord x y = y ++ x := by
  refine BitVec.eq_of_toNat_eq ?_
  have low := x.isLt
  have high := y.isLt
  simp only [pairWord, toWord, BitVec.toNat_ofNat, toNat_concat]
  omega

theorem TermClass.code_lt (c : TermClass) : c.code < 8 := by cases c <;> decide

theorem Reason.code_lt (r : Reason) : r.code < 64 := by cases r <;> decide

theorem toneSlope_lt {b wp : Nat} (room : b + 32 ≤ wp) (cap : wp ≤ 255) : toneSlope b wp < 65536 := by
  rw [toneSlope, Nat.div_lt_iff_lt_mul (by omega)]
  omega

/-! ## STATUS (R173) -/

/-- The counters and the set in force as halfwords and bytes of words 8 to 13 (R178). -/
theorem State.reportWords_fields {s : State} (bounds : s.enh.force.inBounds) :
    s.reportWords true =
      [s.slots.completed ++ s.slots.started, s.slots.dropped ++ s.slots.abandoned,
       s.timer.overruns ++ s.slots.broken, s.comp.errors ++ s.bridge.guard,
       BitVec.ofNat 8 s.enh.force.wp ++ BitVec.ofNat 8 s.enh.force.b ++ BitVec.ofNat 8 s.enh.force.g
         ++ BitVec.ofNat 8 s.enh.force.t,
       (0 : BitVec 7) ++ BitVec.ofBool s.enh.force.auto ++ BitVec.ofNat 8 s.enh.force.a
         ++ BitVec.ofNat 16 s.enh.force.k,
       0, 0] := by
  obtain ⟨t, g, b, room, wp, k, low, a⟩ := bounds
  have slope := toneSlope_lt room wp
  rw [← k] at slope
  have auto := Bool.toNat_le s.enh.force.auto
  simp only [State.reportWords, if_true, pairWord_eq_concat, bit_eq_toNat, List.cons.injEq, true_and, and_true]
  constructor <;> refine BitVec.eq_of_toNat_eq ?_ <;>
    simp only [toWord, BitVec.ofNat_eq_ofNat, BitVec.toNat_ofNat, toNat_concat, BitVec.toNat_ofBool] <;> omega

theorem State.messageWords_upper (s : State) (o : Result) (code : Nat) (ie release report : Bool) :
    (s.messageWords o code ie release report).drop 8 = s.reportWords report := rfl

/-- Settles O31: `completeWith` reports, and STATUS_CLEAR empties the counters besides. -/
theorem statusReports : Obligations.StatusReports := by
  intro s p taken o w pair set
  have reads : CommandReads s (s.completeWith s.statusResult true) (some p) (.message w .done .none) .message
      w.upper := s.completeWith_reads taken.cmd _ _
  refine ⟨fun bounds => ?report, fun plain => ?status, fun one => ?clear, fun many => ?refused⟩
  case report => exact State.reportWords_fields bounds
  case status => exact ⟨_, (Runs.status taken plain).exec_eq, reads, s.completeWith_onlyChanges _ _⟩
  case clear =>
    refine ⟨_, (Runs.statusClear taken one).exec_eq, reads, ?_⟩
    simp [State.clearCounters, onlyChanges_iff]
  case refused =>
    exact ⟨_, (Runs.statusRefused taken (by omega) (by omega)).exec_eq, s.complete_spec _ taken.cmd,
      s.complete_onlyChanges _⟩

/-! ## The words of a message (R166, R178) -/

theorem messageHead_fields {code : Nat} (o : Result) (ie release : Bool) (bound : code < 256) :
    toWord (o.cls.code + o.reason.code * 2 ^ 8 + code * 2 ^ 16 + bit ie * 2 ^ 24 + bit release * 2 ^ 25) =
      (0 : BitVec 6) ++ BitVec.ofBool release ++ BitVec.ofBool ie ++ BitVec.ofNat 8 code
        ++ BitVec.ofNat 8 o.reason.code ++ BitVec.ofNat 8 o.cls.code := by
  have cls := o.cls.code_lt
  have reason := o.reason.code_lt
  have asked := Bool.toNat_le ie
  have freed := Bool.toNat_le release
  refine BitVec.eq_of_toNat_eq ?_
  simp only [bit_eq_toNat, toWord, BitVec.ofNat_eq_ofNat, BitVec.toNat_ofNat, toNat_concat, BitVec.toNat_ofBool]
  omega

theorem noticeBits_fields (n : Notices) (serial : Half) :
    toWord (serial.toNat + n.bits) =
      (0 : BitVec 8) ++ BitVec.ofBool n.positionLost ++ BitVec.ofBool n.lowSpace
        ++ BitVec.ofBool n.captureFailed.isSome ++ BitVec.ofBool n.triggerNote.isSome
        ++ BitVec.ofBool n.lessonEnd ++ BitVec.ofBool n.viewReset ++ BitVec.ofBool n.signalBack
        ++ BitVec.ofBool n.signalLost ++ serial := by
  have low := serial.isLt
  have lost := Bool.toNat_le n.signalLost
  have back := Bool.toNat_le n.signalBack
  have view := Bool.toNat_le n.viewReset
  have lesson := Bool.toNat_le n.lessonEnd
  have note := Bool.toNat_le n.triggerNote.isSome
  have failed := Bool.toNat_le n.captureFailed.isSome
  have space := Bool.toNat_le n.lowSpace
  have position := Bool.toNat_le n.positionLost
  refine BitVec.eq_of_toNat_eq ?_
  simp only [Notices.bits, bit_eq_toNat, toWord, BitVec.ofNat_eq_ofNat, BitVec.toNat_ofNat, toNat_concat, BitVec.toNat_ofBool]
  omega

theorem noticeArgs_fields (n : Notices) :
    toWord n.args =
      (0 : BitVec 8) ++ BitVec.ofNat 8 ((n.captureFailed.map Reason.code).getD 0) ++ n.triggerNote.getD 0 := by
  refine BitVec.eq_of_toNat_eq ?_
  simp only [Notices.args, toWord, BitVec.ofNat_eq_ofNat, BitVec.toNat_ofNat, toNat_concat]
  cases n.captureFailed with
  | none => cases n.triggerNote <;> simp; omega
  | some r =>
    have reason := r.code_lt
    cases n.triggerNote with
    | none => simp; omega
    | some c =>
      have code := c.isLt
      simp
      omega

/-! ## The answers to the halves of messages and notices (R165, R170) -/

theorem State.deliver_onlyChanges (s : State) : OnlyChanges [.port, .cu] s s.deliver := by
  simp [onlyChanges_iff]

theorem State.post_onlyChanges (s : State) (n : Notice) : OnlyChanges [.port, .cu] s (s.post n) := by
  simp [onlyChanges_iff]

/-- Settles O32, by the branches of `messageAnswer` and `noticeAnswer`. -/
theorem messagesWritten : Obligations.MessagesWritten := by
  refine ⟨fun s o code ie release report => ?words, fun w => ?upper, fun r => ?codes,
    fun s a p w cls reason got cmd => ?message, fun s a w got writing => ?notice⟩
  case words =>
    intro ws w n flag codeBound residual
    refine ⟨?_, (messageHead_fields o ie release codeBound).trans ?_, rfl, rfl, ?_, rfl, noticeBits_fields _ _,
      noticeArgs_fields _, rfl, ?_⟩
    · cases report <;> rfl
    · cases o.cls <;> rfl
    · change positionWord s.store.position = _
      cases s.store.position <;> rfl
    · rintro rfl
      rfl
  case upper => rfl
  case codes => cases r <;> rfl
  case message =>
    have writing : s.portFreed.cu.cmd = some { packet := p, stage := .message w cls reason } := cmd
    refine ⟨_, (Runs.messageAnswer got).exec_eq, ?_, fun first => ?_, fun second => ?_⟩
    · refine OnlyChanges.of_portFreed (by simp) ?_
      simp only [State.messageAnswer, writing]
      split
      · simp [State.finishCommand, onlyChanges_iff]
      · simp [onlyChanges_iff]
    · simp only [State.messageAnswer, writing, first]
      exact State.setCmdStage_reads writing _ _ _
    · simp only [State.messageAnswer, writing, second, if_true, State.finishCommand]
      cases p <;> exact s.portFreed.deliver_noticeDue _
  case notice =>
    have writing : s.portFreed.cu.notice = some w := writing
    refine ⟨_, (Runs.noticeAnswer got).exec_eq, ?_, fun first => ?_, fun second => ?_⟩
    · refine OnlyChanges.of_portFreed (by simp) ?_
      simp only [State.noticeAnswer, writing]
      split
      · split <;> simp [onlyChanges_iff]
      · simp [onlyChanges_iff]
    · simp only [State.noticeAnswer, writing, first]
      exact ⟨rfl, rfl⟩
    · simp only [State.noticeAnswer, writing, second, if_true]
      refine ⟨?_, fun idle => ?_, fun r held => ?_⟩
      · split <;> rfl
      · have idle : s.portFreed.cu.held = none := idle
        rw [idle]
        rfl
      · have held : s.portFreed.cu.held = some r := held
        rw [held]
        rfl

end Sys2Proof.Machine

/-! Setup, reload and the mount scan: the reads of a block, and what a valid one does in BYPASS and in RUN
(R108, R109, R156 to R160). -/

namespace Sys2Proof.Machine

/-! ## The reads of a setup block (R157, R160) -/

theorem blockBeyond_iff (addr : Nat) : blockBeyond addr = true ↔ 0x1FFFFFC < addr + 60 := by
  unfold blockBeyond memoryTop
  rw [decide_eq_true_eq]
  omega

theorem blockBeyond_eq_false_iff (addr : Nat) : blockBeyond addr = false ↔ addr + 60 ≤ 0x1FFFFFC := by
  rw [← Bool.not_eq_true, blockBeyond_iff]
  omega

theorem State.reloadBlock_spec (s : State) (addr : Nat) (got : List Word) (start : Nat) :
    Presents s (s.reloadBlock addr got start) .reloadRead { tag := 0, addr := start, body := .read 8 }
      ∧ (s.reloadBlock addr got start).cu = { s.cu with reload := some (.block addr got) }
      ∧ OnlyChanges [.port, .cu] s (s.reloadBlock addr got start) :=
  ⟨rfl, rfl, by simp [onlyChanges_iff, State.reloadBlock]⟩

theorem State.reloadInvalid_onlyChanges (s : State) : OnlyChanges [.port, .cu] s s.reloadInvalid := by
  simp [onlyChanges_iff, State.reloadInvalid]

/-- Settles O34, by the branches of `runSetup`, `setupRead` and `reloadRead`. -/
theorem setupBlockRead : Obligations.SetupBlockRead := by
  refine ⟨fun s p taken => ?setup, fun s a p addr got reply cmd => ?block, fun s a got => ?reload⟩
  case setup =>
    intro addr
    refine ⟨_, (Runs.setup taken).exec_eq, ?_, fun above => ?_, fun fits => ?_⟩
    · simp only [State.runSetup]
      split <;> simp [onlyChanges_iff]
    · simp only [State.runSetup]
      have above : blockBeyond (wordAligned p.p1) = true := (blockBeyond_iff addr).mpr above
      rw [if_pos above]
      exact s.complete_spec _ taken.cmd
    · simp only [State.runSetup]
      have fits : blockBeyond (wordAligned p.p1) = false := (blockBeyond_eq_false_iff addr).mpr fits
      rw [fits]
      exact s.setCmdStage_reads taken.cmd _ _ _
  case block =>
    have cmd : s.portFreed.cu.cmd = some { packet := some p, stage := .setupRead addr got } := cmd
    refine ⟨_, (Runs.setupRead reply).exec_eq, fun failed => ?_, fun fine first => ?_,
      fun n fine second invalid => ?_⟩
    · simp only [State.setupRead, cmd, failed, if_true]
      exact ⟨State.complete_spec _ cmd, .of_portFreed (by simp) (State.complete_onlyChanges _ _)⟩
    · subst first
      simp only [State.setupRead, cmd, fine]
      exact ⟨State.setCmdStage_reads cmd _ _ _, .of_portFreed (by simp) (by simp [onlyChanges_iff])⟩
    · have invalid : validateSetup (ctrlSpan s.portFreed.bridge.straps) (got ++ a.words) = some n := invalid
      have refuses : s.portFreed.setupRead a = s.portFreed.complete
          { cls := .refused, reason := .setupInvalid, arg := toWord n, residual := 0 } := by
        simp [State.setupRead, cmd, fine, second, State.judgeSetup, invalid]
      rw [refuses]
      exact ⟨State.complete_spec _ cmd, .of_portFreed (by simp) (State.complete_onlyChanges _ _)⟩
  case reload =>
    refine ⟨_, (Runs.reloadRead got).exec_eq, fun pointer => ⟨?_, fun bad => ?_, fun fine fits => ?_⟩,
      fun addr words block => ⟨fun bad => ?_, fun fine first => ?_⟩⟩
    · have pointer : s.portFreed.cu.reload = some .pointer := pointer
      refine .of_portFreed (by simp) ?_
      simp only [State.reloadRead, pointer]
      split
      · exact State.reloadInvalid_onlyChanges _
      · split
        · exact State.reloadInvalid_onlyChanges _
        · exact (State.reloadBlock_spec _ _ _ _).2.2
    · have pointer : s.portFreed.cu.reload = some .pointer := pointer
      have ends : s.portFreed.reloadRead a = s.portFreed.reloadInvalid := by
        simp only [State.reloadRead, pointer]
        rcases bad with failed | above
        · rw [if_pos failed]
        · have above : blockBeyond (wordAligned (wordAt a.words 0)) = true := (blockBeyond_iff _).mpr above
          rw [if_pos above, ite_self]
      rw [ends]
      exact ⟨rfl, rfl⟩
    · have pointer : s.portFreed.cu.reload = some .pointer := pointer
      have fits : blockBeyond (wordAligned (wordAt a.words 0)) = false := (blockBeyond_eq_false_iff _).mpr fits
      simp only [State.reloadRead, pointer, fine, fits]
      exact ⟨(State.reloadBlock_spec _ _ _ _).1, (State.reloadBlock_spec _ _ _ _).2.1⟩
    · have block : s.portFreed.cu.reload = some (.block addr words) := block
      have ends : s.portFreed.reloadRead a = s.portFreed.reloadInvalid := by
        simp only [State.reloadRead, block]
        rcases bad with failed | ⟨second, n, invalid⟩
        · rw [if_pos failed]
        · have invalid : validateSetup (ctrlSpan s.portFreed.bridge.straps) (words ++ a.words) = some n := invalid
          simp [second, invalid]
      rw [ends]
      exact ⟨rfl, rfl, .of_portFreed (by simp) (State.reloadInvalid_onlyChanges _)⟩
    · subst first
      have block : s.portFreed.cu.reload = some (.block addr []) := block
      have reads : s.portFreed.reloadRead a = s.portFreed.reloadBlock addr a.words (addr + 32) := by
        simp [State.reloadRead, block, fine]
      rw [reads]
      obtain ⟨presents, cu, frame⟩ := s.portFreed.reloadBlock_spec addr a.words (addr + 32)
      exact ⟨presents, cu, .of_portFreed (by simp) frame⟩

/-! ## A valid block in BYPASS (R1, R157, R160) -/

/-- Settles O35: SETUP and the reload apply a block by `applyBypass`. -/
theorem setupAppliedInBypass : Obligations.SetupAppliedInBypass := by
  intro s a got addr bypass fine second valid b views applied
  have bypass : s.portFreed.bridge.run = .bypass := bypass
  have valid : validateSetup (ctrlSpan s.portFreed.bridge.straps) (got ++ a.words) = none := valid
  refine ⟨fun p reply cmd => ?setup, fun reply reload => ?reload⟩
  case setup =>
    have cmd : s.portFreed.cu.cmd = some { packet := some p, stage := .setupRead addr got } := cmd
    have runs := (Runs.setupRead reply).exec_eq
    have applies : s.portFreed.setupRead a = (s.portFreed.setCmdStage .setupScan).applyBypass b := by
      simp [State.setupRead, cmd, fine, second, State.judgeSetup, valid, bypass, b]
    rw [applies, State.setCmdStage_of cmd] at runs
    exact ⟨_, runs, rfl, rfl, rfl, rfl, rfl, rfl, rfl, rfl, by simp [onlyChanges_iff, State.applyBypass, State.portFreed]⟩
  case reload =>
    have reload : s.portFreed.cu.reload = some (.block addr got) := reload
    have runs := (Runs.reloadRead reply).exec_eq
    have applies : s.portFreed.reloadRead a =
        (s.portFreed.setCu { s.portFreed.cu with reload := some .scan }).applyBypass b := by
      simp [State.reloadRead, reload, fine, second, valid, b]
    rw [applies] at runs
    exact ⟨_, runs, rfl, rfl, rfl, rfl, rfl, rfl, rfl, rfl, by simp [onlyChanges_iff, State.applyBypass, State.portFreed]⟩

/-! ## A valid block in RUN (R158, R159) -/

/-- The locked field `n` of a block differs from the value in force (R158). -/
def State.LockDiffers (s : State) (b : SetupBlock) (n : Nat) : Prop :=
  let r := s.bridge.regions
  n = 4 ∧ b.slotSize ≠ r.slotSize ∨ n = 5 ∧ b.apertureBase ≠ r.apertureBase
    ∨ n = 6 ∧ b.slotBase[0] ≠ r.slotBase[0] ∨ n = 7 ∧ b.slotBase[1] ≠ r.slotBase[1]
    ∨ n = 8 ∧ b.slotBase[2] ≠ r.slotBase[2] ∨ n = 11 ∧ b.viewBase ≠ r.viewBase

/-- The region of field `n` of a block clashes with one in force beside it (R158). -/
def State.RegionClashes (s : State) (b : SetupBlock) (n : Nat) : Prop :=
  n = 5 ∧ ¬ b.aperture.apart s.storeSpan ∨ n = 11 ∧ ¬ b.window.apart s.storeSpan
    ∨ n = 13 ∧ (b.storeBase, b.storeLimit) ≠ s.storeTarget
        ∧ ¬ (b.store.apart s.apertureSpan ∧ b.store.apart s.windowSpan)
    ∨ n = 15 ∧ ¬ (b.message.apart s.apertureSpan ∧ b.message.apart s.windowSpan
        ∧ b.message.apart s.storeSpan)

open Classical in
theorem State.lockedField_eq_find? (s : State) (b : SetupBlock) :
    s.lockedField b = [4, 5, 6, 7, 8, 11].find? fun n => decide (s.LockDiffers b n) := by
  simp only [State.lockedField, List.find?_cons, State.LockDiffers]
  repeat' split
  all_goals simp_all

open Classical in
theorem State.clashField_eq_find? (s : State) (b : SetupBlock) :
    s.clashField b = [5, 11, 13, 15].find? fun n => decide (s.RegionClashes b n) := by
  simp only [State.clashField, List.find?_cons, State.RegionClashes, Span.apart, State.storeChanged]
  repeat' split
  all_goals grind

theorem State.pageFrom_zero_iff (s : State) : s.view.current.pageFrom 0 = true ↔ s.currentPage ≠ none := by
  cases shown : s.view.current.source <;> simp [ViewContext.pageFrom, State.currentPage, shown]

theorem State.storeChanged_iff (s : State) (b : SetupBlock) :
    s.storeChanged b = true ↔ (b.storeBase, b.storeLimit) ≠ s.storeTarget := by
  simp [State.storeChanged]

section
variable {s : State} {b : SetupBlock}

open Classical in
theorem State.applyRun_locked {n : Nat} (first : IsFirst [4, 5, 6, 7, 8, 11] (s.LockDiffers b) n) :
    s.applyRun b = s.complete { cls := .refused, reason := .regionsLocked, arg := toWord n, residual := 0 } := by
  have locked := (s.lockedField_eq_find? b).trans (isFirst_iff_find?.mp first)
  simp only [State.applyRun, locked]

open Classical in
theorem State.lockedField_eq_none (same : ∀ n, ¬ s.LockDiffers b n) : s.lockedField b = none := by
  simp [s.lockedField_eq_find? b, same]

open Classical in
theorem State.applyRun_clash {n : Nat} (same : ∀ n, ¬ s.LockDiffers b n)
    (first : IsFirst [5, 11, 13, 15] (s.RegionClashes b) n) :
    s.applyRun b = s.complete { cls := .refused, reason := .regionsLocked, arg := toWord n, residual := 0 } := by
  have clash := (s.clashField_eq_find? b).trans (isFirst_iff_find?.mp first)
  simp only [State.applyRun, State.lockedField_eq_none same, clash]

open Classical in
theorem State.clashField_eq_none (clear : ∀ n, ¬ s.RegionClashes b n) : s.clashField b = none := by
  simp [s.clashField_eq_find? b, clear]

/-- What a block with no field locked and no region that clashes does: the page in use, the margin, the scan, or
the wait (R158, R159). -/
theorem State.applyRun_clear (same : ∀ n, ¬ s.LockDiffers b n) (clear : ∀ n, ¬ s.RegionClashes b n) :
    s.applyRun b =
      if s.storeChanged b = true ∧ s.currentPage ≠ none then s.complete (Result.refuse .pageInUse)
      else if s.storeChanged b = false then
        ((s.takeRun b).setStore ((s.takeRun b).store.takeMargin b.margin)).complete (Result.done 0)
      else if s.enginesIdle then ((s.takeRun b).setCmdStage .setupScan).startScan b.regionChange
      else
        ((s.takeRun b).setStore { (s.takeRun b).store with deferred := some b.regionChange }).setCmdStage
          .setupWait := by
  simp only [State.applyRun, State.lockedField_eq_none same, State.clashField_eq_none clear,
    ← s.pageFrom_zero_iff, Bool.and_eq_true, Bool.not_eq_true']

end

/-- Settles O36, by the branches of `applyRun`. -/
theorem setupAppliedInRun : Obligations.SetupAppliedInRun := by
  intro s a p addr got reply cmd fine second run valid b r target moves differs clashes refused
  have cmd : s.portFreed.cu.cmd = some { packet := some p, stage := .setupRead addr got } := cmd
  have run : s.portFreed.bridge.run = .run := run
  have valid : validateSetup (ctrlSpan s.portFreed.bridge.straps) (got ++ a.words) = none := valid
  have moves_iff : s.portFreed.storeChanged b = true ↔ moves := s.portFreed.storeChanged_iff b
  have applies : s.portFreed.setupRead a = s.portFreed.applyRun b := by
    simp [State.setupRead, cmd, fine, second, State.judgeSetup, valid, run, b]
  have refuses (reason : Reason) (n : Nat) : refused (s.portFreed.complete
      { cls := .refused, reason := reason, arg := toWord n, residual := 0 }) reason n :=
    ⟨State.complete_spec _ cmd, .of_portFreed (by simp) (State.complete_onlyChanges _ _)⟩
  refine ⟨s.portFreed.applyRun b, applies ▸ (Runs.setupRead reply).exec_eq, fun n first => ?locked,
    fun same => ⟨fun n first => ?clash, fun clear => ?clear⟩⟩
  case locked =>
    rw [State.applyRun_locked (s := s.portFreed) first]
    exact refuses _ n
  case clash =>
    rw [State.applyRun_clash (s := s.portFreed) same first]
    exact refuses _ n
  case clear =>
    rw [State.applyRun_clear (s := s.portFreed) same clear]
    refine ⟨fun changed page => ?page, fun free => ?taken⟩
    case page =>
      rw [if_pos ⟨moves_iff.mpr changed, page⟩]
      exact refuses .pageInUse 0
    case taken =>
      rw [if_neg fun h => h.2 (free (moves_iff.mp h.1))]
      have cmd' : (s.portFreed.takeRun b).cu.cmd = some { packet := some p, stage := .setupRead addr got } := cmd
      by_cases changed : moves
      · have changed' := moves_iff.mpr changed
        rw [if_neg (by simp [changed'])]
        have idle_eq : s.portFreed.enginesIdle = s.enginesIdle := rfl
        cases idle : s.enginesIdle with
        | true =>
          rw [if_pos (idle_eq.trans idle), State.setCmdStage_of cmd']
          exact ⟨rfl, rfl, rfl, rfl, by simp [onlyChanges_iff, State.takeRun, State.portFreed],
            fun h => absurd changed h, fun _ _ => ⟨rfl, rfl, rfl⟩, fun _ h => by simp at h⟩
        | false =>
          have cmd'' : ((s.portFreed.takeRun b).setStore { (s.portFreed.takeRun b).store with
              deferred := some b.regionChange }).cu.cmd =
                some { packet := some p, stage := .setupRead addr got } := cmd
          rw [if_neg (by simp [idle_eq, idle]), State.setCmdStage_of cmd'']
          exact ⟨rfl, rfl, rfl, rfl, by simp [onlyChanges_iff, State.takeRun, State.portFreed],
            fun h => absurd changed h, fun _ h => by simp at h, fun _ _ => ⟨rfl, rfl, rfl⟩⟩
      · have same' : s.portFreed.storeChanged b = false := by simpa using mt moves_iff.mp changed
        rw [if_pos same']
        refine ⟨by simp [State.takeRun, State.portFreed], by simp [State.takeRun, State.portFreed]; rfl,
          by simp [State.takeRun, State.portFreed], by simp [State.takeRun, State.portFreed],
          by simp [onlyChanges_iff, State.takeRun, State.portFreed], fun _ => ⟨fun none => ?_, fun d waits => ?_, ?_, ?_⟩,
          fun h => absurd h changed, fun h => absurd h changed⟩
        · simp [State.takeRun, State.portFreed, Store.takeMargin, none]
        · simp [State.takeRun, State.portFreed, Store.takeMargin, waits]
        · rw [State.complete_cu]
          rfl
        · have cmd'' : ((s.portFreed.takeRun b).setStore ((s.portFreed.takeRun b).store.takeMargin b.margin)).cu.cmd =
              some { packet := some p, stage := .setupRead addr got } := cmd
          exact (State.complete_spec _ cmd'').congr rfl rfl

/-! ## The mount scan (R109, R110, R160) -/

/-- The end of a scan leaves the traversal engine idle, and ends the reload or the SETUP that started it. -/
theorem State.endScan_spec (u : State) :
    u.endScan.store = { u.store with trav := none }
      ∧ (u.cu.reload = some .scan →
          u.endScan.cu = { u.cu with reload := none, reloadResult := .loaded } ∧ u.endScan.port = u.port)
      ∧ (∀ p, u.cu.reload ≠ some .scan → u.cu.cmd = some { packet := some p, stage := .setupScan } →
          Completed u u.endScan p (Result.done 0))
      ∧ (u.cu.reload ≠ some .scan → u.cmdStage ≠ some .setupScan →
          u.endScan.cu = u.cu ∧ u.endScan.port = u.port)
      ∧ OnlyChanges [.port, .store, .cu] u u.endScan := by
  have reload_eq : u.idleTrav.cu.reload = u.cu.reload := rfl
  have cmd_eq : u.idleTrav.cu.cmd = u.cu.cmd := rfl
  refine ⟨?_, fun reload => ?_, fun p reload cmd => ?_, fun reload other => ?_, by simp [onlyChanges_iff]⟩
  · simp only [State.endScan]
    split
    · rfl
    · split
      · split <;> simp [State.idleTrav]
      · rfl
  · simp only [State.endScan, reload_eq, reload, if_true]
    exact ⟨rfl, rfl⟩
  · simp only [State.endScan, reload_eq, cmd_eq, cmd, if_neg reload, if_true]
    exact (State.complete_spec _ (cmd_eq.trans cmd)).congr rfl rfl
  · simp only [State.endScan, reload_eq, cmd_eq, if_neg reload]
    cases cmd : u.cu.cmd with
    | none => exact ⟨rfl, rfl⟩
    | some c =>
      have : c.stage ≠ .setupScan := by simpa [State.cmdStage, cmd] using other
      simp only [if_neg this]
      exact ⟨rfl, rfl⟩

theorem State.setupScans_cu (s : State) :
    s.setupScans.cu = { s.cu with
      cmd := s.cu.cmd.map fun c => if c.stage = .setupWait then { c with stage := .setupScan } else c } := by
  unfold State.setupScans
  cases cmd : s.cu.cmd with
  | none =>
    simp only [Option.map_none]
    rw [← cmd]
  | some c =>
    by_cases waits : c.stage = .setupWait
    · simp [waits, State.setCmdStage, cmd]
    · simp only [if_neg waits, Option.map_some]
      rw [← cmd]

/-- Settles O37, by the branches of `scanRead`; the ends of a scan are `endScan_spec`. -/
theorem mountScan : Obligations.MountScan := by
  refine ⟨fun s a o last reply scanning => ?read, fun s d high waits copy trav => ?deferred⟩
  case read =>
    intro judged ends
    have scanning : s.portFreed.store.trav = some (.scan o last) := scanning
    have ended (u : State) (port : u.port = s.portFreed.port) (cu : u.cu = s.cu) : ends u.endScan := by
      obtain ⟨-, reload, setup, neither, -⟩ := u.endScan_spec
      refine ⟨fun h => ?_, fun p no cmd => ?_, fun no other => ?_⟩
      · simpa only [cu, port] using reload (cu ▸ h)
      · exact (setup p (cu ▸ no) (cu ▸ cmd)).congr port (by rw [cu]; rfl)
      · simpa only [cu, port] using neither (cu ▸ no) (by simpa only [State.cmdStage, cu] using other)
    have frame (u : State) (same : OnlyChanges [.port, .store, .cu] s.portFreed u) :
        OnlyChanges [.port, .store, .cu] s u := .of_portFreed (by simp) same
    refine ⟨_, (Runs.scanRead reply).exec_eq, ?_, fun bad => ?_, fun h fine good isEnd => ?_,
      fun h fine good record => ?_⟩
    · refine frame _ ?_
      simp only [State.scanRead, scanning]
      split
      · exact State.endScan_spec _ |>.2.2.2.2
      · split
        · exact State.endScan_spec _ |>.2.2.2.2
        · split
          · simp [onlyChanges_iff]
          · simp [onlyChanges_iff]
    · have stops : s.portFreed.scanRead a = s.portFreed.endScan := by
        simp only [State.scanRead, scanning]
        rcases bad with failed | bad
        · rw [if_pos failed]
        · have bad : judgeScan s.portFreed.storeSize o a.words = none := bad
          rw [bad, ite_self]
      rw [stops]
      exact ⟨State.endScan_spec _ |>.1, ended _ rfl rfl⟩
    · have good : judgeScan s.portFreed.storeSize o a.words = some h := good
      simp only [State.scanRead, scanning, fine, good, isEnd, if_true]
      refine ⟨(State.endScan_spec _).1.trans ?_, ended _ rfl rfl⟩
      cases last <;> rfl
    · have good : judgeScan s.portFreed.storeSize o a.words = some h := good
      simp only [State.scanRead, scanning, fine, good, if_neg record]
      exact ⟨rfl, rfl, rfl⟩
  case deferred =>
    have due : s.mountDue = true := by simp [State.mountDue, State.enginesIdle, waits, copy, trav]
    refine ⟨_, (Runs.deferredScan high due waits).exec_eq, ?_, s.setupScans_cu, ?_, ?_⟩
    · have same : s.setupScans.store = s.store := by
        unfold State.setupScans
        split
        · split <;> simp
        · rfl
      simp [State.startScan, same]
    · have same : s.setupScans.port = s.port := by
        unfold State.setupScans
        split
        · split <;> simp
        · rfl
      simp only [Presents, State.startScan, State.present_port, State.setStore_port, same]
      rfl
    · unfold State.setupScans
      split
      · split <;> simp [onlyChanges_iff]
      · simp [onlyChanges_iff]

end Sys2Proof.Machine

/-! The Port Bridge: the cuts of an accepted transaction, pieces that pass, and the reads of the status word
(R3 to R8, R11, R13, R26, R171, R179). -/

namespace Sys2Proof.Machine

/-! ## The cuts of a transaction (R5) -/

/-- A cut of at least one word begins with a piece at its first word. -/
theorem State.cut_head (s : State) (b : Burst) (first n : Nat) :
    ∃ p ps, s.cut b first (n + 1) = p :: ps ∧ p.first = first := by
  rw [State.cut]
  split
  · exact ⟨_, _, rfl, rfl⟩
  · split
    · exact ⟨_, _, rfl, rfl⟩
    · exact ⟨_, _, rfl, rfl⟩

/-- A piece of one area alone. -/
def State.Uniform (s : State) (b : Burst) (p : Piece) : Prop :=
  1 ≤ p.len ∧ ∀ i < p.len, s.areaOf (wordAddr b (p.first + i)) = s.areaOf (wordAddr b p.first)

/-- The cut falls between two pieces where the area changes. -/
def State.ChangesArea (s : State) (b : Burst) (p q : Piece) : Prop :=
  s.areaOf (wordAddr b (p.first + p.len - 1)) ≠ s.areaOf (wordAddr b q.first)

/-- Each piece but the last ends where the area changes. -/
def State.CutApart (s : State) (b : Burst) : List Piece → Prop
  | p :: q :: ps => s.ChangesArea b p q ∧ s.CutApart b (q :: ps)
  | _ => True

theorem State.CutApart.changes {s : State} {b : Burst} {ps : List Piece} (h : s.CutApart b ps) {i : Nat} {p q : Piece}
    (here : ps[i]? = some p) (next : ps[i + 1]? = some q) : s.ChangesArea b p q := by
  induction i generalizing ps with
  | zero =>
    match ps with
    | [] => simp at here
    | [_] => simp at next
    | _ :: _ :: _ =>
      obtain ⟨apart, -⟩ := h
      cases here
      cases next
      exact apart
  | succ i ih =>
    match ps with
    | [] => simp at here
    | [_] => simp at here
    | _ :: _ :: _ =>
      obtain ⟨-, rest⟩ := h
      exact ih rest here next

/-- The pieces of a cut hold the words in order, are of one area each, and end where the area changes. -/
theorem State.cut_spec (s : State) (b : Burst) (n first : Nat) :
    ((s.cut b first n).flatMap fun p => List.range' p.first p.len) = List.range' first n
      ∧ (∀ p ∈ s.cut b first n, s.Uniform b p)
      ∧ s.CutApart b (s.cut b first n) := by
  induction n generalizing first with
  | zero => exact ⟨rfl, by simp [State.cut], trivial⟩
  | succ n ih =>
    obtain ⟨words, uniform, chain⟩ := ih (first + 1)
    have single : s.Uniform b { first := first, len := 1 } :=
      ⟨Nat.le_refl 1, fun i small => by rw [Nat.lt_one_iff.mp small]; rfl⟩
    rw [State.cut]
    split
    · next rest =>
      rw [rest] at words
      have none : n = 0 := by simpa using congrArg List.length words.symm
      subst none
      exact ⟨rfl, by simpa using single, trivial⟩
    · next q qs rest =>
      have begins : q.first = first + 1 := by
        cases n with
        | zero => simp [State.cut] at rest
        | succ n =>
          obtain ⟨p, ps, cut, starts⟩ := s.cut_head b (first + 1) n
          rw [cut, List.cons.injEq] at rest
          rw [← rest.1, starts]
      rw [rest] at words uniform chain
      obtain ⟨long, area⟩ := uniform q List.mem_cons_self
      simp only [List.flatMap_cons] at words
      rw [List.range'_succ, ← words]
      split
      · next same =>
        refine ⟨?_, ?_, ?_⟩
        · simp [List.range'_succ, begins]
        · refine List.forall_mem_cons.mpr ⟨⟨by simp, fun i small => ?_⟩, fun p mem => uniform p (by simp [mem])⟩
          cases i with
          | zero => rfl
          | succ i =>
            have inner := area i (by simpa using small)
            rw [begins] at inner
            rw [same, ← inner, Nat.add_right_comm]
            rfl
        · cases qs with
          | nil => trivial
          | cons r rs =>
            obtain ⟨apart, rest⟩ := chain
            have ends : first + (q.len + 1) - 1 = q.first + q.len - 1 := by omega
            refine ⟨?_, rest⟩
            simp only [State.ChangesArea] at apart ⊢
            rwa [ends]
      · next differs =>
        refine ⟨by simp, List.forall_mem_cons.mpr ⟨single, uniform⟩, ?_, chain⟩
        simp only [State.ChangesArea, Nat.add_sub_cancel, begins]
        exact differs

/-- A piece of one area is not cut again. -/
theorem State.cut_uniform {s : State} {b : Burst} {first n : Nat} {a : Area}
    (area : ∀ i < n + 1, s.areaOf (wordAddr b (first + i)) = a) :
    s.cut b first (n + 1) = [{ first := first, len := n + 1 }] := by
  induction n generalizing first with
  | zero => rfl
  | succ n ih =>
    have rest := ih (first := first + 1) fun i small => by
      rw [← area (i + 1) (by omega)]
      congr 2
      omega
    have same : s.areaOf (wordAddr b first) = s.areaOf (wordAddr b (first + 1)) :=
      (area 0 (by omega)).trans (area 1 (by omega)).symm
    rw [State.cut, rest]
    simp [same]

theorem State.Uniform.cut {s : State} {b : Burst} {p : Piece} (h : s.Uniform b p) :
    s.cut b p.first p.len = [p] := by
  obtain ⟨first, len⟩ := p
  obtain ⟨long, area⟩ := h
  cases len with
  | zero => simp at long
  | succ n => exact State.cut_uniform area

theorem State.recut_uniform {s : State} {b : Burst} {ps : List Piece} (h : ∀ p ∈ ps, s.Uniform b p) :
    s.recut b ps = ps := by
  induction ps with
  | nil => rfl
  | cons p ps ih =>
    have head := (h p List.mem_cons_self).cut
    have tail := ih fun q mem => h q (List.mem_cons_of_mem p mem)
    rw [State.recut] at tail ⊢
    rw [List.flatMap_cons, head, tail]
    rfl

theorem State.recut_cut (s : State) (b : Burst) (first n : Nat) :
    s.recut b (s.cut b first n) = s.cut b first n :=
  State.recut_uniform (s.cut_spec b n first).2.1

/-! ## Acceptance (R3 to R5, R11, R13) -/

theorem State.settle_onlyChanges (s : State) (x : Txn) : OnlyChanges [.bridge] s (s.settle x) := by
  simp [onlyChanges_iff]

theorem State.finishPiece_onlyChanges (s : State) (ws : List Word) (e : Bool) :
    OnlyChanges [.bridge] s (s.finishPiece ws e) := by
  simp [onlyChanges_iff]

/-- Where every piece is discarded, each is counted, and the transaction is answered OK (R6, R11, R13). -/
theorem Settles.of_discards {s t : State} {x : Txn} {ps : List Piece} (h : Settles s t x ps)
    (discards : ∀ p ∈ ps, s.treatment x p = .discard) :
    t.bridge = { s.bridge with
      guard := s.bridge.guard + BitVec.ofNat 16 ps.length, txn := none,
      answer := some { tag := x.burst.tag, error := x.error, words := x.words } } := by
  obtain ⟨ended, rest, rfl, -, waits, bridge⟩ := h
  have none_left : rest = [] := by
    cases rest with
    | nil => rfl
    | cons p ps =>
      have later := waits p rfl
      rw [discards p (by simp)] at later
      cases later
  subst none_left
  have beyond : (ended.filter fun p => s.treatment x p == .beyond) = [] := by
    simp only [List.filter_eq_nil_iff, beq_iff_eq]
    intro p mem is
    rw [discards p (by simpa using mem)] at is
    cases is
  have discarded : (ended.filter fun p => s.treatment x p == .discard) = ended := by
    simp only [List.filter_eq_self, beq_iff_eq]
    exact fun p mem => discards p (by simpa using mem)
  rw [bridge, State.bridgeAfter, beyond, discarded]
  simp

/-- Settles O26: `accept` cuts the burst by `cut` and treats its pieces by `settle`. -/
theorem transactionAccepted : Obligations.TransactionAccepted := by
  intro s b wf up
  refine ⟨fun free => ?accepted, fun busy => ?stalled⟩
  case stalled =>
    simp [exec, execTransactionAccept, wf, State.whenAwake, Option.isNone_iff_eq_none, busy]
  case accepted =>
    obtain ⟨words, uniform, chain⟩ := s.cut_spec b b.len 0
    have settles := s.settle_spec
      { burst := b, cls := s.bridge.classes[b.tag], pieces := s.cut b 0 b.len, stage := .untreated, words := [],
        error := false }
    refine ⟨_, s.cut b 0 b.len, (Runs.accept up wf free).exec_eq, s.settle_onlyChanges _, settles,
      words.trans List.range_eq_range'.symm, uniform, fun i p q here next => ?_, fun write slots => ?_⟩
    · exact chain.changes here next
    · have discards : ∀ p ∈ s.cut b 0 b.len, s.treatment
          { burst := b, cls := s.bridge.classes[b.tag], pieces := s.cut b 0 b.len, stage := .untreated,
            words := [], error := false } p = .discard := by
        intro p mem
        have inside : p.first ∈ List.range b.len := by
          rw [List.range_eq_range', ← words]
          have long := (uniform p mem).1
          exact List.mem_flatMap.mpr ⟨p, mem, List.mem_range'_1.mpr ⟨Nat.le_refl _, by omega⟩⟩
        obtain ⟨k, slot⟩ := slots p.first (List.mem_range.mp inside)
        simp [State.treatment, slot, write]
      have recut := s.recut_cut b 0 b.len
      rw [show (State.recut s b (s.cut b 0 b.len)) = _ from recut] at settles
      refine (settles.of_discards discards).trans ?_
      rw [← free]

/-! ## The end of a piece that an answer ends -/

theorem PieceEnds.of_portFreed {s t : State} {x : Txn} {ws : List Word} {e : Bool}
    (h : PieceEnds s.portFreed t x ws e) : PieceEnds s t x ws e :=
  PieceEnds.congr (s := s) (u := s.portFreed) rfl ⟨rfl, rfl⟩ rfl ⟨rfl, rfl, rfl⟩ rfl h

/-- The front piece ends after the transaction has been put at a stage. -/
theorem State.finishPiece_setTxn (s : State) (x : Txn) (ws : List Word) (e : Bool) :
    PieceEnds s ((s.setTxn (some x)).finishPiece ws e) x ws e :=
  PieceEnds.congr (s := s) (u := s.setTxn (some x)) rfl ⟨rfl, rfl⟩ rfl ⟨rfl, rfl, rfl⟩ rfl
    (State.finishPiece_spec rfl ws e)

/-! ## Pieces that pass (R7, R11, R15, R26) -/

theorem pieceBurst_eq (b : Burst) (p : Piece) (addr : Nat) :
    pieceBurst b p addr =
      { tag := b.tag, addr := addr,
        body :=
          match b.body with
          | .read _ => .read p.len
          | .write beats => .write ((beats.drop p.first).take p.len) } := by
  obtain ⟨tag, base, body⟩ := b
  cases body <;> rfl

theorem State.passPiece_spec (s : State) (x : Txn) (p : Piece) (addr : Nat) (final : Bool) :
    (s.passPiece x p addr final).bridge = s.bridgeAt x (.passing final)
      ∧ Presents s (s.passPiece x p addr final) .passThrough (pieceBurst x.burst p addr)
      ∧ OnlyChanges [.bridge, .port] s (s.passPiece x p addr final) :=
  ⟨rfl, rfl, by simp [onlyChanges_iff]⟩

/-- The memory port does not enter the completion of a frame. -/
theorem State.frameCompletes_setPort (s : State) (m : MemoryPort) (i : Fin 3) :
    (s.setPort m).frameCompletes i = (s.frameCompletes i).setPort m := by
  have record : (s.setPort m).slotRec i = s.slotRec i := rfl
  simp only [State.frameCompletes, record, State.setPort_enh, State.setPort_slots, State.setPort_asm]
  split <;> rfl

@[simp] theorem State.frameCompletes_geometry (s : State) (i : Fin 3) :
    (s.frameCompletes i).slots.wc = s.slots.wc ∧ (s.frameCompletes i).slots.hc = s.slots.hc := by
  simp only [State.frameCompletes]
  split <;> exact ⟨rfl, rfl⟩

/-- What the chroma half does: nothing with no slot filling, and with the luma half it completes the frame. -/
theorem State.recordChroma_none {s : State} (idle : s.asm.slot = none) : s.recordChroma = s := by
  simp [State.recordChroma, idle]

theorem State.recordChroma_some {s : State} {i : Fin 3} (slot : s.asm.slot = some i) :
    s.recordChroma = if s.asm.lumaHalf = true then (s.setAsm { s.asm with chromaHalf := true }).frameCompletes i
      else s.setAsm { s.asm with chromaHalf := true } := by
  have slot' : ({ s.asm with chromaHalf := true } : Assembler).slot = some i := slot
  rw [State.recordChroma, if_pos (by simp [slot]), State.completeIfBoth, State.setAsm_asm, slot']
  simp only [Bool.and_true]

theorem State.recordChroma_setPort (s : State) (m : MemoryPort) :
    (s.setPort m).recordChroma = s.recordChroma.setPort m := by
  cases slot : s.asm.slot with
  | none =>
    have slot' : (s.setPort m).asm.slot = none := slot
    rw [State.recordChroma_none slot, State.recordChroma_none slot']
  | some i =>
    have slot' : (s.setPort m).asm.slot = some i := slot
    rw [State.recordChroma_some slot, State.recordChroma_some slot']
    by_cases luma : s.asm.lumaHalf = true
    · rw [if_pos luma, if_pos (show (s.setPort m).asm.lumaHalf = true from luma)]
      exact State.frameCompletes_setPort (s.setAsm { s.asm with chromaHalf := true }) m i
    · rw [if_neg luma, if_neg (show ¬ (s.setPort m).asm.lumaHalf = true from luma)]
      rfl

theorem State.recordChroma_geometry (s : State) :
    s.recordChroma.slots.wc = s.slots.wc ∧ s.recordChroma.slots.hc = s.slots.hc := by
  cases slot : s.asm.slot with
  | none => simp [State.recordChroma_none slot]
  | some i =>
    rw [State.recordChroma_some slot]
    split
    · exact State.frameCompletes_geometry _ i
    · exact ⟨rfl, rfl⟩

theorem State.frameCompletes_onlyChanges (s : State) (i : Fin 3) :
    OnlyChanges [.asm, .slots, .enh] s (s.frameCompletes i) := by
  simp [onlyChanges_iff]

/-- Settles O27, by `passOrEnd` and by the stage `passing` of `passAnswer`. -/
theorem passThrough : Obligations.PassThrough := by
  refine ⟨fun s x p => ⟨fun front => ?passes, fun front => ?ends⟩, fun s a x final got txn stage => ?answer⟩
  case passes =>
    have sends : s.passOrEnd x p = s.passPiece x p (wordAddr x.burst p.first) false := if_pos front.treatment
    obtain ⟨bridge, presents, frame⟩ := s.passPiece_spec x p (wordAddr x.burst p.first) false
    rw [pieceBurst_eq] at presents
    exact ⟨_, sends ▸ (Runs.pass front (.inl rfl)).exec_eq, bridge, presents, frame⟩
  case ends =>
    rcases front with front | front
    · have ends : s.passOrEnd x p = s.settle x := if_neg (by simp [front.treatment])
      exact ⟨_, ends ▸ (Runs.pass front (.inr (.inl rfl))).exec_eq, s.settle_spec x, s.settle_onlyChanges x⟩
    · have ends : s.passOrEnd x p = s.settle x := if_neg (by simp [front.treatment])
      exact ⟨_, ends ▸ (Runs.pass front (.inr (.inr rfl))).exec_eq, s.settle_spec x, s.settle_onlyChanges x⟩
  case answer =>
    have txn : s.portFreed.bridge.txn = some x := txn
    have runs := (Runs.passAnswer got).exec_eq
    simp only [State.passAnswer, txn, stage] at runs
    cases final with
    | false =>
      refine ⟨_, s, runs, by simp, (State.finishPiece_spec txn _ _).of_portFreed,
        fun _ => ⟨rfl, .of_portFreed (by simp) ((State.finishPiece_onlyChanges _ _ _).mono (by simp))⟩,
        fun i h => by simp at h, fun i h => by simp at h⟩
    | true =>
      rw [if_pos rfl, State.portFreed, State.recordChroma_setPort] at runs
      have txn' : (s.recordChroma.setPort { s.port with granted := none }).bridge.txn = some x := by
        simpa [State.portFreed] using txn
      refine ⟨_, s.recordChroma, runs, by simp, ?_, fun idle => ?_, fun i _ slot luma => ?_, fun i _ slot luma => ?_⟩
      · exact PieceEnds.congr (s := s.recordChroma) (u := s.recordChroma.setPort { s.port with granted := none })
          (by simp) ⟨rfl, rfl⟩ rfl ⟨rfl, rfl, rfl⟩ rfl (State.finishPiece_spec txn' _ _)
      · have idle : s.asm.slot = none := by simpa using idle
        rw [State.recordChroma_none idle]
        exact ⟨rfl, by simp [onlyChanges_iff]⟩
      · rw [State.recordChroma_some slot, if_neg (by simp [luma])]
        exact ⟨rfl, by simp, by simp [onlyChanges_iff]⟩
      · rw [State.recordChroma_some slot, if_pos luma]
        exact ⟨rfl, by simp, by simp, by simp, by simp [onlyChanges_iff]⟩

/-! ## The status word (R8, R171, R179) -/

/-- A bit of a word as the field of width 1. -/
theorem getLsbD_of_field {w : Word} {i : Nat} {b : Bool} (h : field w i 1 = b.toNat) : w.getLsbD i = b := by
  rw [← flagAt_eq_getLsbD, flagAt, h]
  cases b <;> rfl

theorem extract_of_field {w : Word} {lo width : Nat} {x : BitVec width} (h : field w lo width = x.toNat) :
    w.extractLsb' lo width = x := by
  refine BitVec.eq_of_toNat_eq ?_
  rw [← field_eq_extract, h]

theorem lastClassCode_lt (c : Option TermClass) : lastClassCode c < 8 := by
  cases c with
  | none => decide
  | some c => exact c.code_lt

theorem ReloadResult.code_lt (r : ReloadResult) : r.code < 4 := by cases r <;> decide

theorem State.statusUpper_ends {s : State} {x : Txn} {p : Piece} {got : List Word} (all : p.len ≤ got.length)
    (error : Bool) : s.statusUpper x p got error = s.finishPiece got error := if_neg (by omega)

theorem State.statusUpper_reads {s : State} {x : Txn} {p : Piece} {got : List Word} (more : got.length < p.len)
    (error : Bool) :
    s.statusUpper x p got error =
      (s.setTxn (some { x with stage := .statusAbove got error })).present .passThrough
        (sideRead x p got.length (p.len - got.length)) := if_pos more

theorem State.statusUpper_onlyChanges (s : State) (x : Txn) (p : Piece) (got : List Word) (error : Bool) :
    OnlyChanges [.bridge, .port] s (s.statusUpper x p got error) := by
  unfold State.statusUpper
  split <;> simp [onlyChanges_iff]

/-- Each field of the status word at its place (R179). -/
theorem State.statusWord_fields (s : State) :
    let f := field s.statusWord
    f 0 1 = (decide (s.bridge.run = .run)).toNat ∧ f 1 1 = s.cu.opened.toNat ∧ f 2 1 = s.cu.cmd.isSome.toNat
      ∧ f 3 1 = 0 ∧ f 4 3 = lastClassCode s.cu.lastClass ∧ f 7 1 = 0 ∧ f 8 8 = s.cu.lastReason.code
      ∧ f 16 1 = s.cu.refusedBusy.toNat ∧ f 17 1 = (!s.cu.notices.isEmpty).toNat
      ∧ f 18 1 = (s.cu.owner == .part).toNat ∧ f 19 1 = s.timer.signal.toNat
      ∧ f 20 2 = s.cu.reloadResult.code ∧ f 22 1 = s.store.formatted.toNat ∧ f 23 1 = s.store.protect.toNat
      ∧ f 24 1 = s.store.position.isNone.toNat ∧ s.statusWord.toNat < 2 ^ 25 := by
  have run : s.bridge.run.code = (decide (s.bridge.run = .run)).toNat := by cases s.bridge.run <;> rfl
  have b0 := Bool.toNat_le (decide (s.bridge.run = .run))
  have b1 := Bool.toNat_le s.cu.opened
  have b2 := Bool.toNat_le s.cu.cmd.isSome
  have b4 := lastClassCode_lt s.cu.lastClass
  have b8 := s.cu.lastReason.code_lt
  have b16 := Bool.toNat_le s.cu.refusedBusy
  have b17 := Bool.toNat_le (!s.cu.notices.isEmpty)
  have b18 := Bool.toNat_le (s.cu.owner == .part)
  have b19 := Bool.toNat_le s.timer.signal
  have b20 := s.cu.reloadResult.code_lt
  have b22 := Bool.toNat_le s.store.formatted
  have b23 := Bool.toNat_le s.store.protect
  have b24 := Bool.toNat_le s.store.position.isNone
  simp only [field, State.statusWord, BitVec.toNat_ofNat, State.statusBits, bit_eq_toNat, run]
  refine ⟨?_, ?_, ?_, ?_, ?_, ?_, ?_, ?_, ?_, ?_, ?_, ?_, ?_, ?_, ?_, ?_⟩ <;> omega

/-- The status word has been taken: a CONTROL master's read drops ATTN (R8, R171). -/
def State.statusTaken (s : State) (x : Txn) : State :=
  if x.cls = .control then s.setCu { s.cu with attn := false } else s

theorem State.statusTaken_cu (s : State) (x : Txn) :
    (s.statusTaken x).cu = if x.cls = .control then { s.cu with attn := false } else s.cu := by
  unfold State.statusTaken
  split <;> rfl

theorem State.statusTaken_msgAddr (s : State) (x : Txn) : (s.statusTaken x).cu.msgAddr = s.cu.msgAddr := by
  rw [State.statusTaken_cu]
  split <;> rfl

theorem State.statusTaken_onlyChanges (s : State) (x : Txn) : OnlyChanges [.cu] s (s.statusTaken x) := by
  unfold State.statusTaken
  split <;> simp [onlyChanges_iff]

/-- A read with the status word begins with the words below it, where there are any. -/
theorem State.statusPiece_eq (s : State) (x : Txn) (p : Piece) :
    s.statusPiece x p =
      if 2 - (wordAddr x.burst p.first - s.ctrlBase) / 4 = 0 then
        ((s.statusTaken x).setTxn (some x)).statusUpper x p [s.statusWord] false
      else
        (((s.statusTaken x).setTxn (some x)).setTxn (some { x with stage := .statusBelow s.statusWord })).present
          .passThrough (sideRead x p 0 (2 - (wordAddr x.burst p.first - s.ctrlBase) / 4)) := rfl

theorem State.statusPiece_onlyChanges (s : State) (x : Txn) (p : Piece) :
    OnlyChanges [.bridge, .port, .cu] s (s.statusPiece x p) := by
  refine ((s.statusTaken_onlyChanges x).mono (by simp)).trans ?_
  rw [State.statusPiece_eq]
  split
  · refine OnlyChanges.trans ?_ ((State.statusUpper_onlyChanges _ _ _ _ _).mono (by simp))
    simp [onlyChanges_iff]
  · simp [onlyChanges_iff]

/-- Settles O24: the word by its fields, and its reads by `statusPiece` and the stages of `passAnswer`. -/
theorem statusWordRead : Obligations.StatusWordRead := by
  refine ⟨fun s => ?fields, fun s x p front => ?read, fun s a x p ps sw got txn pieces stage => ?below,
    fun s a x got error reply txn stage => ?above⟩
  case fields =>
    intro w flag
    obtain ⟨run, opened, busy, three, cls, seven, reason, refused, notices, owner, signal, reload, formatted,
      protect, position, top⟩ := s.statusWord_fields
    refine ⟨getLsbD_of_field run, getLsbD_of_field opened, getLsbD_of_field busy, getLsbD_of_field three,
      extract_of_field (cls.trans ?_), getLsbD_of_field seven, ?_, getLsbD_of_field refused,
      getLsbD_of_field (notices.trans ?_), getLsbD_of_field (owner.trans ?_), getLsbD_of_field signal,
      extract_of_field (reload.trans ?_), getLsbD_of_field formatted, getLsbD_of_field protect,
      getLsbD_of_field position, fun i high => ?_⟩
    · cases s.cu.lastClass with
      | none => rfl
      | some c => cases c <;> rfl
    · rw [← field_eq_extract, reason]
    · simp only [Notices.isEmpty, ne_eq, decide_not]
      rfl
    · cases s.cu.owner <;> rfl
    · cases s.cu.reloadResult <;> rfl
    · exact Nat.testBit_lt_two_pow (Nat.lt_of_lt_of_le top (Nat.pow_le_pow_right (by decide) high))
  case read =>
    intro first
    have kept := s.statusTaken_onlyChanges x
    have bridge : (s.statusTaken x).bridge = s.bridge := kept .bridge (by simp)
    have port : (s.statusTaken x).port = s.port := kept .port (by simp)
    have slots : (s.statusTaken x).slots = s.slots := kept .slots (by simp)
    have comp : (s.statusTaken x).comp = s.comp := kept .comp (by simp)
    have store : (s.statusTaken x).store = s.store := kept .store (by simp)
    refine ⟨_, (Runs.statusWord front).exec_eq, ?_, fun at2 alone => ?_, fun at2 more => ?_, fun below => ?_,
      s.statusPiece_onlyChanges x p⟩
    · rw [State.statusPiece_eq, ← State.statusTaken_cu]
      split
      · exact (State.statusUpper_onlyChanges _ _ _ _ _) .cu (by simp)
      · rfl
    · rw [State.statusPiece_eq, if_pos (by omega), State.statusUpper_ends (by simp [alone])]
      refine ⟨?_, by simp [port]⟩
      exact PieceEnds.congr (s := s) (u := s.statusTaken x) (by rw [bridge]) (by rw [slots]; exact ⟨rfl, rfl⟩)
        (by rw [comp]) (by rw [store]; exact ⟨rfl, rfl, rfl⟩) (s.statusTaken_msgAddr x)
        (State.finishPiece_setTxn _ x _ _)
    · rw [State.statusPiece_eq, if_pos (by omega), State.statusUpper_reads (by simpa using more)]
      simp only [Presents, State.present_port, State.present_bridge, State.setTxn, State.bridgeAt,
        State.setBridge_bridge, State.setBridge_port, bridge, port]
      exact ⟨trivial, rfl⟩
    · rw [State.statusPiece_eq, if_neg (by omega)]
      simp only [Presents, State.present_port, State.present_bridge, State.setTxn, State.bridgeAt,
        State.setBridge_bridge, State.setBridge_port, bridge, port]
      exact ⟨trivial, rfl⟩
  case below =>
    have txn : s.portFreed.bridge.txn = some x := txn
    have runs := (Runs.passAnswer got).exec_eq
    simp only [State.passAnswer, txn, stage, pieces] at runs
    refine ⟨_, runs, fun more => ?_, fun all => ?_,
      .of_portFreed (by simp) (State.statusUpper_onlyChanges _ _ _ _ _)⟩
    · rw [State.statusUpper_reads (by simpa using more)]
      simp only [sideRead, List.length_append, List.length_singleton, ← Nat.add_assoc]
      exact ⟨rfl, rfl⟩
    · rw [State.statusUpper_ends (by simpa using all)]
      exact ⟨(State.finishPiece_spec txn _ _).of_portFreed, by simp⟩
  case above =>
    have txn : s.portFreed.bridge.txn = some x := txn
    have runs := (Runs.passAnswer reply).exec_eq
    simp only [State.passAnswer, txn, stage] at runs
    exact ⟨_, runs, (State.finishPiece_spec txn _ _).of_portFreed, by simp,
      .of_portFreed (by simp) ((State.finishPiece_onlyChanges _ _ _).mono (by simp))⟩

end Sys2Proof.Machine

/-! The newest slot, takes and releases, and the completion of a frame (R18, R19, R21, R27). -/

namespace Sys2Proof.Machine

/-! ## The newest slot (R18) -/

/-- A slot's place among the COMPLETE ones: by distance back, and on equal distances by index. -/
def State.slotRank (s : State) (i : Fin 3) : Nat := 3 * (s.slotRec i).age s.timer.frameNumber + i

/-- The choice is the best of the COMPLETE slots among those listed. -/
def State.BestOf (s : State) (seen : List (Fin 3)) (best : Option (Fin 3)) : Prop :=
  (best = none → ∀ j ∈ seen, (s.slotRec j).state ≠ .complete)
    ∧ ∀ i, best = some i → i ∈ seen ∧ (s.slotRec i).state = .complete
        ∧ ∀ j ∈ seen, (s.slotRec j).state = .complete → s.slotRank i ≤ s.slotRank j

/-- Looking at the slot of the next index keeps the choice the best. -/
theorem State.BestOf.next {s : State} {seen : List (Fin 3)} {best : Option (Fin 3)} (h : s.BestOf seen best)
    {i : Fin 3} (later : ∀ j ∈ seen, j < i) :
    s.BestOf (i :: seen) (s.slots.newer s.timer.frameNumber best i) := by
  obtain ⟨empty, chosen⟩ := h
  have record (j : Fin 3) : s.slots.recs[j] = s.slotRec j := rfl
  simp only [SlotManager.newer, record]
  by_cases complete : (s.slotRec i).state = .complete
  · rw [if_pos complete]
    cases best with
    | none =>
      refine ⟨by simp, fun k is => ?_⟩
      cases is
      refine ⟨by simp, complete, fun j mem cj => ?_⟩
      rcases List.mem_cons.mp mem with rfl | mem
      · exact Nat.le_refl _
      · exact absurd cj (empty rfl j mem)
    | some b =>
      obtain ⟨mem, cb, least⟩ := chosen b rfl
      have before : (b : Nat) < i := later b mem
      have small := i.isLt
      dsimp only
      by_cases closer : (s.slotRec i).age s.timer.frameNumber < (s.slotRec b).age s.timer.frameNumber
      · rw [if_pos closer]
        refine ⟨by simp, fun k is => ?_⟩
        cases is
        refine ⟨by simp, complete, fun j mem' cj => ?_⟩
        rcases List.mem_cons.mp mem' with rfl | mem'
        · exact Nat.le_refl _
        · have best := least j mem' cj
          simp only [State.slotRank] at best ⊢
          omega
      · rw [if_neg closer]
        refine ⟨by simp, fun k is => ?_⟩
        cases is
        refine ⟨by simp [mem], cb, fun j mem' cj => ?_⟩
        rcases List.mem_cons.mp mem' with rfl | mem'
        · simp only [State.slotRank]
          omega
        · exact least j mem' cj
  · rw [if_neg complete]
    refine ⟨fun none => ?_, fun k is => ?_⟩
    · exact List.forall_mem_cons.mpr ⟨complete, empty none⟩
    · obtain ⟨mem, ck, least⟩ := chosen k is
      exact ⟨by simp [mem], ck, List.forall_mem_cons.mpr ⟨fun ci => absurd ci complete, least⟩⟩

theorem State.newest_best (s : State) : s.BestOf [2, 1, 0] s.newest := by
  have start : s.BestOf [] none := ⟨by simp, by simp⟩
  exact ((start.next (i := 0) (by simp)).next (i := 1) (by simp)).next (i := 2) (by simp)

theorem mem_slots (i : Fin 3) : i ∈ ([2, 1, 0] : List (Fin 3)) := by revert i; decide

theorem State.newest_eq_none_iff (s : State) : s.newest = none ↔ ∀ i, (s.slotRec i).state ≠ .complete := by
  obtain ⟨empty, chosen⟩ := s.newest_best
  refine ⟨fun none i => empty none i (mem_slots i), fun none => ?_⟩
  cases is : s.newest with
  | none => rfl
  | some i => exact absurd (chosen i is).2.1 (none i)

theorem State.slotRank_injective (s : State) : Function.Injective s.slotRank := by
  intro i j same
  have := i.isLt
  have := j.isLt
  simp only [State.slotRank] at same
  exact Fin.ext (by omega)

theorem State.newest_eq_some_iff (s : State) (i : Fin 3) :
    s.newest = some i ↔ (s.slotRec i).state = .complete
      ∧ ∀ j, (s.slotRec j).state = .complete → s.slotRank i ≤ s.slotRank j := by
  obtain ⟨empty, chosen⟩ := s.newest_best
  constructor
  · intro is
    obtain ⟨-, complete, least⟩ := chosen i is
    exact ⟨complete, fun j => least j (mem_slots j)⟩
  · rintro ⟨complete, least⟩
    cases is : s.newest with
    | none => exact absurd complete (empty is i (mem_slots i))
    | some k =>
      obtain ⟨-, ck, leastK⟩ := chosen k is
      exact congrArg some (s.slotRank_injective (Nat.le_antisymm (leastK i (mem_slots i) complete) (least k ck)))

/-- The newest slot stays while no slot but others of the COMPLETE ones is emptied, and frame numbers stand. -/
theorem State.newest_congr {s t : State} (now : t.timer.frameNumber = s.timer.frameNumber)
    (frames : ∀ j, (t.slotRec j).frame = (s.slotRec j).frame)
    (states : ∀ j, (t.slotRec j).state = (s.slotRec j).state
      ∨ (s.slotRec j).state = .complete ∧ (t.slotRec j).state ≠ .complete ∧ s.newest ≠ some j) :
    t.newest = s.newest := by
  have rank (j : Fin 3) : t.slotRank j = s.slotRank j := by
    simp only [State.slotRank, SlotRec.age, now, frames]
  have fewer (j : Fin 3) (complete : (t.slotRec j).state = .complete) : (s.slotRec j).state = .complete := by
    rcases states j with same | ⟨was, -⟩
    · rw [← same, complete]
    · exact was
  cases is : s.newest with
  | none =>
    have none := s.newest_eq_none_iff.mp is
    exact t.newest_eq_none_iff.mpr fun i complete => none i (fewer i complete)
  | some i =>
    obtain ⟨complete, least⟩ := (s.newest_eq_some_iff i).mp is
    refine (t.newest_eq_some_iff i).mpr ⟨?_, fun j cj => ?_⟩
    · rcases states i with same | ⟨-, -, other⟩
      · rw [same, complete]
      · exact absurd is other
    · rw [rank, rank]
      exact least j (fewer j cj)

theorem State.newest_releaseHold (s : State) (i : Fin 3) : (s.releaseHold i).newest = s.newest := by
  refine State.newest_congr (by simp) (fun j => ?_) (fun j => ?_)
  · rw [State.releaseHold_slotRec]
    split
    · next same => rw [same]
    · rfl
  · rw [State.releaseHold_slotRec]
    split
    · next same =>
      subst same
      dsimp only
      split
      · next gone => exact .inr ⟨gone.2.1, by simp, gone.2.2⟩
      · exact .inl rfl
    · exact .inl rfl

/-! ## The completion of a frame (R27) -/

theorem State.frameCompletes_slotRec (s : State) (i j : Fin 3) :
    (s.frameCompletes i).slotRec j =
      if i = j then { s.slotRec i with state := .complete }
      else if (s.slotRec j).state = .complete ∧ (s.slotRec j).hold = 0 then
        { s.slotRec j with state := .empty }
      else s.slotRec j := by
  rw [State.slotRec_eq, State.frameCompletes_slots]
  exact s.slots.completeFrame_rec i j

theorem State.frameCompletes_enh (s : State) (i : Fin 3) :
    (s.frameCompletes i).enh =
      if !(s.slotRec i).broken && s.enh.latch.auto then s.enh.track s.asm.wc s.asm.hc else s.enh := by
  simp only [State.frameCompletes]
  split <;> rfl

/-- Settles O43, by the rank of a COMPLETE slot and the records after a release and a completion. -/
theorem slotsCompleteAndHold : Obligations.SlotsCompleteAndHold := by
  refine ⟨fun s => ⟨fun i is => ?newest, s.newest_eq_none_iff, fun i j => ?release, s.newest_releaseHold,
    fun i j => ?take⟩, fun s i => ⟨_, rfl, ?own, fun frame alone => ?becomes, fun j other => ?others, ?slots,
    s.frameCompletes_asm i, fun unbroken auto => ?tracks, fun quiet => ?stays,
    (s.frameCompletes_onlyChanges i).mono (by simp)⟩⟩
  case newest =>
    obtain ⟨complete, least⟩ := (s.newest_eq_some_iff i).mp is
    refine ⟨complete, fun j cj => ?_⟩
    have rank := least j cj
    have := i.isLt
    have := j.isLt
    simp only [State.slotRank, SlotRec.age] at rank
    omega
  case release =>
    have left : (s.slotRec i).hold - 1 = 0 ↔ (s.slotRec i).hold ≤ 1 := by omega
    simp only [State.releaseHold_slotRec, left, eq_comm (a := j)]
  case take => simp only [State.takeHold_slotRec, eq_comm (a := j)]
  case own => rw [State.frameCompletes_slotRec, if_pos rfl]
  case becomes =>
    refine ((s.frameCompletes i).newest_eq_some_iff i).mpr ⟨?_, fun j complete => ?_⟩
    · rw [State.frameCompletes_slotRec, if_pos rfl]
    · by_cases same : i = j
      · subst same
        exact Nat.le_refl _
      · have age (k : Fin 3) : ((s.frameCompletes i).slotRec k).frame = (s.slotRec k).frame := by
          rw [State.frameCompletes_slotRec]
          split
          · next same => rw [same]
          · split <;> rfl
        have was : (s.slotRec j).state = .complete := by
          rw [State.frameCompletes_slotRec, if_neg same] at complete
          split at complete
          · cases complete
          · exact complete
        have apart : (s.timer.frameNumber - (s.slotRec j).frame).toNat ≠ 0 := fun zero =>
          alone j (Ne.symm same) was (by bv_omega)
        have := i.isLt
        have now : (s.timer.frameNumber - s.timer.frameNumber).toNat = 0 := by
          rw [BitVec.sub_self]
          rfl
        simp only [State.slotRank, SlotRec.age, age, frame, State.frameCompletes_timer, now]
        omega
  case others =>
    rw [State.frameCompletes_slotRec, if_neg (Ne.symm other)]
    split <;> rfl
  case slots =>
    rw [State.frameCompletes_slots]
    rfl
  case tracks => rw [State.frameCompletes_enh, if_pos (by simp [unbroken, auto])]
  case stays =>
    rw [State.frameCompletes_enh, if_neg]
    rcases quiet with broken | manual
    · simp [broken]
    · simp [manual]

end Sys2Proof.Machine

/-! The reports of control-page writes, the command pointer and RESTART (R8, R150 to R154, R161). -/

namespace Sys2Proof.Machine

/-! ## The end of a report (R8) -/

theorem State.reports.asReport {s : State} {x : Txn} {p : Piece} {k i : Nat} {b : Beat}
    (h : s.reports x p k i b) : s.reportsAs x p k (reportOf i x.cls b) := by
  obtain ⟨up, next, rfl, rfl⟩ := h
  exact ⟨up, next, rfl⟩

theorem State.endReport_spec {s u : State} (bridge : u.bridge = s.bridge) (x : Txn) (p : Piece) (k : Nat) :
    ReportEnds s u.port (u.endReport x p k) x p k := by
  unfold ReportEnds State.endReport
  split
  · exact ⟨by simp [State.setTxn, State.bridgeAt, bridge], by simp⟩
  · exact ⟨by simp [State.passPiece, State.setTxn, State.bridgeAt, bridge], rfl⟩

theorem State.endReport_onlyChanges (u : State) (x : Txn) (p : Piece) (k : Nat) :
    OnlyChanges [.bridge, .port] u (u.endReport x p k) := by
  unfold State.endReport
  split <;> simp [onlyChanges_iff]

section
variable {s : State} {x : Txn} {p : Piece} {k : Nat}

/-- A report that sets the open sequence and no more. -/
theorem State.setControl_reported (opened armed : Bool) :
    ((s.setControl opened armed).endReport x p k).cu = { s.cu with opened := opened, armed := armed }
      ∧ ReportEnds s s.port ((s.setControl opened armed).endReport x p k) x p k
      ∧ OnlyChanges [.bridge, .port, .cu] s ((s.setControl opened armed).endReport x p k) := by
  have frame := (s.setControl opened armed).endReport_onlyChanges x p k
  refine ⟨frame .cu (by simp), State.endReport_spec (u := s.setControl opened armed) rfl x p k, ?_⟩
  refine OnlyChanges.trans ?_ (frame.mono (by simp))
  simp [onlyChanges_iff]

end

/-! ## The command pointer (R153, R154) -/

/-- The completion event of a command whose packet was not read, as a stage of it (R165). -/
theorem State.complete_reads_unread {s : State} {st : CmdStage} (o : Result)
    (cmd : s.cu.cmd = some { packet := none, stage := st }) :
    let w : MessageWrite :=
      { addr := s.cu.msgAddr, words := s.messageWords o 0 false false false, second := false }
    CommandReads s (s.complete o) none (.message w o.cls o.reason) .message w.upper := by
  simpa [State.complete, State.completeWith, cmd] using s.setCmdStage_reads cmd _ .message _

theorem State.pointerGood_iff (s : State) (w : Word) :
    s.pointerGood w = true ↔ w.toNat % 16 = 0 ∧ w.toNat ≤ 0x1FFFFF0
      ∧ ∀ j < 4, s.areaOf (w.toNat + 4 * j) = .elsewhere := by
  simp only [State.pointerGood, List.all_cons, List.all_nil, Bool.and_eq_true, beq_iff_eq, decide_eq_true_eq,
    and_true, and_assoc]
  refine and_congr_right fun _ => and_congr_right fun _ => ⟨?_, fun all => ?_⟩
  · rintro ⟨first, second, third, fourth⟩ j small
    match j, small with
    | 0, _ => exact first
    | 1, _ => exact second
    | 2, _ => exact third
    | 3, _ => exact fourth
  · exact ⟨all 0 (by decide), all 1 (by decide), all 2 (by decide), all 3 (by decide)⟩

theorem State.writePointer_onlyChanges (s : State) (w : Word) :
    OnlyChanges [.port, .cu] s (s.writePointer w) := by
  unfold State.writePointer State.takePointer
  dsimp only
  repeat' split
  all_goals simp [onlyChanges_iff]

/-- Settles O28, by the report that a written word is and by the branches of `writePointer`. -/
theorem controlPageReports : Obligations.ControlPageReports := by
  refine ⟨fun s x p k i b rep => ?reports, fun s x p k b rep cls enables => ?pointer⟩
  case reports =>
    intro interpreted acts
    have acts_of {c : Instr} {opened armed : Bool}
        (runs : Runs c s ((s.setControl opened armed).endReport x p k)) : acts c opened armed :=
      ⟨_, runs.exec_eq, State.setControl_reported opened armed⟩
    have rep := rep.asReport
    refine ⟨fun read zero one => ⟨fun idle => ?_, fun armed => ?_⟩, fun read zero one three => ?_,
      fun read zero three closed => ?_, fun plain => ?_⟩
    · have is : reportOf i x.cls b = .openWord := by simp [reportOf, read.1, read.2, zero, one]
      exact acts_of (.arm (is ▸ rep) idle)
    · have is : reportOf i x.cls b = .openWord := by simp [reportOf, read.1, read.2, zero, one]
      exact acts_of (.opens (is ▸ rep) armed)
    · have is : reportOf i x.cls b = .closeWord := by
        rw [reportOf, if_pos ⟨read.1, read.2⟩, if_pos zero, if_neg one, if_neg three]
      exact acts_of (.closes (is ▸ rep))
    · have is : reportOf i x.cls b = .restartWord := by simp [reportOf, read.1, read.2, zero, three]
      exact acts_of (.restartClosed (is ▸ rep) closed)
    · have is : reportOf i x.cls b = .plain := by
        unfold reportOf
        rcases plain with other | far
        · exact if_neg other
        · rw [if_neg (show i ≠ 0 by omega), if_neg (show i ≠ 1 by omega), ite_self]
      exact acts_of (.plainReport (is ▸ rep))
  case pointer =>
    have is : reportOf 1 x.cls b = .pointer b.data := by simp [reportOf, cls, enables]
    have runs := Runs.pointer (is ▸ rep.asReport)
    have kept := (s.setControl s.cu.opened false).writePointer_onlyChanges b.data
    have ended := ((s.setControl s.cu.opened false).writePointer b.data).endReport_onlyChanges x p k
    refine ⟨_, ((s.setControl s.cu.opened false).writePointer b.data).port, runs.exec_eq,
      State.endReport_spec (kept .bridge (by simp)) x p k, ?_, ?_⟩
    · refine OnlyChanges.trans ?_ ((kept.mono (by simp)).trans (ended.mono (by simp)))
      simp [onlyChanges_iff]
    · rw [show (((s.setControl s.cu.opened false).writePointer b.data).endReport x p k).cu = _ from
        ended .cu (by simp)]
      refine ⟨fun closed => ?_, fun opened busy => ?_, fun opened free loaded => ?_⟩
      · have closed' : (s.setControl s.cu.opened false).cu.opened = false := closed
        simp only [State.writePointer, closed']
        exact ⟨by simp [State.setControl, closed], rfl⟩
      · have opened' : (s.setControl s.cu.opened false).cu.opened = true := opened
        have busy' : ((s.setControl s.cu.opened false).cu.cmd.isSome
            || (s.setControl s.cu.opened false).cu.reloadResult == .none) = true := by
          simpa [State.setControl, Option.isSome_iff_ne_none] using busy
        simp only [State.writePointer, opened', busy', if_true]
        exact ⟨by simp [State.setControl, opened], rfl⟩
      · intro good fetch w
        have opened' : (s.setControl s.cu.opened false).cu.opened = true := opened
        have free' : ((s.setControl s.cu.opened false).cu.cmd.isSome
            || (s.setControl s.cu.opened false).cu.reloadResult == .none) = false := by
          simp [State.setControl, free, loaded]
        have takes : (s.setControl s.cu.opened false).writePointer b.data =
            (s.setControl s.cu.opened false).takePointer b.data := by
          simp only [State.writePointer, opened', free']
          rfl
        have good_iff : (s.setControl s.cu.opened false).pointerGood b.data = true ↔ good :=
          State.pointerGood_iff _ _
        rw [takes]
        refine ⟨fun fine => ?_, fun bad => ?_⟩
        · simp only [State.takePointer, if_pos (good_iff.mpr fine)]
          exact ⟨State.presentCommand_port _ _ _, State.presentCommand_cu _ _ _⟩
        · simp only [State.takePointer, if_neg (mt good_iff.mp bad)]
          exact State.complete_reads_unread (Result.refuse .badPointer) rfl

/-! ## The transactions that RESTART aborts (R14, R161) -/

theorem keepUnless_eq_some {sel : Purpose → Bool} {o : Option Request} {r : Request} :
    keepUnless sel o = some r ↔ o = some r ∧ sel r.purpose = false := by
  cases o with
  | none => simp [keepUnless]
  | some q =>
    cases taken : sel q.purpose
    · simp only [keepUnless, taken]
      constructor
      · rintro ⟨⟩
        exact ⟨rfl, taken⟩
      · exact fun h => h.1
    · simp only [keepUnless, taken, if_true]
      constructor
      · rintro ⟨⟩
      · rintro ⟨⟨⟩, other⟩
        rw [taken] at other
        cases other

theorem MemoryPort.withdraw_waiting (m : MemoryPort) (sel : Purpose → Bool) (q : Requester) :
    (m.withdraw sel).waiting q = keepUnless sel (m.waiting q) := by
  cases q <;> rfl

/-- A granted transaction of an aborted operation stays granted and is no longer wanted. -/
theorem MemoryPort.withdraw_granted (m : MemoryPort) (sel : Purpose → Bool) :
    (m.withdraw sel).granted =
      m.granted.map fun g => { g with live := g.live && !sel g.request.purpose } := by
  simp only [MemoryPort.withdraw]
  cases m.granted with
  | none => rfl
  | some g =>
    obtain ⟨request, live⟩ := g
    cases taken : sel request.purpose <;> simp [taken]

/-- The purposes of the transactions that RESTART aborts. -/
def Purpose.restarted (q : Purpose) : Prop :=
  q ∈ [.viewHeader, .popHeader, .copy, .commit, .clearWrite, .moveRead, .advanceRead, .packet, .setupBlock,
    .triggerList, .message, .notice]

theorem Purpose.restarted_iff (q : Purpose) :
    q.restarted ↔ q.storeAborted = true ∨ q.commandAborted = true := by
  cases q <;> simp [Purpose.restarted, Purpose.storeAborted, Purpose.commandAborted]

/-! ## Releases in a row (R21, R98) -/

/-- A record with `n` holds given up; it is emptied where they were the last and it may be. -/
def SlotRec.released (r : SlotRec) (n : Nat) (newest : Bool) : SlotRec :=
  { r with
    hold := r.hold - n,
    state := if 1 ≤ n ∧ r.hold ≤ n ∧ r.state = .complete ∧ newest = false then .empty else r.state }

theorem SlotRec.released_zero (r : SlotRec) (newest : Bool) : r.released 0 newest = r := by
  simp [SlotRec.released]

theorem SlotRec.released_released (r : SlotRec) (m n : Nat) (newest : Bool) :
    (r.released m newest).released n newest = r.released (m + n) newest := by
  simp only [SlotRec.released, SlotRec.mk.injEq, true_and]
  grind

theorem State.releaseOpt_newest (s : State) (o : Option (Fin 3)) : (s.releaseOpt o).newest = s.newest := by
  cases o with
  | none => rfl
  | some i => exact s.newest_releaseHold i

theorem State.releaseOpt_slotRec (s : State) (o : Option (Fin 3)) (i : Fin 3) :
    (s.releaseOpt o).slotRec i = (s.slotRec i).released (holdsSlot o i) (s.newest == some i) := by
  cases o with
  | none => simp [State.releaseOpt, SlotRec.released_zero]
  | some j =>
    simp only [State.releaseOpt, State.releaseHold_slotRec]
    by_cases same : j = i
    · subst same
      have left : (s.slotRec j).hold - 1 = 0 ↔ (s.slotRec j).hold ≤ 1 := by omega
      simp [SlotRec.released, holdsSlot, left]
    · simp [same, holdsSlot, SlotRec.released_zero]

theorem State.releaseStack_slotRec (s : State) (es : List StackEntry) (i : Fin 3) :
    (es.foldl (fun t e => t.releaseOpt e.held) s).slotRec i =
        (s.slotRec i).released (es.map fun e => holdsSlot e.held i).sum (s.newest == some i)
      ∧ (es.foldl (fun t e => t.releaseOpt e.held) s).newest = s.newest := by
  induction es generalizing s with
  | nil => exact ⟨by simp [SlotRec.released_zero], rfl⟩
  | cons e es ih =>
    obtain ⟨record, newest⟩ := ih (s.releaseOpt e.held)
    rw [s.releaseOpt_newest, s.releaseOpt_slotRec, SlotRec.released_released] at record
    exact ⟨by simpa using record, newest.trans (s.releaseOpt_newest _)⟩

/-! ## RESTART, block by block (R161) -/

theorem State.restartStore_store (s : State) :
    s.restartStore.store =
      { (if s.port.grantedFor (· == .clearWrite) = true then s.store.clearFailed else s.store) with
        position := if s.port.grantedFor (· == .commit) = true then none
          else (if s.port.grantedFor (· == .clearWrite) = true then s.store.clearFailed else s.store).position,
        copy := none,
        trav := match s.store.trav with | some (.scan p last) => some (.scan p last) | _ => none } := by
  unfold State.restartStore
  dsimp only
  rw [State.setStore_store, State.setPort_store, State.releaseOpt_store]
  split <;> rfl

theorem State.restart_port (s : State) :
    s.restart.port = (s.port.withdraw Purpose.storeAborted).withdraw Purpose.commandAborted := by
  obtain ⟨m, frame⟩ := s.restartStore.restartView_frame
  have port : s.restartStore.port = s.port.withdraw Purpose.storeAborted := by simp [State.restartStore]
  simp only [State.restart, frame]
  change s.restartStore.port.withdraw _ = _
  rw [port]

theorem State.restart_timer (s : State) :
    s.restart.timer = { s.timer with triggers := s.timer.triggers.map fun e => { e with fired := false } } := by
  obtain ⟨m, frame⟩ := s.restartStore.restartView_frame
  have timer : s.restartStore.timer = s.timer := by simp [State.restartStore]
  simp only [State.restart, frame]
  change ({ s.restartStore.timer with
    triggers := s.restartStore.timer.triggers.map fun e => { e with fired := false } } : Timer) = _
  rw [timer]

theorem State.restart_cu (s : State) :
    s.restart.cu = { s.cu with
      opened := false, armed := false, cmd := none, refusedBusy := false, owner := .host,
      notices := Notices.empty, notice := none, held := none, attn := false } := by
  obtain ⟨m, frame⟩ := s.restartStore.restartView_frame
  have cu : s.restartStore.cu = s.cu := by simp [State.restartStore]
  simp only [State.restart, frame]
  change ({ s.restartStore.cu with
      opened := false, armed := false, cmd := none, refusedBusy := false, owner := .host,
      notices := Notices.empty, notice := none, held := none, attn := false } : CommandUnit) = _
  rw [cu]

theorem State.restart_onlyChanges (s : State) :
    OnlyChanges [.port, .slots, .view, .store, .timer, .cu] s s.restart := by
  obtain ⟨m, frame⟩ := s.restartStore.restartView_frame
  refine OnlyChanges.trans (u := s.restartStore) ?_ ?_
  · simp [onlyChanges_iff, State.restartStore]
  · simp [onlyChanges_iff, State.restart, frame, State.restartTimer, State.restartCommand]

theorem State.restart_slotRec (s : State) (i : Fin 3) :
    s.restart.slotRec i = (s.slotRec i).released
      ((s.view.stack.map fun e => holdsSlot e.held i).sum + holdsSlot s.view.current.held i + holdsSlot s.pin i)
      (s.newest == some i) := by
  have pinned : s.restartStore.slotRec i = (s.slotRec i).released (holdsSlot s.pin i) (s.newest == some i) :=
    s.releaseOpt_slotRec _ i
  have newest : s.restartStore.newest = s.newest := s.releaseOpt_newest _
  have view : s.restartStore.view = s.view := by simp [State.restartStore]
  obtain ⟨stacked, newest'⟩ := s.restartStore.releaseStack_slotRec s.view.stack i
  change s.restartStore.restartView.slotRec i = _
  simp only [State.restartView, view]
  refine (State.releaseOpt_slotRec _ _ i).trans ?_
  rw [newest', stacked, newest, pinned, SlotRec.released_released, SlotRec.released_released]
  congr 1
  omega

theorem State.restart_slots (s : State) : s.restart.slots = { s.slots with recs := s.restart.slots.recs } := by
  have release (u : State) (o : Option (Fin 3)) :
      (u.releaseOpt o).slots = { u.slots with recs := (u.releaseOpt o).slots.recs } := by
    cases o with
    | none => rfl
    | some i =>
      simp only [State.releaseOpt, State.releaseHold]
      split <;> rfl
  have stack (es : List StackEntry) (u : State) : (es.foldl (fun t e => t.releaseOpt e.held) u).slots =
      { u.slots with recs := (es.foldl (fun t e => t.releaseOpt e.held) u).slots.recs } := by
    induction es generalizing u with
    | nil => rfl
    | cons e es ih =>
      rw [List.foldl_cons, ih, release]
  have store : s.restartStore.slots = { s.slots with recs := s.restartStore.slots.recs } := release s _
  change s.restartStore.restartView.slots = { s.slots with recs := s.restartStore.restartView.slots.recs }
  simp only [State.restartView, State.setView_slots]
  rw [release, stack, store]

theorem MemoryPort.grantedFor_unique {m : MemoryPort} {p q : Purpose} (differ : p ≠ q)
    (h : m.grantedFor (· == p) = true) : m.grantedFor (· == q) = false := by
  unfold MemoryPort.grantedFor at *
  split at h
  · simp only [Bool.and_eq_true, beq_iff_eq] at h
    simp [h.2, differ]
  · cases h

/-- Settles O30: RESTART as its effects on the blocks. -/
theorem restartCarriedOut : Obligations.RestartCarriedOut := by
  intro s x p k b rep cls enables word opened aborted
  have is : reportOf 0 x.cls b = .restartWord := by simp [reportOf, cls, enables, word]
  have aborted_iff (q : Purpose) : aborted q ↔ q.storeAborted = true ∨ q.commandAborted = true :=
    q.restarted_iff
  have ended := s.restart.endReport_onlyChanges x p k
  have slots : (s.restart.endReport x p k).slots = s.restart.slots := ended .slots (by simp)
  have store : (s.restart.endReport x p k).store = s.restart.store := ended .store (by simp)
  have storeIs := s.restartStore_store
  rw [← s.restart_store] at storeIs
  have trav : (s.restart.endReport x p k).store.trav =
      match s.store.trav with | some (.scan o n) => some (.scan o n) | _ => none := by
    rw [store, storeIs]
  refine ⟨_, s.restart.port, (Runs.restart (is ▸ rep.asReport) opened).exec_eq,
    State.endReport_spec s.restart_bridge x p k, fun q r => ?_, fun g => ?_, ?_, ?_, ?_, ?_, trav,
    fun commits => ?_, fun clears => ?_, fun commits clears => ?_, ?_, fun i => ?_, ?_⟩
  · rw [s.restart_port, MemoryPort.withdraw_waiting, MemoryPort.withdraw_waiting, keepUnless_eq_some,
      keepUnless_eq_some, aborted_iff, and_assoc, not_or, Bool.not_eq_true, Bool.not_eq_true]
  · rw [s.restart_port, MemoryPort.withdraw_granted, MemoryPort.withdraw_granted]
    cases s.port.granted with
    | none => simp
    | some g' =>
      have wanted : decide (aborted g'.request.purpose) =
          (g'.request.purpose.storeAborted || g'.request.purpose.commandAborted) := by
        simp [aborted_iff]
      obtain ⟨request, live⟩ := g
      simp only [Option.map_some, Option.some.injEq, Grant.mk.injEq, exists_eq_left', wanted, Bool.not_or,
        Bool.and_assoc]
      exact and_congr eq_comm eq_comm
  · rw [show (s.restart.endReport x p k).cu = _ from ended .cu (by simp), s.restart_cu]
  · rw [show (s.restart.endReport x p k).view = _ from ended .view (by simp), s.restart_view]
    rfl
  · rw [show (s.restart.endReport x p k).timer = _ from ended .timer (by simp), s.restart_timer]
  · rw [store, storeIs]
  · rw [trav, store, storeIs, MemoryPort.grantedFor_unique (by decide) commits, commits]
    rfl
  · rw [trav, store, storeIs, MemoryPort.grantedFor_unique (q := .commit) (by decide) clears, clears]
    rfl
  · rw [trav, store, storeIs, commits, clears]
    rfl
  · rw [slots]
    exact s.restart_slots
  · intro r ends
    rw [State.slotRec_eq, slots, ← State.slotRec_eq, s.restart_slotRec]
    simp only [SlotRec.released, beq_eq_false_iff_ne]
    rfl
  · exact (s.restart_onlyChanges.mono (by simp)).trans (ended.mono (by simp))

end Sys2Proof.Machine

/-! Frame starts: the frame that ends, the pending set, and the slot of the new frame (R22 to R25, R30, R31,
R36, R55, R136, R141). -/

namespace Sys2Proof.Machine

/-! ## The NOTICE that is due -/

/-- A NOTICE carries the store and the Command Unit alone, since it reports no counters (R166). -/
theorem NoticeDue.congr {s u t t' : State} {c : CommandUnit} (store : u.store = s.store) (port : u.port = s.port)
    (cu : t'.cu = t.cu) (port' : t'.port = t.port) (h : NoticeDue u c t) : NoticeDue s c t' := by
  have notice : (u.setCu c).noticeOf = (s.setCu c).noticeOf := by
    simp [State.noticeOf, State.messageWords, State.reportWords, store]
  unfold NoticeDue at *
  rw [cu, port', ← notice, ← port]
  exact h

/-! ## The frame that ends (R22, R23) -/

theorem State.endFrame_asm (s : State) :
    s.endFrame.asm = { s.asm with frame := none, queue := [], running := none } := by
  unfold State.endFrame
  dsimp only
  split
  · split <;> rfl
  · rfl

theorem State.endFrame_port (s : State) : s.endFrame.port = s.port.withdraw (· == .lineWrite) := by
  unfold State.endFrame
  dsimp only
  split
  · split <;> rfl
  · rfl

theorem State.endFrame_none {s : State} (idle : s.asm.slot = none) : s.endFrame.slots = s.slots := by
  unfold State.endFrame
  dsimp only
  split
  · next f frame =>
    split
    · next i slot => simp [Assembler.slot, frame, slot] at idle
    · rfl
  · rfl

/-- A FILLING slot becomes EMPTY and is counted (R23). -/
theorem State.endFrame_some {s : State} {i : Fin 3} (fills : s.asm.slot = some i) :
    s.endFrame.slots = { s.slots with
      recs := s.slots.recs.set i { s.slotRec i with state := .empty }, abandoned := s.slots.abandoned + 1 } := by
  unfold State.endFrame
  dsimp only
  split
  · next f frame =>
    have slot : f.slot = some i := by simpa [Assembler.slot, frame] using fills
    simp only [slot]
    rfl
  · next frame => simp [Assembler.slot, frame] at fills

theorem State.endFrame_onlyChanges (s : State) : OnlyChanges [.asm, .port, .slots] s s.endFrame := by
  simp [onlyChanges_iff]

/-! ## The slot of a new frame (R24) -/

theorem State.chooseSlot_empty {s : State} {i : Fin 3} (empty : (s.slotRec i).state = .empty)
    (first : ∀ j, j < i → (s.slotRec j).state ≠ .empty) : s.chooseSlot = some i := by
  have found : (slotIndices.find? fun i => decide ((s.slotRec i).state = .empty)) = some i := by
    match i with
    | 0 => simp [slotIndices, empty]
    | 1 => simp [slotIndices, empty, first 0 (by decide)]
    | 2 => simp [slotIndices, empty, first 0 (by decide), first 1 (by decide)]
  simp only [State.chooseSlot, found]

theorem State.chooseSlot_full {s : State} (full : ∀ i, (s.slotRec i).state ≠ .empty) :
    s.chooseSlot = s.newest.filter fun i => (s.slotRec i).hold == 0 := by
  have none : (slotIndices.find? fun i => decide ((s.slotRec i).state = .empty)) = none := by
    simp [full]
  simp only [State.chooseSlot, none]
  cases s.newest with
  | none => rfl
  | some i => by_cases free : (s.slotRec i).hold = 0 <;> simp [Option.filter, free]

/-- The newest slot depends on the records and the frame number. -/
theorem State.newest_eq {s t : State} (recs : t.slots.recs = s.slots.recs)
    (now : t.timer.frameNumber = s.timer.frameNumber) : t.newest = s.newest := by
  have same (j : Fin 3) : t.slotRec j = s.slotRec j := by rw [State.slotRec_eq, recs, State.slotRec_eq]
  exact State.newest_congr now (fun j => by rw [same]) (fun j => .inl (by rw [same]))

/-! ## The steps of a frame start (R22) -/

/-- The state at step 5: time and signal of the new frame stand and the frame is counted as started. -/
def State.frameBegun (s : State) : State :=
  s.timerFrameStart.setSlots { s.timerFrameStart.slots with started := s.timerFrameStart.slots.started + 1 }

theorem State.frameStart_eq (s : State) :
    let v := s.endFrame.applyPending.frameBegun
    let w := (v.fillSlot v.chooseSlot).freshFrame v.chooseSlot
    s.frameStart = w.setEnh w.enh.latchFrame := rfl

theorem State.timerFrameStart_signal {s : State} (signal : s.timer.signal = true) :
    s.timerFrameStart.cu = s.cu ∧ s.timerFrameStart.port = s.port := by
  simp only [State.timerFrameStart, signal, if_true]
  exact ⟨rfl, rfl⟩

theorem State.timerFrameStart_noticeDue {s : State} (signal : s.timer.signal = false) :
    NoticeDue s { s.cu with notices := { s.cu.notices with signalBack := true, signalLost := false } }
      s.timerFrameStart := by
  simp only [State.timerFrameStart, signal]
  exact noticeDue_setTimer.mp ((s.setTimer s.timer.startFrame).post_noticeDue .signalBack)

theorem State.frameBegun_slots (s : State) :
    s.frameBegun.slots = { s.slots with started := s.slots.started + 1 } := by
  simp [State.frameBegun]

theorem State.frameBegun_timer (s : State) : s.frameBegun.timer = s.timer.startFrame :=
  (State.setSlots_timer _ _).trans s.timerFrameStart_timer

theorem State.frameBegun_slotRec (s : State) (i : Fin 3) : s.frameBegun.slotRec i = s.slotRec i := by
  rw [State.slotRec_eq, State.frameBegun_slots]
  rfl

/-- What step 5 and 6 make of each block. -/
theorem State.frameFilled (v : State) (c : Option (Fin 3)) :
    let w := (v.fillSlot c).freshFrame c
    let t := w.setEnh w.enh.latchFrame
    t.timer = v.timer ∧ t.cu = v.cu ∧ t.port = v.port
      ∧ (c = none → t.slots = { v.slots with dropped := v.slots.dropped + 1 })
      ∧ (∀ i, c = some i → t.slots = { v.slots with recs := v.slots.recs.set i (v.fillingRec i) })
      ∧ t.asm =
          { frame := some { number := v.timer.frameNumber, slot := c },
            mode := if c.isSome then .normal else .dropped,
            wc := v.slots.wc, hc := v.slots.hc, ptr := 0, finalWord := false, lumaHalf := false,
            chromaHalf := false, ring := Vector.replicate 4 .free, queue := [], running := none }
      ∧ t.enh = v.enh.latchFrame
      ∧ OnlyChanges [.slots, .asm, .enh] v t := by
  cases c with
  | none => exact ⟨rfl, rfl, rfl, fun _ => rfl, by simp, rfl, rfl, by simp [onlyChanges_iff]⟩
  | some i =>
    refine ⟨rfl, rfl, rfl, by simp, fun j is => ?_, rfl, rfl, by simp [onlyChanges_iff]⟩
    cases is
    rfl

/-- Settles O38, by the steps of R22 in order. -/
theorem frameStarts : Obligations.FrameStarts := by
  intro s e u t n
  have none_left : e.asm.frame = none := by rw [show e.asm = _ from s.endFrame_asm]
  let v := u.frameBegun
  obtain ⟨timer, cu, port, dropped, filled, asm, enh, frame⟩ := v.frameFilled v.chooseSlot
  have begun : OnlyChanges [.timer, .cu, .port, .slots] u v := by
    simp [onlyChanges_iff, v, State.frameBegun]
  have slots : v.slots = { u.slots with started := u.slots.started + 1 } := u.frameBegun_slots
  have time : v.timer = u.timer.startFrame := u.frameBegun_timer
  have record (i : Fin 3) : v.slotRec i = u.slotRec i := u.frameBegun_slotRec i
  refine ⟨⟨s.endFrame_asm, fun q r => ?waiting, fun g granted => ?granted, fun free => ?free, State.endFrame_none,
    fun i fills => ?abandoned, s.endFrame_onlyChanges⟩, timer.trans time, fun signal => ?there, fun signal => ?back,
    ⟨v.chooseSlot, fun i empty first => ?lowest, fun full => ?full, fun none => ?drops, fun i chosen => ?fills,
      ?frame, ?mode⟩, ?geometry⟩
  case waiting =>
    rw [show e.port = _ from s.endFrame_port, MemoryPort.withdraw_waiting, keepUnless_eq_some]
    simp
  case granted =>
    rw [show e.port = _ from s.endFrame_port, MemoryPort.withdraw_granted, granted]
    rfl
  case free =>
    rw [show e.port = _ from s.endFrame_port, MemoryPort.withdraw_granted, free]
    rfl
  case abandoned =>
    have after := State.endFrame_some fills
    refine ⟨fun j => ?_, by rw [show e.slots = _ from after]⟩
    rw [State.slotRec_eq, show e.slots = _ from after]
    by_cases same : j = i
    · subst same
      simp
    · simp [same, State.slotRec, Fin.val_inj, Ne.symm same]
  case there =>
    obtain ⟨cuKept, portKept⟩ := State.timerFrameStart_signal signal
    exact ⟨cu.trans cuKept, port.trans portKept⟩
  case back => exact (State.timerFrameStart_noticeDue signal).congr rfl rfl cu port
  case lowest =>
    exact State.chooseSlot_empty (by rw [record, empty]) fun j before => by rw [record]; exact first j before
  case full =>
    rw [State.chooseSlot_full fun i => by rw [record]; exact full i]
    simp only [record]
    congr 1
    exact State.newest_eq (by simp [slots]) (congrArg Timer.frameNumber timer.symm)
  case drops =>
    rw [show t.slots = _ from dropped none, slots]
  case fills =>
    refine ⟨fun j => ?_, by rw [show t.slots = _ from filled i chosen, slots]⟩
    rw [State.slotRec_eq, show t.slots = _ from filled i chosen]
    by_cases same : j = i
    · subst same
      simp only [State.fillingRec, record, slots, time]
      simp
      rfl
    · rw [if_neg same, ← record]
      simp [State.slotRec, Fin.val_inj, Ne.symm same]
  case frame =>
    rw [show t.asm = _ from asm, time]
    rfl
  case mode =>
    rw [show t.asm = _ from asm]
    cases v.chooseSlot <;> simp
  case geometry =>
    have enhKept : v.enh = u.enh := begun .enh (by simp)
    rw [show t.asm = _ from asm, show t.enh = _ from enh, enhKept, slots]
    refine ⟨rfl, rfl, rfl, rfl, rfl, rfl, fun i => ?_, rfl, rfl, rfl, rfl, fun i => ?_, ?_⟩
    · simp
    · simp [Enhancer.latchFrame]
    · exact (begun.mono (by simp)).trans (frame.mono (by simp))

/-! ## The pending set (R30, R31, R54, R70, R97) -/

theorem State.newGeometry_onlyChanges (s : State) :
    OnlyChanges [.slots, .comp, .view, .cu, .port] s s.newGeometry := by
  unfold State.newGeometry
  dsimp only
  split <;> simp [onlyChanges_iff]

theorem State.newGeometry_slotRec (s : State) (i : Fin 3) :
    s.newGeometry.slotRec i = { s.slotRec i with state := .empty, hold := 0 } := by
  rw [State.slotRec_eq, State.newGeometry_slots]
  simp [SlotRec.emptied, State.slotRec]

/-- A FROZEN view turns LIVE with a VIEW_RESET notice; another stands. -/
theorem State.newGeometry_view_reset (s : State) :
    s.newGeometry.view.stack = s.view.stack.map (fun e => { e with standing := false })
      ∧ (s.view.current.held = none →
          s.newGeometry.view.current = s.view.current ∧ s.newGeometry.cu = s.cu ∧ s.newGeometry.port = s.port)
      ∧ (s.view.current.held ≠ none →
          s.newGeometry.view.current = { s.view.current with source := .live }
            ∧ NoticeDue s { s.cu with notices := { s.cu.notices with viewReset := true } } s.newGeometry) := by
  refine ⟨by rw [State.newGeometry_view]; rfl, fun free => ⟨?_, ?_⟩, fun held => ⟨?_, ?_⟩⟩
  · simp [State.newGeometry_view, ViewController.dropHolds, free]
  · simp [State.newGeometry, free]
  · simp [State.newGeometry_view, ViewController.dropHolds, Option.isSome_iff_ne_none, held]
  · have is : s.newGeometry = (((s.setSlots { s.slots with recs := s.slots.recs.map SlotRec.emptied }).setComp
        { s.comp with latch := s.comp.latch.released }).setView s.view.dropHolds).post .viewReset := by
      simp only [State.newGeometry, Option.isSome_iff_ne_none.mpr held, if_true]
      rfl
    rw [is]
    exact NoticeDue.congr (s := s) (u := ((s.setSlots { s.slots with recs := s.slots.recs.map SlotRec.emptied }).setComp
        { s.comp with latch := s.comp.latch.released }).setView s.view.dropHolds) rfl rfl rfl rfl
      (State.post_noticeDue _ .viewReset)

/-- Settles O39, by `applyStaged` and `newGeometry`. -/
theorem pendingSetApplied : Obligations.PendingSetApplied := by
  intro s g staged
  refine ⟨fun copying => ?waits, fun idle => ⟨s.applyStaged g, ?applies, ?_⟩⟩
  case waits =>
    simp [State.applyPending, staged, Option.isNone_iff_eq_none, copying]
  case applies =>
    simp [State.applyPending, staged, idle]
  · let u := (s.setEnh { s.enh with force := putInForce g.t g.g g.b g.wp g.auto g.a }).setSlots
      { s.slots with wc := g.wc, hc := g.hc, staged := none }
    by_cases same : s.slots.wc = g.wc ∧ s.slots.hc = g.hc
    · have is : s.applyStaged g = u := if_pos same
      rw [is]
      exact ⟨by simp [u, putInForce, toneSlope], rfl, by simp [onlyChanges_iff, u], fun _ _ => ⟨rfl, by simp [onlyChanges_iff, u]⟩,
        fun differs => absurd same differs⟩
    · have is : s.applyStaged g = u.newGeometry := if_neg same
      obtain ⟨stack, free, frozen⟩ := u.newGeometry_view_reset
      have kept := u.newGeometry_onlyChanges
      rw [is]
      refine ⟨(kept .enh (by simp)).trans (by simp [u, putInForce, toneSlope]), by rw [State.newGeometry_slots]; rfl, ?_, fun wc hc => absurd ⟨wc, hc⟩ same,
        fun _ => ⟨fun i => u.newGeometry_slotRec i, u.newGeometry_comp, stack, free, fun held => ?_⟩⟩
      · refine OnlyChanges.trans (u := u) ?_ (kept.mono (by simp))
        simp [onlyChanges_iff, u]
      · obtain ⟨current, due⟩ := frozen held
        exact ⟨current, NoticeDue.congr (s := s) (u := u) rfl rfl rfl rfl due⟩

end Sys2Proof.Machine

/-! Luma of the capture frame: words in order, raw pieces, breaks and held pieces (R28, R37 to R48, R59). -/

namespace Sys2Proof.Machine

/-! ## A word in order (R38 to R40) -/

theorem Assembler.placeWord_ring (a : Assembler) (w : Word) (i : Fin 4) :
    (a.placeWord w).ring[i] =
      if i.val = a.lineIndex % 4 then .line a.lineIndex (a.lineBytes a.lineIndex ++ bytesOfWord w)
      else a.ring[i] := by
  simp only [Assembler.placeWord, Fin.getElem_fin, Vector.getElem_set, ringIndex, eq_comm (a := a.lineIndex % 4)]

/-- The last word of a line completes it. -/
def State.wordPlaced (s : State) (w : Word) : State :=
  if (s.asm.ptr + 4) % s.asm.wc = 0 then (s.setAsm (s.asm.placeWord w)).lineCompleted s.asm.lineIndex
  else s.setAsm (s.asm.placeWord w)

theorem State.wordPlaced_asm (s : State) (w : Word) :
    (s.wordPlaced w).asm = { s.asm.placeWord w with
      queue := s.asm.queue
        ++ if (s.asm.ptr + 4) % s.asm.wc = 0 then dueItems s.asm.hc s.asm.lineIndex else [] } := by
  unfold State.wordPlaced
  split
  · simp [State.lineCompleted, Assembler.placeWord]
  · simp [Assembler.placeWord]

theorem State.takeWord_eq (s : State) (w : Word) :
    s.takeWord w =
      if s.asm.ptr + 4 = s.asm.wc * s.asm.hc then
        (s.wordPlaced w).setAsm { (s.wordPlaced w).asm with finalWord := true }
      else s.wordPlaced w := by
  have ptr : (s.wordPlaced w).asm.ptr = s.asm.ptr + 4 := by rw [s.wordPlaced_asm]; rfl
  have wc : (s.wordPlaced w).asm.wc = s.asm.wc := by rw [s.wordPlaced_asm]; rfl
  have hc : (s.wordPlaced w).asm.hc = s.asm.hc := by rw [s.wordPlaced_asm]; rfl
  rw [← ptr, ← wc, ← hc]
  rfl

theorem State.takeWord_asm (s : State) (w : Word) :
    (s.takeWord w).asm = { s.asm with
      ring := (s.asm.placeWord w).ring, ptr := s.asm.ptr + 4,
      queue := s.asm.queue
        ++ if (s.asm.ptr + 4) % s.asm.wc = 0 then dueItems s.asm.hc s.asm.lineIndex else [],
      finalWord := s.asm.finalWord || decide (s.asm.ptr + 4 = s.asm.wc * s.asm.hc) } := by
  rw [s.takeWord_eq]
  split
  · next last =>
    rw [State.setAsm_asm, s.wordPlaced_asm]
    simp [Assembler.placeWord, last]
  · next more =>
    rw [s.wordPlaced_asm]
    simp [Assembler.placeWord, more]

theorem State.takeWord_onlyChanges (s : State) (w : Word) :
    OnlyChanges [.asm]
      (if (s.asm.ptr + 4) % s.asm.wc = 0 then (s.setAsm (s.asm.placeWord w)).lineEvent s.asm.lineIndex else s)
      (s.takeWord w) := by
  rw [s.takeWord_eq]
  unfold State.wordPlaced State.lineCompleted
  repeat' split
  all_goals simp [onlyChanges_iff]

/-! ## Breaks (R43, R44, R59) -/

theorem State.markBroken_slots {s : State} {i : Fin 3} (fills : s.asm.slot = some i) :
    (∀ j, s.markBroken.slotRec j = if j = i then { s.slotRec i with broken := true } else s.slotRec j)
      ∧ s.markBroken.slots = { s.slots with
        recs := s.markBroken.slots.recs,
        broken := s.slots.broken + if (s.slotRec i).broken then 0 else 1 } := by
  simp only [State.markBroken, fills]
  split
  · next broken =>
    refine ⟨fun j => ?_, by simp⟩
    split
    · next same =>
      subst same
      generalize s.slotRec j = r at broken
      cases r
      simp_all
    · rfl
  · next sound =>
    refine ⟨fun j => ?_, rfl⟩
    have set := s.setRec_slotRec i j { s.slotRec i with broken := true }
    simp only [eq_comm (a := j)]
    exact set

theorem State.markBroken_none {s : State} (idle : s.asm.slot = none) : s.markBroken = s := by
  simp only [State.markBroken, idle]

/-! ## Raw pieces (R45, R46, R48) -/

/-- A piece of at most 8 words of a frame whose lines are longer holds the end of a line exactly when one of its
words is the last of the line. -/
theorem lineEndIn_some {wc o len line : Nat} (wide : 64 ≤ wc) (short : len ≤ 8)
    (ends : ∃ k < len, o + 4 * k + 4 = (line + 1) * wc) : lineEndIn wc o len = some line := by
  obtain ⟨k, small, is⟩ := ends
  have next : (line + 1 + 1) * wc = (line + 1) * wc + wc := Nat.succ_mul _ _
  have stop : (o + 4 * len - 4 + 4) / wc = line + 1 := Nat.div_eq_of_lt_le (by omega) (by omega)
  have before : o / wc < line + 1 := (Nat.div_lt_iff_lt_mul (by omega)).mpr (by omega)
  simp [lineEndIn, stop, before]

theorem lineEndIn_none {wc o len : Nat} (wide : 64 ≤ wc) (words : wc % 4 = 0) (aligned : o % 4 = 0)
    (long : 1 ≤ len) (nowhere : ∀ line, ¬ ∃ k < len, o + 4 * k + 4 = (line + 1) * wc) :
    lineEndIn wc o len = none := by
  have last : o + 4 * len - 4 + 4 = o + 4 * len := by omega
  simp only [lineEndIn, last]
  refine if_neg fun ends => ?_
  obtain ⟨line, stop⟩ := Nat.exists_eq_add_one.mpr (Nat.zero_lt_of_lt ends)
  rw [stop] at ends
  have begins : o < (line + 1) * wc := (Nat.div_lt_iff_lt_mul (by omega)).mp ends
  have within : (line + 1) * wc ≤ o + 4 * len := by
    rw [← stop]
    exact Nat.div_mul_le_self _ _
  have whole : (line + 1) * wc % 4 = 0 := by rw [Nat.mul_mod, words]; simp
  exact nowhere line ⟨((line + 1) * wc - o) / 4 - 1, by omega, by omega⟩

/-- A raw piece placed in the ring, before the line event and the final word. -/
def State.rawPlaced (s : State) (i : Fin 4) (o : Nat) (beats : List Beat) : State :=
  s.setAsm { s.asm with
    ring := s.asm.ring.set i (.piece o beats), queue := s.asm.queue ++ [.rawPiece i], lumaHalf := false }

theorem State.takeRaw_eq (s : State) (i : Fin 4) (o : Nat) (beats : List Beat) :
    let v := (s.rawPlaced i o beats).pieceLineEvent o beats.length
    s.takeRaw i o beats =
      if o ≤ s.asm.wc * s.asm.hc - 4 ∧ s.asm.wc * s.asm.hc - 4 < o + 4 * beats.length then
        v.setAsm { v.asm with finalWord := true }
      else v := by
  intro v
  have asm : v.asm = (s.rawPlaced i o beats).asm := by simp [v]
  have wc : v.asm.wc = s.asm.wc := by rw [asm]; rfl
  have hc : v.asm.hc = s.asm.hc := by rw [asm]; rfl
  rw [← wc, ← hc]
  rfl

/-- Settles O41: a word in order by `takeWord`, a break by `sequenceBreak`, a raw piece by `takeRaw`. -/
theorem lineRingAndBreaks : Obligations.LineRingAndBreaks := by
  refine ⟨fun s w => ?word, fun s => ?breaks, fun s i o beats => ?raw⟩
  case word =>
    intro m ends due old
    refine ⟨_, _, rfl, rfl, fun i => ?_, ?_, s.takeWord_onlyChanges w⟩
    · rw [s.takeWord_asm]
      exact s.asm.placeWord_ring w i
    · rw [s.takeWord_asm]
      rfl
  case breaks =>
    intro m
    refine ⟨_, rfl, ?_, ?_, ?_, fun i => ?_, fun i fills => ?_, fun idle => ?_, ?_⟩
    · simp only [State.sequenceBreak, State.setAsm_asm, State.setEnh_asm, State.markBroken_asm]
      rw [List.append_assoc]
      rfl
    · simp [State.sequenceBreak]
    · simp [State.sequenceBreak]
    · simp [State.sequenceBreak]
    · have fills' : (s.setAsm { s.asm with queue := s.asm.queue ++ s.asm.breakItems }).asm.slot = some i := fills
      exact State.markBroken_slots fills'
    · have idle' : (s.setAsm { s.asm with queue := s.asm.queue ++ s.asm.breakItems }).asm.slot = none := idle
      simp only [State.sequenceBreak, State.markBroken_none idle']
      rfl
    · simp [onlyChanges_iff, State.sequenceBreak]
  case raw =>
    intro u last
    refine ⟨_, u.pieceLineEvent o beats.length, rfl, ?_, fun wide words aligned long short =>
      ⟨fun line ends => ?_, fun none => ?_⟩, ?_⟩
    · rw [s.takeRaw_eq]
      split
      · next final =>
        simp only [State.setAsm_asm, State.pieceLineEvent_asm]
        simp [final, last, u, State.rawPlaced]
      · next more =>
        simp only [State.pieceLineEvent_asm]
        simp [more, last, u, State.rawPlaced]
    · have line_is : lineEndIn u.asm.wc o beats.length = some line := lineEndIn_some wide short ends
      simp only [State.pieceLineEvent, line_is]
    · have line_is : lineEndIn u.asm.wc o beats.length = Option.none :=
        lineEndIn_none wide words aligned long none
      simp only [State.pieceLineEvent, line_is]
    · rw [s.takeRaw_eq]
      split
      · simp [onlyChanges_iff, u, State.rawPlaced]
      · exact .refl _ _

/-! ## Words taken one at a time (R38, R39) -/

/-- The words taken, and those left once one finds its ring entry in use. -/
theorem State.takeInOrder_spec (s : State) (bs : List Beat) :
    ∃ taken left, bs = taken ++ left
      ∧ s.takeInOrder bs = (taken.foldl (fun v b => v.takeWord b.data) s, left)
      ∧ (∀ k < taken.length, ((taken.take k).foldl (fun v b => v.takeWord b.data) s).asm.entryBusy = false)
      ∧ (left ≠ [] → (taken.foldl (fun v b => v.takeWord b.data) s).asm.entryBusy = true) := by
  induction bs generalizing s with
  | nil => exact ⟨[], [], rfl, rfl, by simp, by simp⟩
  | cons b bs ih =>
    by_cases busy : s.asm.entryBusy = true
    · exact ⟨[], b :: bs, rfl, by simp [State.takeInOrder, busy], by simp, fun _ => busy⟩
    · obtain ⟨taken, left, rfl, made, free, stuck⟩ := ih (s.takeWord b.data)
      refine ⟨b :: taken, left, rfl, by simp [State.takeInOrder, busy, made], fun k small => ?_, stuck⟩
      cases k with
      | zero => simpa using busy
      | succ k => exact free k (by simpa using small)

theorem State.takeWords_bridge (s : State) (bs : List Beat) :
    (bs.foldl (fun v b => v.takeWord b.data) s).bridge = s.bridge := by
  induction bs generalizing s with
  | nil => rfl
  | cons b bs ih => rw [List.foldl_cons, ih, State.takeWord_bridge]

/-- An in-order piece is taken word by word and ends, or is held (R38, R39). -/
theorem State.orderedLuma_takes {s : State} {x : Txn} (txn : s.bridge.txn = some x) (p : Piece) (taken : Nat) :
    TakesWords s (s.orderedLuma x p taken) x p taken := by
  obtain ⟨words, left, split, made, free, stuck⟩ := s.takeInOrder_spec ((pieceBeats x.burst p).drop taken)
  have txn' : (words.foldl (fun v b => v.takeWord b.data) s).bridge.txn = some x := by
    rw [State.takeWords_bridge, txn]
  refine ⟨words, left, split, free, fun none => ?_, fun some => ⟨stuck some, ?_⟩⟩
  · have ends : s.orderedLuma x p taken =
        (words.foldl (fun v b => v.takeWord b.data) s).finishPiece [] false := by
      simp [State.orderedLuma, made, none]
    rw [ends]
    exact ⟨State.finishPiece_spec txn' [] false, State.finishPiece_onlyChanges _ _ _⟩
  · simp [State.orderedLuma, made, some]

/-! ## Raw pieces in the lowest free entry (R45) -/

theorem Assembler.freeEntry_lowest {a : Assembler} {i : Fin 4} (free : a.ring[i] = .free)
    (first : ∀ j : Fin 4, j < i → a.ring[j] ≠ .free) : a.freeEntry = some i := by
  match i with
  | 0 => simp_all [Assembler.freeEntry]
  | 1 =>
    have zero := first 0 (by decide)
    simp_all [Assembler.freeEntry]
  | 2 =>
    have zero := first 0 (by decide)
    have one := first 1 (by decide)
    simp_all [Assembler.freeEntry]
  | 3 =>
    have zero := first 0 (by decide)
    have one := first 1 (by decide)
    have two := first 2 (by decide)
    simp_all [Assembler.freeEntry]

theorem Assembler.freeEntry_none {a : Assembler} (full : ∀ i : Fin 4, a.ring[i] ≠ .free) : a.freeEntry = none := by
  simp only [Assembler.freeEntry, List.find?_eq_none, beq_iff_eq]
  exact fun i _ => full i

theorem mem_entries (i : Fin 4) : i ∈ ([0, 1, 2, 3] : List (Fin 4)) := by revert i; decide

theorem Assembler.freeEntry_isSome {a : Assembler} (free : ∃ i : Fin 4, a.ring[i] = .free) :
    a.freeEntry.isSome = true := by
  obtain ⟨i, free⟩ := free
  simp only [Assembler.freeEntry, List.find?_isSome, beq_iff_eq]
  exact ⟨i, mem_entries i, free⟩

/-- A raw piece is taken into the lowest free entry and ends, or is held (R45; log entry 18). -/
theorem State.rawLuma_takes {s : State} {x : Txn} (txn : s.bridge.txn = some x) (p : Piece) :
    TakesRaw s (s.rawLuma x p) x (s.apertureOffset x p) (pieceBeats x.burst p) := by
  refine ⟨fun i free first => ?_, fun full => ?_⟩
  · have ends : s.rawLuma x p =
        (s.takeRaw i (s.apertureOffset x p) (pieceBeats x.burst p)).finishPiece [] false := by
      simp only [State.rawLuma, Assembler.freeEntry_lowest free first]
    have txn' : (s.takeRaw i (s.apertureOffset x p) (pieceBeats x.burst p)).bridge.txn = some x := by simpa using txn
    rw [ends]
    exact ⟨State.finishPiece_spec txn' [] false, State.finishPiece_onlyChanges _ _ _⟩
  · simp only [State.rawLuma, Assembler.freeEntry_none full]

theorem Assembler.inOrder_iff (a : Assembler) (o : Nat) (beats : List Beat) :
    a.inOrder o beats = true ↔ o = a.ptr ∧ ∀ b ∈ beats, b.be = 0xF := by
  simp [Assembler.inOrder]

/-- A luma piece by the frame in progress and its mode (R28, R37, R44, R47). -/
theorem State.judgeLuma_spec {u : State} {x : Txn} (txn : u.bridge.txn = some x) (p : Piece) :
    let o := u.apertureOffset x p
    let beats := pieceBeats x.burst p
    let inOrder := o = u.asm.ptr ∧ ∀ b ∈ beats, b.be = 0xF
    let t := u.judgeLuma x p
    (u.asm.frame = none →
        PieceEnds (u.setBridge { u.bridge with guard := u.bridge.guard + 1 }) t x [] false
          ∧ OnlyChanges [.bridge] u t)
      ∧ (u.asm.frame ≠ none → u.asm.mode = .normal → inOrder → TakesWords u t x p 0)
      ∧ (u.asm.frame ≠ none → u.asm.mode = .normal → ¬ inOrder → TakesRaw u.sequenceBreak t x o beats)
      ∧ (u.asm.frame ≠ none → u.asm.mode = .raw → TakesRaw u t x o beats)
      ∧ (u.asm.frame ≠ none → u.asm.mode = .dropped →
          ∃ v, v = (u.setAsm { u.asm with ptr := o + 4 * p.len }).pieceLineEvent o p.len
            ∧ PieceEnds v t x [] false ∧ OnlyChanges [.bridge] v t) := by
  intro o beats inOrder t
  cases frame : u.asm.frame with
  | none =>
    refine ⟨fun _ => ?_, fun some => absurd rfl some, fun some => absurd rfl some, fun some => absurd rfl some,
      fun some => absurd rfl some⟩
    have is : t = u.discardPiece := by simp only [t, State.judgeLuma, frame]
    rw [is]
    exact ⟨State.finishPiece_spec (s := u.countDiscard) txn [] false, by simp [onlyChanges_iff]⟩
  | some f =>
    refine ⟨fun idle => absurd idle (by simp), fun _ mode ordered => ?_, fun _ mode breaks => ?_, fun _ mode => ?_,
      fun _ mode => ?_⟩
    · have is : t = u.orderedLuma x p 0 := by
        simp only [t, State.judgeLuma, frame, mode]
        exact if_pos ((u.asm.inOrder_iff o beats).mpr ordered)
      rw [is]
      exact State.orderedLuma_takes txn p 0
    · have is : t = u.sequenceBreak.rawLuma x p := by
        simp only [t, State.judgeLuma, frame, mode]
        exact if_neg (mt (u.asm.inOrder_iff o beats).mp breaks)
      have offset : u.sequenceBreak.apertureOffset x p = o := by simp [State.apertureOffset, o]
      rw [is, ← offset]
      exact State.rawLuma_takes (by simpa using txn) p
    · have is : t = u.rawLuma x p := by simp only [t, State.judgeLuma, frame, mode]
      rw [is]
      exact State.rawLuma_takes txn p
    · have is : t = (u.trackDropped o p.len).finishPiece [] false := by
        simp only [t, State.judgeLuma, frame, mode, o]
      rw [is]
      exact ⟨_, rfl, State.finishPiece_spec (by simpa using txn) [] false, State.finishPiece_onlyChanges _ _ _⟩

/-- Settles O40, by `judgeLuma` and `resumeHeld`. -/
theorem captureLumaTaken : Obligations.CaptureLumaTaken := by
  refine ⟨fun s x p front => ?piece, fun s x p ps taken up txn pieces stage => ?held⟩
  case piece =>
    intro o u beats inOrder
    have is : s.lumaPiece x p = u.judgeLuma x p := (apply_ite (State.judgeLuma · x p) _ _ _).symm
    have txn : u.bridge.txn = some x := by
      simp only [u]
      split
      · rw [State.frameStart_bridge]
        rfl
      · rfl
    have offset : u.apertureOffset x p = o := by
      have bridge : u.bridge.regions = s.bridge.regions := by
        simp only [u]
        split
        · rw [State.frameStart_bridge]
          rfl
        · rfl
      simp only [State.apertureOffset, bridge]
      rfl
    refine ⟨_, is ▸ (Runs.luma front).exec_eq, ?_⟩
    simpa only [offset] using State.judgeLuma_spec txn p
  case held =>
    intro o
    have resumes : s.resume = s.resumeHeld x p taken := by simp only [State.resume, txn, stage, pieces]
    have runs : exec .heldPieceResume s = .next (s.resumeHeld x p taken) := resumes ▸ (Runs.resume up).exec_eq
    rw [runs]
    refine ⟨fun mode busy => ?_, fun mode free => ?_, fun mode full => ?_, fun mode free => ?_⟩
    · simp only [State.resumeHeld, mode, busy, if_true]
    · refine ⟨_, rfl, ?_⟩
      simp only [State.resumeHeld, mode, free]
      exact State.orderedLuma_takes txn p taken
    · simp [State.resumeHeld, mode, Assembler.freeEntry_none full]
    · refine ⟨_, rfl, ?_⟩
      simp only [State.resumeHeld, mode, Assembler.freeEntry_isSome free, if_true]
      exact State.rawLuma_takes txn p

end Sys2Proof.Machine

/-! The treatment of a piece by its region, and the remapping of chroma writes and aperture reads (R2, R5 to R12,
R26, R28, R29, R120). -/

namespace Sys2Proof.Machine

/-! ## The region map in RUN -/

/-- An address of a region lies in no region apart from it. -/
theorem Span.apart.not_has {x y : Span} {addr : Nat} (h : x.apart y) (inside : y.has addr = true) :
    x.has addr = false := by
  rw [Span.apart_iff] at h
  rw [Span.has_iff] at inside
  rw [← Bool.not_eq_true, Span.has_iff]
  omega

/-- The regions of the map in force, in the order in which an address is looked up (R2). -/
def State.regionMap (s : State) : List Span :=
  [ctrlSpan s.bridge.straps, s.apertureSpan, s.slotSpan 0, s.slotSpan 1, s.slotSpan 2, s.windowSpan, s.storeSpan,
    s.messageSpan]

theorem RegionsInv.regionMap {s : State} (h : RegionsInv s) (run : s.bridge.run = .run) :
    (∀ x ∈ s.regionMap, x.proper) ∧ s.regionMap.Pairwise Span.apart := by
  obtain ⟨proper, fixed, fixedOthers, apertures, windows, stores⟩ := h run
  have a : s.apertureSpan ∈ s.apertures := by simp [State.apertures]
  have w : s.windowSpan ∈ s.windows := by simp [State.windows]
  have t : s.storeSpan ∈ s.storeRegions := by simp [State.storeRegions]
  constructor
  · intro x mem
    refine proper x ?_
    simp only [State.regionMap, List.mem_cons, List.not_mem_nil, or_false] at mem
    rcases mem with rfl | rfl | rfl | rfl | rfl | rfl | rfl | rfl <;>
      simp [State.fixedRegions, a, w, t]
  · simp only [State.fixedRegions, List.pairwise_cons, List.forall_mem_cons, List.not_mem_nil, false_implies,
      implies_true, List.Pairwise.nil, and_true] at fixed
    obtain ⟨⟨c0, c1, c2⟩, ⟨s01, s02⟩, s12⟩ := fixed
    have others {x y : Span} (mem : x ∈ s.fixedRegions)
        (mem' : y ∈ s.apertures ++ s.windows ++ s.storeRegions ++ [s.messageSpan]) : x.apart y :=
      fixedOthers x mem y mem'
    have a' : s.apertureSpan ∈ s.apertures ++ s.windows ++ s.storeRegions ++ [s.messageSpan] := by simp [a]
    have w' : s.windowSpan ∈ s.apertures ++ s.windows ++ s.storeRegions ++ [s.messageSpan] := by simp [w]
    have t' : s.storeSpan ∈ s.apertures ++ s.windows ++ s.storeRegions ++ [s.messageSpan] := by simp [t]
    have m' : s.messageSpan ∈ s.apertures ++ s.windows ++ s.storeRegions ++ [s.messageSpan] := by simp
    have c : ctrlSpan s.bridge.straps ∈ s.fixedRegions := by simp [State.fixedRegions]
    have f0 : s.slotSpan 0 ∈ s.fixedRegions := by simp [State.fixedRegions]
    have f1 : s.slotSpan 1 ∈ s.fixedRegions := by simp [State.fixedRegions]
    have f2 : s.slotSpan 2 ∈ s.fixedRegions := by simp [State.fixedRegions]
    have aw := apertures _ a s.windowSpan (by simp [w])
    have at' := apertures _ a s.storeSpan (by simp [t])
    have am := apertures _ a s.messageSpan (by simp)
    have wt := windows _ w s.storeSpan (by simp [t])
    have wm := windows _ w s.messageSpan (by simp)
    have tm := stores _ t s.messageSpan (by simp)
    simp only [State.regionMap, List.pairwise_cons, List.forall_mem_cons, List.not_mem_nil, false_implies,
      implies_true, List.Pairwise.nil, and_true]
    exact ⟨⟨others c a', c0, c1, c2, others c w', others c t', others c m'⟩,
      ⟨Span.apart_comm.mp (others f0 a'), Span.apart_comm.mp (others f1 a'), Span.apart_comm.mp (others f2 a'), aw,
        at', am⟩,
      ⟨s01, s02, others f0 w', others f0 t', others f0 m'⟩, ⟨s12, others f1 w', others f1 t', others f1 m'⟩,
      ⟨others f2 w', others f2 t', others f2 m'⟩, ⟨wt, wm⟩, tm⟩

theorem State.areaOf_beyond {s : State} {addr : Nat} (above : memoryTop ≤ addr) : s.areaOf addr = .beyond :=
  if_pos above

theorem State.areaOf_control {s : State} {addr : Nat} (below : addr < memoryTop)
    (inside : (ctrlSpan s.bridge.straps).has addr = true) : s.areaOf addr = .control := by
  rw [State.areaOf, if_neg (by omega), if_pos inside]

theorem State.areaOf_bypass_elsewhere {s : State} {addr : Nat} (below : addr < memoryTop)
    (outside : (ctrlSpan s.bridge.straps).has addr = false) (bypass : s.bridge.run = .bypass) :
    s.areaOf addr = .elsewhere := by
  rw [State.areaOf, if_neg (by omega), if_neg (by simp [outside]), bypass]

/-- In RUN an address of a region has that region's area (R2, R5). -/
theorem RegionsInv.areaOf {s : State} (h : RegionsInv s) (run : s.bridge.run = .run) (addr : Nat) :
    (s.apertureSpan.has addr = true → s.areaOf addr =
        if addr < s.bridge.regions.apertureBase + s.slots.wc * s.slots.hc then .apertureLuma
        else .apertureChroma)
      ∧ (∀ i, (s.slotSpan i).has addr = true → s.areaOf addr = .slot i)
      ∧ (s.windowSpan.has addr = true → s.areaOf addr = .viewLuma ∨ s.areaOf addr = .viewChroma)
      ∧ (s.storeSpan.has addr = true → s.areaOf addr = .store)
      ∧ (s.messageSpan.has addr = true → s.areaOf addr = .message) := by
  obtain ⟨proper, apart⟩ := h.regionMap run
  have below {x : Span} (mem : x ∈ s.regionMap) (inside : x.has addr = true) : ¬ memoryTop ≤ addr := by
    have within := (proper x mem).2
    rw [Span.has_iff] at inside
    omega
  simp only [State.regionMap, List.pairwise_cons, List.forall_mem_cons, List.not_mem_nil, false_implies,
    implies_true, List.Pairwise.nil, and_true] at apart
  obtain ⟨⟨ca, c0, c1, c2, cw, ct, cm⟩, ⟨a0, a1, a2, aw, at', am⟩, ⟨s01, s02, w0, t0, m0⟩, ⟨s12, w1, t1, m1⟩,
    ⟨w2, t2, m2⟩, ⟨wt, wm⟩, tm⟩ := apart
  refine ⟨fun inside => ?_, fun i inside => ?_, fun inside => ?_, fun inside => ?_, fun inside => ?_⟩
  · simp only [State.areaOf, below (by simp [State.regionMap]) inside, run, inside, ca.not_has inside]
    rfl
  · match i with
    | 0 =>
      simp [State.areaOf, below (by simp [State.regionMap]) inside, run, inside, c0.not_has inside, a0.not_has inside]
    | 1 =>
      simp [State.areaOf, below (by simp [State.regionMap]) inside, run, inside, c1.not_has inside, a1.not_has inside,
        s01.not_has inside]
    | 2 =>
      simp [State.areaOf, below (by simp [State.regionMap]) inside, run, inside, c2.not_has inside, a2.not_has inside,
        s02.not_has inside, s12.not_has inside]
  · simp only [State.areaOf, below (by simp [State.regionMap]) inside, run, inside, cw.not_has inside,
      aw.not_has inside, w0.not_has inside, w1.not_has inside, w2.not_has inside]
    simp only [Bool.false_eq_true, if_false, if_true]
    split
    · exact .inl rfl
    · exact .inr rfl
  · simp [State.areaOf, below (by simp [State.regionMap]) inside, run, inside, ct.not_has inside, at'.not_has inside,
      t0.not_has inside, t1.not_has inside, t2.not_has inside, wt.not_has inside]
  · simp [State.areaOf, below (by simp [State.regionMap]) inside, run, inside, cm.not_has inside, am.not_has inside,
      m0.not_has inside, m1.not_has inside, m2.not_has inside, wm.not_has inside, tm.not_has inside]

/-- Outside the regions above the message buffer's, an address is the message buffer's or elsewhere. -/
theorem State.areaOf_outside {s : State} {addr : Nat} (below : addr < memoryTop) (run : s.bridge.run = .run)
    (ctrl : (ctrlSpan s.bridge.straps).has addr = false) (aperture : s.apertureSpan.has addr = false)
    (slots : ∀ i, (s.slotSpan i).has addr = false) (window : s.windowSpan.has addr = false)
    (store : s.storeSpan.has addr = false) : s.areaOf addr = .message ∨ s.areaOf addr = .elsewhere := by
  simp only [State.areaOf, if_neg (Nat.not_le.mpr below), ctrl, run, aperture, slots, window, store]
  simp only [Bool.false_eq_true, if_false]
  split
  · exact .inl rfl
  · exact .inr rfl

/-! ## The treatment of a piece by the area of its first word (R6 to R12) -/

/-- The treatment of a piece whose first word lies in an area. -/
def State.treatmentIn (s : State) (x : Txn) (p : Piece) : Area → Treatment
  | .beyond => .beyond
  | .control =>
    if isWrite x.burst then .controlWrite
    else if s.pageIndex (x.burst.addr + 4 * p.first) ≤ 2
        ∧ 2 < s.pageIndex (x.burst.addr + 4 * p.first) + p.len then .statusRead
    else .pass
  | .apertureLuma =>
    if isWrite x.burst then (if x.cls = .capture then .captureLuma else .discard) else .apertureRead
  | .apertureChroma =>
    if isWrite x.burst then (if x.cls = .capture then .captureChroma else .discard) else .apertureRead
  | .slot _ => if isWrite x.burst then .discard else .pass
  | .viewLuma => if !isWrite x.burst && x.cls == .display then .displayRead else .pass
  | .viewChroma => if !isWrite x.burst && x.cls == .display then .displayRead else .pass
  | .store => if isWrite x.burst && s.store.protect then .discard else .pass
  | .message => .pass
  | .elsewhere => .pass

theorem State.treatment_eq {s : State} {x : Txn} {p : Piece} {a : Area}
    (area : s.areaOf (x.burst.addr + 4 * p.first) = a) : s.treatment x p = s.treatmentIn x p a := by
  subst area
  rfl

/-! ## Chroma writes and aperture reads (R9, R10, R26) -/

theorem State.discardPiece_setTxn (s : State) (x : Txn) :
    PieceEnds (s.setBridge { s.bridge with guard := s.bridge.guard + 1 }) (s.setTxn (some x)).discardPiece x []
      false :=
  PieceEnds.congr (s := s.setBridge { s.bridge with guard := s.bridge.guard + 1 })
    (u := (s.setTxn (some x)).countDiscard) rfl ⟨rfl, rfl⟩ rfl ⟨rfl, rfl, rfl⟩ rfl
    (State.finishPiece_spec rfl [] false)

/-- A piece that is sent to another address (R9, R10). -/
theorem State.passPiece_setTxn (s : State) (x : Txn) (p : Piece) (addr : Nat) (final : Bool) :
    ((s.setTxn (some x)).passPiece x p addr final).bridge = s.bridgeAt x (.passing final)
      ∧ Presents s ((s.setTxn (some x)).passPiece x p addr final) .passThrough
          { tag := x.burst.tag, addr := addr,
            body :=
              match x.burst.body with
              | .read _ => .read p.len
              | .write beats => .write ((beats.drop p.first).take p.len) }
      ∧ OnlyChanges [.bridge, .port] s ((s.setTxn (some x)).passPiece x p addr final) := by
  obtain ⟨bridge, presents, -⟩ := (s.setTxn (some x)).passPiece_spec x p addr final
  rw [pieceBurst_eq] at presents
  exact ⟨bridge, presents, by simp [onlyChanges_iff]⟩

/-- Settles O42: the treatments by the area, and the remapped pieces by `chromaPiece` and `apertureRead`. -/
theorem apertureRemapped : Obligations.ApertureRemapped := by
  refine ⟨fun s x p regions => ?treatment, fun s x p => ?remaps⟩
  case treatment =>
    intro addr inside r luma v writes word is
    have ctrl : (ctrlSpan s.bridge.straps).has addr = true ↔ inside s.ctrlBase 64 := Span.has_iff _ _
    have aperture : s.apertureSpan.has addr = true ↔ inside r.apertureBase (2 * luma) := by
      rw [Span.has_iff, State.apertureSpan, Nat.mul_assoc]
    have slot (i : Fin 3) : (s.slotSpan i).has addr = true ↔ inside r.slotBase[i] r.slotSize := Span.has_iff _ _
    have window : s.windowSpan.has addr = true ↔ inside r.viewBase (2 * v.wv * v.hv) := Span.has_iff _ _
    have store : s.storeSpan.has addr = true ↔ s.store.base ≤ addr ∧ addr < s.store.limit := by
      rw [Span.has_iff, State.storeSpan]
      dsimp only
      omega
    have message : s.messageSpan.has addr = true ↔ inside s.cu.msgAddr 64 := Span.has_iff _ _
    refine ⟨fun above => ?beyond, fun page below => ⟨fun w => ?_, fun w low high => ?_, fun w other => ?_⟩,
      fun below outside bypass => ?bypass, fun run => ?run⟩
    case beyond => exact State.treatment_eq (State.areaOf_beyond above)
    · have area := State.treatment_eq (x := x) (p := p) (State.areaOf_control below (ctrl.mpr page))
      exact area.trans (if_pos w)
    · have area := State.treatment_eq (x := x) (p := p) (State.areaOf_control below (ctrl.mpr page))
      exact area.trans ((if_neg w).trans (if_pos ⟨low, high⟩))
    · have area := State.treatment_eq (x := x) (p := p) (State.areaOf_control below (ctrl.mpr page))
      exact area.trans ((if_neg w).trans (if_neg fun both => by
        have low : word ≤ 2 := both.1
        have high : 2 < word + p.len := both.2
        omega))
    case bypass =>
      have outside' : (ctrlSpan s.bridge.straps).has addr = false := by simpa using mt ctrl.mp outside
      exact State.treatment_eq (State.areaOf_bypass_elsewhere below outside' bypass)
    case run =>
      obtain ⟨inAperture, inSlot, inWindow, inStore, inMessage⟩ := regions.areaOf run addr
      refine ⟨fun within => ⟨fun w => ?_, fun w cls low => ?_, fun w cls high => ?_, fun w cls => ?_⟩,
        fun i within => ⟨fun w => ?_, fun w => ?_⟩, fun within => ⟨fun w cls => ?_, fun other => ?_⟩,
        fun low high => ⟨fun w locked => ?_, fun other => ?_⟩, fun within => ?_,
        fun below page ap sl win st => ?_⟩
      · have area := inAperture (aperture.mpr within)
        split at area
        · exact (State.treatment_eq area).trans (if_neg w)
        · exact (State.treatment_eq area).trans (if_neg w)
      · have area := inAperture (aperture.mpr within)
        rw [if_pos low] at area
        exact (State.treatment_eq area).trans ((if_pos w).trans (if_pos cls))
      · have area := inAperture (aperture.mpr within)
        rw [if_neg (Nat.not_lt.mpr high)] at area
        exact (State.treatment_eq area).trans ((if_pos w).trans (if_pos cls))
      · have area := inAperture (aperture.mpr within)
        split at area
        · exact (State.treatment_eq area).trans ((if_pos w).trans (if_neg cls))
        · exact (State.treatment_eq area).trans ((if_pos w).trans (if_neg cls))
      · exact (State.treatment_eq (inSlot i ((slot i).mpr within))).trans (if_pos w)
      · exact (State.treatment_eq (inSlot i ((slot i).mpr within))).trans (if_neg w)
      · have composed : (!isWrite x.burst && x.cls == .display) = true := by
          simp only [writes] at w
          simp [w, cls]
        rcases inWindow (window.mpr within) with area | area
        · exact (State.treatment_eq area).trans (if_pos composed)
        · exact (State.treatment_eq area).trans (if_pos composed)
      · have passed : ¬ (!isWrite x.burst && x.cls == .display) = true := by
          rcases other with w | cls
          · simp only [writes] at w
            simp [w]
          · simp [cls]
        rcases inWindow (window.mpr within) with area | area
        · exact (State.treatment_eq area).trans (if_neg passed)
        · exact (State.treatment_eq area).trans (if_neg passed)
      · refine (State.treatment_eq (inStore (store.mpr ⟨low, high⟩))).trans (if_pos ?_)
        simp only [writes] at w
        simp [w, locked]
      · refine (State.treatment_eq (inStore (store.mpr ⟨low, high⟩))).trans (if_neg ?_)
        rcases other with w | free
        · simp only [writes] at w
          simp [w]
        · simp [free]
      · exact State.treatment_eq (inMessage (message.mpr within))
      · have area := State.areaOf_outside below run (by simpa using mt ctrl.mp page) (by simpa using mt aperture.mp ap)
          (fun i => by simpa using mt (slot i).mp (sl i)) (by simpa using mt window.mp win)
          (by simpa using mt store.mp st)
        rcases area with area | area
        · exact State.treatment_eq area
        · exact State.treatment_eq area
  case remaps =>
    intro addr o last remapped
    refine ⟨fun front => ⟨_, (Runs.chroma front).exec_eq, fun i fills => ?_, fun idle => ?_⟩,
      fun front => ⟨_, (Runs.apertureRead front).exec_eq, fun i newest => ?_, fun none => ?_⟩⟩
    · have fills' : (s.setTxn (some x)).asm.slot = some i := fills
      have final : (s.setTxn (some x)).chromaFinal x p = decide (o ≤ last ∧ last < o + 4 * p.len) :=
        (Bool.decide_and _ _).symm
      simp only [State.chromaPiece, fills', final]
      exact s.passPiece_setTxn x p _ _
    · have idle' : (s.setTxn (some x)).asm.slot = Option.none := idle
      simp only [State.chromaPiece, idle']
      exact ⟨s.discardPiece_setTxn x, by simp [onlyChanges_iff]⟩
    · have newest' : (s.setTxn (some x)).newest = some i := newest
      simp only [State.apertureRead, newest']
      exact s.passPiece_setTxn x p _ _
    · have none' : (s.setTxn (some x)).newest = Option.none := none
      simp only [State.apertureRead, none']
      exact ⟨s.finishPiece_setTxn x _ _, by simp [onlyChanges_iff]⟩

end Sys2Proof.Machine

/-! The line writer: the writes of an item, the histogram, and what the answer to a line write does (R41 to R46,
R52, R57, R58). -/

namespace Sys2Proof.Machine

/-! ## Bytes as words and back -/

theorem wordOfBytes_toNat (b0 b1 b2 b3 : Byte) :
    (wordOfBytes b0 b1 b2 b3).toNat = b0.toNat + b1.toNat * 256 + b2.toNat * 65536 + b3.toNat * 16777216 := by
  have h0 := b0.isLt
  have h1 := b1.isLt
  have h2 := b2.isLt
  have h3 := b3.isLt
  exact (BitVec.toNat_ofNat _ _).trans (Nat.mod_eq_of_lt (by omega))

theorem bytesOfWord_wordOfBytes (b0 b1 b2 b3 : Byte) :
    bytesOfWord (wordOfBytes b0 b1 b2 b3) = [b0, b1, b2, b3] := by
  have h0 := b0.isLt
  have h1 := b1.isLt
  have h2 := b2.isLt
  have h3 := b3.isLt
  have byte {lo : Nat} {b : Byte} (is : field (wordOfBytes b0 b1 b2 b3) lo 8 = b.toNat) :
      (wordOfBytes b0 b1 b2 b3).extractLsb' lo 8 = b := extract_of_field is
  simp only [field, wordOfBytes_toNat, Nat.reducePow] at byte
  rw [bytesOfWord, byte (b := b0) (by omega), byte (b := b1) (by omega), byte (b := b2) (by omega),
    byte (b := b3) (by omega)]

/-- Whole words lose no byte. -/
theorem bytesOfWords_wordsOfBytes {bs : List Byte} (whole : bs.length % 4 = 0) :
    bytesOfWords (wordsOfBytes bs) = bs := by
  fun_induction wordsOfBytes bs with
  | case1 b0 b1 b2 b3 rest ih =>
    have tail := ih (by simp only [List.length_cons] at whole; omega)
    simp only [bytesOfWords] at tail
    simp [bytesOfWords, bytesOfWord_wordOfBytes, tail]
  | case2 bs short =>
    match bs with
    | [] => rfl
    | [_] | [_, _] | [_, _, _] => simp at whole
    | b0 :: b1 :: b2 :: b3 :: rest => exact absurd rfl (short b0 b1 b2 b3 rest)

theorem wordsOfBytes_ne_nil {bs : List Byte} (whole : bs.length % 4 = 0) (some : bs ≠ []) :
    wordsOfBytes bs ≠ [] := by
  intro none
  have back := bytesOfWords_wordsOfBytes whole
  rw [none] at back
  exact some back.symm

/-! ## Writes of up to eight words (R41) -/

theorem fullBeats_data (ws : List Word) : (fullBeats ws).map Beat.data = ws := by
  simp [fullBeats, Function.comp_def]

theorem fullBeats_be (ws : List Word) : ∀ c ∈ fullBeats ws, c.be = 0xF := by
  intro c mem
  obtain ⟨w, -, rfl⟩ := List.mem_map.mp mem
  rfl

theorem writeChunks_nil (addr : Nat) : writeChunks addr [] = [] := rfl

/-- The first eight words go out first, and the others from 32 bytes further on. -/
theorem writeChunks_cons (addr : Nat) {ws : List Word} (some : ws ≠ []) :
    writeChunks addr ws =
      { tag := 0, addr := addr, body := .write (fullBeats (ws.take 8)) }
        :: writeChunks (addr + 32) (ws.drop 8) := by
  have long : 1 ≤ ws.length := List.length_pos_iff.mpr some
  have count : (ws.length + 7) / 8 = (ws.length - 8 + 7) / 8 + 1 := by omega
  simp only [writeChunks, chunks, List.length_drop, count, List.range_succ_eq_map, List.map_cons, List.map_map]
  congr 1
  · simp [List.take_eq_take_iff, fullBeats]
  · refine List.map_congr_left fun i _ => ?_
    have offset : (addr + 32 * (i + 1) - addr) / 4 = 8 + 8 * i := by omega
    have offset' : (addr + 32 + 32 * i - (addr + 32)) / 4 = 8 * i := by omega
    have size : ws.length - 8 * (i + 1) = ws.length - 8 - 8 * i := by omega
    simp only [Function.comp_apply, Nat.succ_eq_add_one, offset, offset', size, List.drop_drop]
    congr 1
    omega

/-- The writes lay down these bytes at ascending addresses, each write but the last of eight words, with every
byte-enable set. -/
def WritesCover (writes : List Burst) (addr : Nat) (bytes : List Byte) : Prop :=
  writes.flatMap bytesOfBurst = bytes
    ∧ ∀ k b, writes[k]? = some b → b.addr = addr + 32 * k ∧ b.tag = 0
      ∧ ∃ beats, b.body = .write beats ∧ (∀ c ∈ beats, c.be = 0xF) ∧ 1 ≤ beats.length
        ∧ beats.length ≤ 8 ∧ (k + 1 < writes.length → beats.length = 8)

theorem writeChunks_cover (addr : Nat) (ws : List Word) :
    WritesCover (writeChunks addr ws) addr (bytesOfWords ws) := by
  induction n : ws.length using Nat.strongRecOn generalizing addr ws with
  | _ n ih =>
    by_cases some : ws = []
    · subst some
      exact ⟨rfl, by simp [writeChunks_nil]⟩
    · have long : 1 ≤ ws.length := List.length_pos_iff.mpr some
      obtain ⟨bytes, each⟩ := ih (ws.drop 8).length (by simp; omega) (addr + 32) (ws.drop 8) rfl
      rw [writeChunks_cons addr some]
      refine ⟨?_, fun k b is => ?_⟩
      · rw [List.flatMap_cons, bytes]
        have head : bytesOfBurst { tag := 0, addr := addr, body := .write (fullBeats (ws.take 8)) } =
            bytesOfWords (ws.take 8) := by simp [bytesOfBurst, fullBeats_data]
        rw [head, bytesOfWords, bytesOfWords, ← List.flatMap_append, List.take_append_drop, bytesOfWords]
      · cases k with
        | zero =>
          cases is
          refine ⟨rfl, rfl, _, rfl, fullBeats_be _, by simp [fullBeats]; omega,
            by simp [fullBeats, Nat.min_le_left], fun more => ?_⟩
          have rest : ws.drop 8 ≠ [] := by
            intro none
            simp [none, writeChunks_nil] at more
          have longer : 8 < ws.length := by
            exact Nat.not_le.mp fun short => rest (List.drop_eq_nil_of_le short)
          simp [fullBeats]
          omega
        | succ k =>
          obtain ⟨at_, tag, beats, body, enables, low, high, full⟩ := each k b is
          exact ⟨by omega, tag, beats, body, enables, low, high, fun more => full (by simpa using more)⟩

theorem writeChunks_cover_bytes {bs : List Byte} (whole : bs.length % 4 = 0) (addr : Nat) :
    WritesCover (writeChunks addr (wordsOfBytes bs)) addr bs := by
  have cover := writeChunks_cover addr (wordsOfBytes bs)
  rwa [bytesOfWords_wordsOfBytes whole] at cover

theorem writeChunks_ne_nil {bs : List Byte} (whole : bs.length % 4 = 0) (some : bs ≠ []) (addr : Nat) :
    ∃ b later, writeChunks addr (wordsOfBytes bs) = b :: later :=
  ⟨_, _, writeChunks_cons addr (wordsOfBytes_ne_nil whole some)⟩

/-! ## The histogram (R58) -/

theorem countPixel_get (h : Vector Nat 64) (v : Nat) (i : Fin 64) :
    (countPixel h v)[i] = h[i] + if v / 4 = i.val then 1 else 0 := by
  unfold countPixel
  split
  · next small =>
    by_cases same : v / 4 = i.val
    · simp [same]
    · simp [same]
  · next large =>
    have := i.isLt
    rw [if_neg (by omega), Nat.add_zero]

theorem countLine_get (h : Vector Nat 64) (sharp : List Nat) (i : Fin 64) :
    (countLine h sharp)[i] = h[i] + (sharp.filter fun v => v / 4 == i.val).length := by
  unfold countLine
  induction sharp generalizing h with
  | nil => rfl
  | cons v vs ih =>
    rw [List.foldl_cons, ih, countPixel_get, List.filter_cons]
    by_cases same : v / 4 = i.val
    · simp [same]
      omega
    · simp [same]

/-! ## Sharpened lines (R41, R42) -/

/-- Edge columns are replicated. -/
theorem neighAt_eq {above mid below : List Byte} {wc x : Nat} (inside : x < wc) :
    neighAt above mid below wc x =
      let px := fun (line : List Byte) (c : Nat) => (line.getD c 0).toNat
      let l := x - 1
      let r := min (x + 1) (wc - 1)
      { nw := px above l, n := px above x, ne := px above r, w := px mid l, c := px mid x, e := px mid r,
        sw := px below l, s := px below x, se := px below r } := by
  have right : (if x + 1 < wc then x + 1 else x) = min (x + 1) (wc - 1) := by
    split <;> omega
  simp only [neighAt, right, pixelAt]

/-! ## Emission (R41, R44, R45) -/

theorem State.lineWriterIdle_of {s : State} (running : s.asm.running = none)
    (free : ∀ g, s.port.granted = some g → g.request.purpose ≠ .lineWrite) : s.lineWriterIdle = true := by
  simp only [State.lineWriterIdle, running, Option.isNone_none, Bool.true_and]
  split
  · next g granted => simpa using free g granted
  · rfl

theorem State.itemCounts_emit (s : State) (n above below : Nat) :
    (s.itemCounts (.emit n above below)).enh.force = s.enh.force
      ∧ (s.itemCounts (.emit n above below)).enh.latch = s.enh.latch
      ∧ (∀ i : Fin 64, (s.itemCounts (.emit n above below)).enh.hist[i] = s.enh.hist[i]
          + if s.asm.mode = .normal then
              ((s.emitSharp n above below).filter fun v => v / 4 == i.val).length else 0)
      ∧ OnlyChanges [.enh] s (s.itemCounts (.emit n above below)) := by
  simp only [State.itemCounts]
  split
  · exact ⟨rfl, rfl, fun i => countLine_get _ _ i, by simp [onlyChanges_iff]⟩
  · exact ⟨rfl, rfl, fun i => rfl, .refl _ _⟩

theorem State.lineWrites_cons (s : State) (b : Burst) (later : List Burst) :
    (s.lineWrites (b :: later)).asm = { s.asm with running := some later }
      ∧ Presents s (s.lineWrites (b :: later)) .lineWrite b
      ∧ OnlyChanges [.port, .asm] s (s.lineWrites (b :: later)) :=
  ⟨rfl, rfl, by simp [onlyChanges_iff, State.lineWrites]⟩

theorem toneLine_emitSharp (s : State) (n above below : Nat) :
    toneLine s.enh.latch (s.emitSharp n above below) =
      (List.range s.asm.wc).map fun c => BitVec.ofNat 8 (tone s.enh.latch
        (sharpen s.enh.latch.t s.enh.latch.g (neighAt (s.asm.lineBytes above) (s.asm.lineBytes n)
          (s.asm.lineBytes below) s.asm.wc c))) := by
  simp [toneLine, State.emitSharp, sharpLine, Function.comp_def]

/-- Settles O44, by `itemCounts` and the writes of each kind of item. -/
theorem emissionBegins : Obligations.EmissionBegins := by
  intro s item rest up head running free wide words base sends covers
  have runs : exec .emission s = .next (s.beginItem item) :=
    (Runs.emission up head (State.lineWriterIdle_of running free)).exec_eq
  refine ⟨fun n above below is => ?emit, fun n is whole some => ?partialLine, fun i o beats is entry => ?raw⟩
  case emit =>
    intro px sharp
    subst is
    have columns (c : Nat) (mem : c ∈ List.range s.asm.wc) :
        sharpen s.enh.latch.t s.enh.latch.g (neighAt (s.asm.lineBytes above) (s.asm.lineBytes n)
          (s.asm.lineBytes below) s.asm.wc c) = sharp c := by
      rw [neighAt_eq (List.mem_range.mp mem)]
    have bytes : toneLine s.enh.latch (s.emitSharp n above below) =
        (List.range s.asm.wc).map fun c => BitVec.ofNat 8 (tone s.enh.latch (sharp c)) := by
      rw [toneLine_emitSharp]
      exact List.map_congr_left fun c mem => by rw [columns c mem]
    have counted (i : Nat) : ((s.emitSharp n above below).filter fun v => v / 4 == i).length =
        ((List.range s.asm.wc).filter fun c => sharp c / 4 == i).length := by
      rw [State.emitSharp, sharpLine, List.filter_map, List.length_map]
      congr 1
      exact List.filter_congr fun c mem => by rw [Function.comp_apply, columns c mem]
    have whole : (toneLine s.enh.latch (s.emitSharp n above below)).length % 4 = 0 := by simpa [bytes] using words
    have some : toneLine s.enh.latch (s.emitSharp n above below) ≠ [] := by
      rw [bytes]
      simp
      omega
    obtain ⟨b, later, writes⟩ := writeChunks_ne_nil whole some (s.fillBase + n * s.asm.wc)
    have cover := writeChunks_cover_bytes whole (s.fillBase + n * s.asm.wc)
    have made : s.beginItem (.emit n above below) =
        (s.itemCounts (.emit n above below)).lineWrites (b :: later) := by
      rw [State.beginItem, State.itemWrites, writes]
    obtain ⟨force, latch, hist, kept⟩ := s.itemCounts_emit n above below
    obtain ⟨asm, presents, frame⟩ := (s.itemCounts (.emit n above below)).lineWrites_cons b later
    have enh : ((s.itemCounts (.emit n above below)).lineWrites (b :: later)).enh =
        (s.itemCounts (.emit n above below)).enh := frame .enh (by simp)
    have asmKept : (s.itemCounts (.emit n above below)).asm = s.asm := kept .asm (by simp)
    have portKept : (s.itemCounts (.emit n above below)).port = s.port := kept .port (by simp)
    rw [made] at runs
    refine ⟨_, b :: later, runs, ⟨b, later, rfl, by rw [asm, asmKept], ?_⟩, ?_, by rw [enh, force],
      by rw [enh, latch], fun i => ?_, (kept.mono (by simp)).trans (frame.mono (by simp))⟩
    · rw [Presents, ← portKept]
      exact presents
    · rw [← writes, ← bytes]
      exact cover
    · rw [enh, hist i, counted]
  case partialLine =>
    subst is
    obtain ⟨b, later, writes⟩ := writeChunks_ne_nil whole some (s.fillBase + n * s.asm.wc)
    have cover := writeChunks_cover_bytes whole (s.fillBase + n * s.asm.wc)
    have made : s.beginItem (.partialLine n) = s.lineWrites (b :: later) := by
      rw [State.beginItem, State.itemWrites, writes]
      rfl
    obtain ⟨asm, presents, frame⟩ := s.lineWrites_cons b later
    rw [made] at runs
    exact ⟨_, b :: later, runs, ⟨b, later, rfl, asm, presents⟩, writes ▸ cover, frame⟩
  case raw =>
    subst is
    have made : s.beginItem (.rawPiece i) =
        s.lineWrites [{ tag := 0, addr := base + o, body := .write beats }] := by
      simp only [State.beginItem, State.itemWrites, entry]
      rfl
    obtain ⟨asm, presents, frame⟩ := s.lineWrites_cons { tag := 0, addr := base + o, body := .write beats } []
    rw [made] at runs
    exact ⟨_, runs, ⟨_, [], rfl, asm, presents⟩, frame⟩

end Sys2Proof.Machine

/-! The answer to a line write: the item goes on or has finished, entries become free, a held raw piece is taken,
and the luma half is recorded (R26, R41, R43, R45, R46). -/

namespace Sys2Proof.Machine

/-- The lines whose entries a finished emission frees: the one above, and after the last line the last two
(R41). -/
theorem freedLines_contains (hc n above below j : Nat) :
    (freedLines hc (.emit n above below)).contains j = decide (j + 1 = n ∨ n + 1 = hc ∧ (j = n ∨ j = n - 1)) := by
  rw [Bool.eq_iff_iff]
  simp only [freedLines, List.contains_eq_mem, List.mem_append, decide_eq_true_eq]
  by_cases first : 1 ≤ n <;> by_cases last : n + 1 = hc <;> simp [first, last] <;> omega

/-- In a RAW frame the entries are kept that an item in the queue reads. -/
theorem Assembler.ringAfter_raw {a : Assembler} (mode : a.mode = .raw) (item : WorkItem) (queue : List WorkItem)
    (k : Fin 4) :
    (a.ringAfter item queue)[k] = if k ∈ queue.flatMap WorkItem.reads then a.ring[k] else .free := by
  simp only [Assembler.ringAfter, mode, Fin.getElem_fin, Vector.getElem_ofFn, List.contains_eq_mem,
    decide_eq_true_eq]

/-- In another frame the entries of the lines are freed that the item frees. -/
theorem Assembler.ringAfter_lines {a : Assembler} (mode : a.mode ≠ .raw) (item : WorkItem) (queue : List WorkItem)
    (k : Fin 4) : (a.ringAfter item queue)[k] = (a.ring[k]).freeLines (freedLines a.hc item) := by
  cases is : a.mode with
  | raw => exact absurd is mode
  | normal | dropped => simp only [Assembler.ringAfter, is, Fin.getElem_fin, Vector.getElem_map]

/-- The state when the item at the head of the queue has left it. -/
def State.itemLeft (s : State) (item : WorkItem) (rest : List WorkItem) : State :=
  s.setAsm { s.asm with ring := s.asm.ringAfter item rest, queue := rest, running := none }

theorem State.finishItem_eq {s : State} {item : WorkItem} {rest : List WorkItem} (head : s.asm.queue = item :: rest) :
    s.finishItem = (s.itemLeft item rest).takeHeldRaw.checkLumaHalf := by
  simp only [State.finishItem, head]
  rfl

/-- A held raw piece goes on when an entry is free (R45; log entry 28). -/
theorem State.takeHeldRaw_takes {v : State} {x : Txn} {p : Piece} {ps : List Piece} {taken : Nat}
    (mode : v.asm.mode = .raw) (free : ∃ k : Fin 4, v.asm.ring[k] = .free) (txn : v.bridge.txn = some x)
    (stage : x.stage = .held taken) (pieces : x.pieces = p :: ps) : v.takeHeldRaw = v.rawLuma x p := by
  simp only [State.takeHeldRaw, mode, if_true, State.resume_of txn stage pieces, State.resumeHeld,
    Assembler.freeEntry_isSome free]

theorem Assembler.freeEntry_eq_some {a : Assembler} {i : Fin 4} (h : a.freeEntry = some i) :
    a.ring[i] = .free := by simpa using List.find?_some h

/-- Without one, nothing is taken. -/
theorem State.takeHeldRaw_stays {v : State}
    (stays : ∀ x p, ¬ (v.asm.mode = .raw ∧ (∃ k : Fin 4, v.asm.ring[k] = .free) ∧ v.bridge.txn = some x
      ∧ (∃ taken, x.stage = .held taken) ∧ x.pieces.head? = some p)) : v.takeHeldRaw = v := by
  rcases v.takeHeldRaw_cases with same | ⟨x, p, ps, taken, i, txn, pieces, stage, mode, free, -⟩
  · exact same
  · exact absurd ⟨mode, ⟨i, Assembler.freeEntry_eq_some free⟩, txn, ⟨taken, stage⟩, by rw [pieces]; rfl⟩ (stays x p)

/-- The raw piece taken is queued, so that the luma half is not recorded in the same step (R46). -/
theorem State.checkLumaHalf_rawLuma {v : State} (free : ∃ k : Fin 4, v.asm.ring[k] = .free) (x : Txn) (p : Piece) :
    (v.rawLuma x p).checkLumaHalf = v.rawLuma x p := by
  obtain ⟨i, is⟩ := Option.isSome_iff_exists.mp (Assembler.freeEntry_isSome free)
  have queued : (v.rawLuma x p).asm.queue = v.asm.queue ++ [.rawPiece i] := by
    simp only [State.rawLuma, is, State.finishPiece_asm, State.takeRaw_eq]
    split <;> simp [State.rawPlaced]
  simp [State.checkLumaHalf, queued]

/-- The luma half, and the completion of the frame with it (R26, R46). -/
theorem State.checkLumaHalf_spec (v : State) :
    let half := v.asm.finalWord && v.asm.queue.isEmpty
    let w := v.setAsm { v.asm with lumaHalf := v.asm.lumaHalf || half }
    (half = true → v.asm.chromaHalf = true → ∀ i, v.asm.slot = some i → v.checkLumaHalf = w.frameCompletes i)
      ∧ ((half = false ∨ v.asm.chromaHalf = false ∨ v.asm.slot = none) → v.checkLumaHalf = w) := by
  intro half w
  cases recorded : half with
  | false =>
    have same : w = v := by
      simp only [w, recorded, Bool.or_false]
      rfl
    refine ⟨by simp, fun _ => ?_⟩
    rw [same]
    simp only [State.checkLumaHalf]
    exact if_neg (by rw [show (v.asm.finalWord && v.asm.queue.isEmpty) = false from recorded]; simp)
  | true =>
    have is : v.checkLumaHalf = w.completeIfBoth := by
      simp only [State.checkLumaHalf, w, recorded, Bool.or_true]
      exact if_pos recorded
    have slot : w.asm.slot = v.asm.slot := rfl
    have luma : w.asm.lumaHalf = true := by simp [w, recorded]
    have chroma : w.asm.chromaHalf = v.asm.chromaHalf := rfl
    refine ⟨fun _ both i fills => ?_, fun other => ?_⟩
    · rw [is]
      simp only [State.completeIfBoth, slot, fills, luma, chroma, both, Bool.and_self, if_true]
    · rw [is]
      simp only [State.completeIfBoth, slot, luma, chroma, Bool.true_and]
      rcases other with none | missing | idle
      · cases none
      · split
        · rw [missing]
          rfl
        · rfl
      · rw [idle]

theorem State.answered_onlyChanges (s : State) (error : Bool) :
    OnlyChanges [.port, .slots] s (if error then s.portFreed.markBroken else s.portFreed) := by
  refine .of_portFreed (by simp) ?_
  split <;> simp [onlyChanges_iff]

/-- Settles O45, by `lineWrites` and `finishItem`. -/
theorem lineWriteAnswered : Obligations.LineWriteAnswered := by
  intro s a left reply running u
  have kept : OnlyChanges [.port, .slots] s u := s.answered_onlyChanges a.error
  have asm : u.asm = s.asm := kept .asm (by simp)
  have bridge : u.bridge = s.bridge := kept .bridge (by simp)
  refine ⟨⟨fun i fills failed => ?marked, fun quiet => ?unmarked, kept⟩, u.lineWrites left, ?runs,
    fun b later goes => ?next, fun item rest done head => ?finished⟩
  case marked =>
    have is : u = s.portFreed.markBroken := if_pos failed
    have fills' : s.portFreed.asm.slot = some i := fills
    rw [is]
    exact State.markBroken_slots fills'
  case unmarked =>
    rcases quiet with fine | idle
    · exact if_neg (by simp [fine])
    · have idle' : s.portFreed.asm.slot = none := idle
      simp only [u, State.markBroken_none idle', ite_self]
  case runs =>
    have goes : s.portFreed.lineAnswer a = u.lineWrites left := by
      have running' : u.asm.running = some left := by rw [asm, running]
      change (match u.asm.running with | some rest => u.lineWrites rest | none => u) = _
      rw [running']
    rw [← goes]
    exact (Runs.lineAnswer reply).exec_eq
  case next =>
    subst goes
    obtain ⟨made, presents, frame⟩ := u.lineWrites_cons b later
    exact ⟨by rw [made, asm], presents, frame⟩
  case finished =>
    intro half freed
    subst done
    let v := u.itemLeft item rest
    have made : u.lineWrites [] = v.takeHeldRaw.checkLumaHalf := State.finishItem_eq (by rw [asm, head])
    have vAsm : v.asm = { s.asm with ring := s.asm.ringAfter item rest, queue := rest, running := none } := by
      simp only [v, State.itemLeft, State.setAsm_asm, asm]
    have vBridge : v.bridge = s.bridge := bridge
    refine ⟨v, fun k => ?ring, ?_, fun x p takes => ?held, fun stays => ?_⟩
    case ring =>
      rw [vAsm]
      by_cases mode : s.asm.mode = .raw
      · rw [mode]
        exact Assembler.ringAfter_raw mode item rest k
      · refine (Assembler.ringAfter_lines mode item rest k).trans ?_
        have lines : (s.asm.ring[k]).freeLines (freedLines s.asm.hc item)
            = (match s.asm.ring[k] with | .line j bytes => if freed j then .free else .line j bytes | r => r) := by
          cases s.asm.ring[k] with
          | line j bytes =>
            cases item with
            | emit n above below => simp only [RingEntry.freeLines, freedLines_contains, freed]
            | partialLine n | rawPiece i => simp [RingEntry.freeLines, freedLines, freed]
          | free | piece o beats => rfl
        rw [lines]
        revert mode
        cases s.asm.mode with
        | raw => exact fun other => absurd rfl other
        | normal | dropped => intro _; cases s.asm.ring[k] <;> rfl
    · rw [vAsm]
      simp only [v, State.itemLeft, asm]
    case held =>
      obtain ⟨mode, free, txn, ⟨taken, stage⟩, first⟩ := takes
      obtain ⟨ps, pieces⟩ := List.head?_eq_some_iff.mp first
      have txn' : v.bridge.txn = some x := by rw [vBridge, txn]
      have mode' : v.asm.mode = .raw := by rw [vAsm, ← mode]
      have offset : x.burst.addr + 4 * p.first - s.bridge.regions.apertureBase = v.apertureOffset x p := by
        simp only [State.apertureOffset, vBridge]
        rfl
      rw [made, State.takeHeldRaw_takes mode' free txn' stage pieces, State.checkLumaHalf_rawLuma free, offset]
      exact State.rawLuma_takes txn' p
    · have idle : v.takeHeldRaw = v := State.takeHeldRaw_stays (by
        intro x p takes
        rw [vBridge] at takes
        obtain ⟨mode, others⟩ := takes
        exact stays x p ⟨by rw [← mode, vAsm], others⟩)
      obtain ⟨completes, records⟩ := v.checkLumaHalf_spec
      rw [made, idle]
      rw [vAsm] at completes records ⊢
      exact ⟨completes, records⟩

end Sys2Proof.Machine

/-! A read of the view window by the DISPLAY master: the latch and the read of the stored bytes (R64, R66 to R69,
R79). -/

namespace Sys2Proof.Machine

/-! ## The latch taken (R67 to R69) -/

theorem State.setLatch_onlyChanges (s : State) (l : ViewLatch) : OnlyChanges [.comp] s (s.setLatch l) := by
  simp [onlyChanges_iff, State.setLatch]

theorem State.releaseOpt_onlyChanges (s : State) (o : Option (Fin 3)) : OnlyChanges [.slots] s (s.releaseOpt o) := by
  simp [onlyChanges_iff]

/-- A slot stays the slot it is when the old hold is released. -/
theorem State.latchSlot_releaseOpt (s : State) (o : Option (Fin 3)) (v : ViewSet) (c : ViewContext) (i : Fin 3) :
    (s.releaseOpt o).latchSlot v c i = ((s.releaseOpt o).takeHold i).setLatch
      (latchOf v c (.slot i (s.slotRec i).gen s.bridge.regions.slotBase[i]) (s.slotRec i).wc (s.slotRec i).hc) := by
  simp only [State.latchSlot, State.releaseOpt_slotRec, SlotRec.released, State.slotBase, State.releaseOpt_bridge]

/-- A latch replaces the slots by those of the exchange, the latch itself, and nothing else. -/
theorem State.takeLatch_onlyChanges (s : State) (start : Bool) :
    OnlyChanges [.slots, .comp] s (s.takeLatch start)
      ∧ (s.takeLatch start).comp = { s.comp with latch := (s.takeLatch start).comp.latch } := by
  have released := s.releaseOpt_onlyChanges s.comp.latch.held
  have latched (u : State) (l : ViewLatch) (slots : OnlyChanges [.slots] s u) :
      OnlyChanges [.slots, .comp] s (u.setLatch l)
        ∧ (u.setLatch l).comp = { s.comp with latch := (u.setLatch l).comp.latch } := by
    have comp : u.comp = s.comp := slots .comp (by simp)
    exact ⟨(slots.mono (by simp)).trans ((u.setLatch_onlyChanges l).mono (by simp)), by
      simp [State.setLatch, comp]⟩
  have taken (v : ViewSet) (c : ViewContext) (i : Fin 3) :
      OnlyChanges [.slots, .comp] s ((s.releaseOpt s.comp.latch.held).latchSlot v c i)
        ∧ ((s.releaseOpt s.comp.latch.held).latchSlot v c i).comp
          = { s.comp with latch := ((s.releaseOpt s.comp.latch.held).latchSlot v c i).comp.latch } :=
    latched _ _ (released.trans (by simp [onlyChanges_iff]))
  simp only [State.takeLatch]
  cases s.view.current.source with
  | live =>
    dsimp only
    split
    · exact taken _ _ _
    · exact latched _ _ released
  | frozen i gen =>
    dsimp only
    split
    · exact taken _ _ _
    · exact latched _ _ released
  | page part => exact latched _ _ released
  | blank => exact latched _ _ released

section
variable (s : State) (start : Bool)

/-- A slot that can be taken is latched with the values of its record. -/
theorem State.takeLatch_slot {i : Fin 3}
    (source : s.view.current.source = .live ∧ s.newest = some i
      ∨ ∃ gen, s.view.current.source = .frozen i gen
        ∧ (s.releaseOpt s.comp.latch.held).canTake i gen = true) :
    (s.takeLatch start).comp.latch =
        latchOf (latchSet s.comp.latch.set s.comp.staged start) s.view.current
          (.slot i (s.slotRec i).gen s.bridge.regions.slotBase[i]) (s.slotRec i).wc (s.slotRec i).hc
      ∧ (s.takeLatch start).slots = ((s.releaseOpt s.comp.latch.held).takeHold i).slots := by
  have is : s.takeLatch start = (s.releaseOpt s.comp.latch.held).latchSlot
      (latchSet s.comp.latch.set s.comp.staged start) s.view.current i := by
    simp only [State.takeLatch]
    rcases source with ⟨live, newest⟩ | ⟨gen, frozen, can⟩
    · simp only [live, State.releaseOpt_newest, newest]
    · simp only [frozen, can, if_true]
  rw [is, State.latchSlot_releaseOpt]
  exact ⟨rfl, rfl⟩

/-- With no slot to take, or nothing to show, the source is NONE. -/
theorem State.takeLatch_none
    (source : s.view.current.source = .live ∧ s.newest = none
      ∨ (∃ i gen, s.view.current.source = .frozen i gen
        ∧ (s.releaseOpt s.comp.latch.held).canTake i gen = false)
      ∨ s.view.current.source = .blank) :
    (s.takeLatch start).comp.latch = latchNone (latchSet s.comp.latch.set s.comp.staged start)
      ∧ (s.takeLatch start).slots = (s.releaseOpt s.comp.latch.held).slots := by
  have is : s.takeLatch start = (s.releaseOpt s.comp.latch.held).setLatch
      (latchNone (latchSet s.comp.latch.set s.comp.staged start)) := by
    simp only [State.takeLatch]
    rcases source with ⟨live, newest⟩ | ⟨i, gen, frozen, cannot⟩ | blank
    · simp only [live, State.releaseOpt_newest, newest]
    · simp only [frozen, cannot, Bool.false_eq_true, if_false]
    · simp only [blank]
  rw [is]
  exact ⟨rfl, rfl⟩

theorem State.takeLatch_page {g : PagePart} (source : s.view.current.source = .page g) :
    (s.takeLatch start).comp.latch =
        latchOf (latchSet s.comp.latch.set s.comp.staged start) s.view.current
          (.page g.offset (s.store.base + g.offset + 32)) g.w g.h
      ∧ (s.takeLatch start).slots = (s.releaseOpt s.comp.latch.held).slots := by
  simp only [State.takeLatch, source, State.releaseOpt_store]
  exact ⟨rfl, rfl⟩

end

/-! ## The read of the stored bytes (R79) -/

/-- The piece reads its stored bytes, after a latch where one is due. -/
theorem State.displayPiece_eq (s : State) (x : Txn) (p : Piece) :
    ∃ v, s.displayPiece x p = (v.setTxn (some { x with stage := .stored })).present .composerStored
        (ownRead (x.burst.addr + 4 * p.first) p.len)
      ∧ (¬ x.burst.addr + 4 * p.first = s.bridge.regions.viewBase → s.comp.latch.latched = true → v = s)
      ∧ ((x.burst.addr + 4 * p.first = s.bridge.regions.viewBase ∨ s.comp.latch.latched = false) →
        v = s.takeLatch (decide (x.burst.addr + 4 * p.first = s.bridge.regions.viewBase))) := by
  have start : s.startsViewFrame x p = decide (x.burst.addr + 4 * p.first = s.bridge.regions.viewBase) := by
    rw [Bool.eq_iff_iff]
    simp [State.startsViewFrame, wordAddr]
  refine ⟨_, rfl, fun inside latched => if_neg ?_, fun due => (if_pos ?_).trans (by rw [start])⟩
  · simp [start, inside, latched]
  · rcases due with first | bare
    · simp [start, first]
    · simp [bare]

/-- Settles O46, by the latch of each source. -/
theorem displayReadBegins : Obligations.DisplayReadBegins := by
  intro s x p front addr start l c u v
  obtain ⟨w, made, stays, takes⟩ := s.displayPiece_eq x p
  obtain ⟨frame, comp⟩ := s.takeLatch_onlyChanges (decide start)
  have set : v = latchSet s.comp.latch.set s.comp.staged (decide start) := by
    simp only [v, latchSet, decide_eq_true_eq]
    rfl
  have outside : w.bridge = s.bridge ∧ w.port = s.port := by
    by_cases due : start ∨ l.latched = false
    · rw [takes due]
      exact ⟨frame .bridge (by simp), frame .port (by simp)⟩
    · rw [stays (fun first => due (.inl first)) (by simpa using fun bare => due (.inr bare))]
      exact ⟨rfl, rfl⟩
  obtain ⟨bridge, port⟩ := outside
  let t := (w.setTxn (some { x with stage := .stored })).present .composerStored (ownRead addr p.len)
  have read : OnlyChanges [.bridge, .port] w t := by simp [t, onlyChanges_iff]
  refine ⟨t, (Runs.display front).exec_eq.trans (congrArg _ made), ?_, ?_, fun inside latched => ?_, fun due => ?_⟩
  · simp [t, State.setTxn, bridge, State.bridgeAt]
  · simp only [t, Presents, State.present_port, State.setTxn_port, port]
    rfl
  · rw [stays inside latched] at read
    exact read
  · intro shows showsNone
    have tComp : t.comp = (s.takeLatch (decide start)).comp := by rw [← takes due]; exact read .comp (by simp)
    have tSlots : t.slots = (s.takeLatch (decide start)).slots := by rw [← takes due]; exact read .slots (by simp)
    have showsOf {i : Fin 3} := s.takeLatch_slot (decide start) (i := i)
    have noneOf := s.takeLatch_none (decide start)
    have pageOf {g : PagePart} := s.takeLatch_page (decide start) (g := g)
    rw [← tComp, ← tSlots, ← set] at showsOf noneOf pageOf
    have blank (is : t.comp.latch = latchNone v ∧ t.slots = u.slots) : showsNone := by
      obtain ⟨latch, slots⟩ := is
      exact ⟨congrArg _ latch, congrArg _ latch, congrArg _ latch, slots⟩
    refine ⟨by rw [tComp]; exact comp, ?_, fun live => ⟨fun i newest => ?_, fun empty => ?_⟩,
      fun i gen frozen => ⟨fun can => ?_, fun cannot => ?_⟩, fun g page => pageOf page, fun blanked => ?_⟩
    · rw [takes due] at read
      exact (frame.mono (by simp)).trans (read.mono (by simp))
    · exact showsOf (.inl ⟨live, newest⟩)
    · exact blank (noneOf (.inl ⟨live, empty⟩))
    · exact showsOf (.inr ⟨gen, frozen, (u.canTake_iff i gen).mpr can⟩)
    · exact blank (noneOf (.inr (.inl ⟨i, gen, frozen, by
        rw [← Bool.not_eq_true]
        exact fun can => cannot ((u.canTake_iff i gen).mp can)⟩)))
    · exact blank (noneOf (.inr (.inr blanked)))

end Sys2Proof.Machine

/-! Composed pixels: the point of a view pixel in the source, border pixels, the mix of four neighbours and the
nearest chroma pair (R71 to R77). -/

namespace Sys2Proof.Machine

/-! ## Border pixels (R75) -/

theorem ViewLatch.sx_eq (l : ViewLatch) (x : Nat) : l.sx x = l.ox + (x : Int) * l.step := by
  rw [ViewLatch.sx, Int.natCast_mul]

theorem ViewLatch.sy_eq (l : ViewLatch) (y : Nat) : l.sy y = l.oy + (y : Int) * l.step := by
  rw [ViewLatch.sy, Int.natCast_mul]

/-- A pixel is border when there is no source or its point lies outside it (R75). -/
theorem ViewLatch.isBorder_iff (l : ViewLatch) (x y : Nat) :
    l.isBorder x y = true ↔ l.source = .none ∨ l.sx x < 0 ∨ l.sy y < 0
      ∨ (l.ws : Int) * 65536 ≤ l.sx x ∨ (l.hs : Int) * 65536 ≤ l.sy y := by
  simp only [ViewLatch.isBorder, Bool.or_eq_true, beq_iff_eq, decide_eq_true_eq, or_assoc]
  refine or_congr_right ?_
  omega

/-- The point of a pixel that is not border lies in the source. -/
theorem ViewLatch.inside_of_not_border {l : ViewLatch} {x y : Nat} (inner : l.isBorder x y = false) :
    (0 ≤ l.sx x ∧ l.sx x < (l.ws : Int) * 65536) ∧ 0 ≤ l.sy y ∧ l.sy y < (l.hs : Int) * 65536 := by
  have not := mt (l.isBorder_iff x y).mpr (by simp [inner])
  simp only [not_or, Int.not_lt, Int.not_le] at not
  obtain ⟨-, left, top, right, bottom⟩ := not
  exact ⟨⟨left, right⟩, top, bottom⟩

/-! ## The mix of neighbours (R76) -/

theorem mix_le {a b f m : Nat} (ha : a ≤ m) (hb : b ≤ m) (hf : f ≤ 256) : mix a b f ≤ m := by
  have left : a * (256 - f) ≤ m * (256 - f) := Nat.mul_le_mul_right _ ha
  have right : b * f ≤ m * f := Nat.mul_le_mul_right _ hb
  have whole : m * (256 - f) + m * f = m * 256 := by rw [← Nat.mul_add, Nat.sub_add_cancel hf]
  simp only [mix]
  omega

theorem le_mix {a b f m : Nat} (ha : m ≤ a) (hb : m ≤ b) (hf : f ≤ 256) : m ≤ mix a b f := by
  have left : m * (256 - f) ≤ a * (256 - f) := Nat.mul_le_mul_right _ ha
  have right : m * f ≤ b * f := Nat.mul_le_mul_right _ hb
  have whole : m * (256 - f) + m * f = m * 256 := by rw [← Nat.mul_add, Nat.sub_add_cancel hf]
  simp only [mix]
  omega

theorem ViewLatch.lumaPoint_fractions (l : ViewLatch) (x y : Nat) :
    (l.lumaPoint x y).fx ≤ 255 ∧ (l.lumaPoint x y).fy ≤ 255 := by
  simp only [ViewLatch.lumaPoint]
  omega

section
variable {q : LumaPoint} (fx : q.fx ≤ 255) (fy : q.fy ≤ 255) {p00 p10 p01 p11 m : Nat}
include fx fy

/-- The mix of four lies between the least and the greatest of them. -/
theorem bilinear_le (h00 : p00 ≤ m) (h10 : p10 ≤ m) (h01 : p01 ≤ m) (h11 : p11 ≤ m) :
    bilinear q p00 p10 p01 p11 ≤ m :=
  mix_le (mix_le h00 h10 (by omega)) (mix_le h01 h11 (by omega)) (by omega)

theorem le_bilinear (h00 : m ≤ p00) (h10 : m ≤ p10) (h01 : m ≤ p01) (h11 : m ≤ p11) :
    m ≤ bilinear q p00 p10 p01 p11 :=
  le_mix (le_mix h00 h10 (by omega)) (le_mix h01 h11 (by omega)) (by omega)

end

/-- The composed luma byte is the mix, which fits a byte. -/
theorem ViewLatch.compose_luma (l : ViewLatch) (x y : Nat) (p00 p10 p01 p11 : Byte) :
    (l.compose (.luma x y) [p00, p10, p01, p11]).toNat =
      bilinear (l.lumaPoint x y) p00.toNat p10.toNat p01.toNat p11.toNat := by
  obtain ⟨fx, fy⟩ := l.lumaPoint_fractions x y
  have byte (p : Byte) : p.toNat ≤ 255 := by have := p.isLt; omega
  have fits := bilinear_le fx fy (byte p00) (byte p10) (byte p01) (byte p11)
  simp only [ViewLatch.compose, List.getD_cons_zero, List.getD_cons_succ, BitVec.toNat_ofNat]
  omega

/-- Settles O20. -/
theorem composedLuma : Obligations.ComposedLuma := by
  intro l x y src width height
  rw [l.isBorder_iff, l.sx_eq, l.sy_eq]
  refine ⟨Iff.rfl, fun inner => ?_⟩
  obtain ⟨⟨left, right⟩, top, bottom⟩ := l.inside_of_not_border inner
  obtain ⟨fx, fy⟩ := l.lumaPoint_fractions x y
  let q := l.lumaPoint x y
  have point : q.i = (l.sx x).toNat / 65536 ∧ q.fx = (l.sx x).toNat % 65536 / 256
      ∧ q.j = (l.sy y).toNat / 65536 ∧ q.fy = (l.sy y).toNat % 65536 / 256 := ⟨rfl, rfl, rfl, rfl⟩
  obtain ⟨hi, hfx, hj, hfy⟩ := point
  rw [← l.sx_eq, ← l.sy_eq]
  refine ⟨q.i, q.j, q.fx, q.fy, by omega, by omega, fx, fy, by omega, by omega, by omega, by omega, rfl, ?_⟩
  rintro p00 p10 p01 p11 rfl top bottom
  rw [l.compose_luma]
  exact ⟨rfl, fun m => le_bilinear fx fy, fun m => bilinear_le fx fy⟩

/-! ## The nearest chroma pair (R77) -/

/-- The nearest column or row of a coordinate within the source, halves upward, clamped. -/
theorem nearest_eq {c : Int} {size : Nat} (inside : 0 ≤ c) (some : 1 ≤ size) :
    (nearest c size : Int) = min ((c + 32768) / 65536) (size - 1) := by
  simp only [nearest]
  omega

end Sys2Proof.Machine

/-! The composer fetches: the bytes a piece needs, the fetches of their rows, and the bytes of the answer (R74,
R77 to R81). -/

namespace Sys2Proof.Machine

/-! ## Words cut into fetches of one to eight (log entry 10) -/

theorem chunks_zero (addr : Nat) : chunks addr 0 = [] := rfl

/-- The first eight words are fetched first, and the others from 32 bytes further on. -/
theorem chunks_cons (addr : Nat) {n : Nat} (some : 1 ≤ n) :
    chunks addr n = (addr, min 8 n) :: chunks (addr + 32) (n - 8) := by
  have count : (n + 7) / 8 = (n - 8 + 7) / 8 + 1 := by omega
  simp only [chunks, count, List.range_succ_eq_map, List.map_cons, List.map_map]
  refine List.cons_eq_cons.mpr ⟨by simp, List.map_congr_left fun i _ => ?_⟩
  simp only [Function.comp_apply, Prod.mk.injEq]
  omega

/-- The fetches read these words, in order, and no other. -/
theorem chunks_words (addr n : Nat) :
    ((chunks addr n).flatMap fun f => List.range' f.1 f.2 4) = List.range' addr n 4 := by
  induction n using Nat.strongRecOn generalizing addr with
  | _ n ih =>
    rcases Nat.eq_zero_or_pos n with rfl | some
    · rfl
    · rw [chunks_cons addr some, List.flatMap_cons, ih (n - 8) (by omega)]
      by_cases more : 8 < n
      · rw [Nat.min_eq_left (by omega), List.range'_append (s := addr) (m := 8)]
        congr 1
        omega
      · rw [Nat.min_eq_right (by omega), show n - 8 = 0 by omega, List.range'_zero, List.append_nil]

/-- Each fetch is of one to eight words, of those to be read. -/
theorem mem_chunks {addr n : Nat} {f : Nat × Nat} (mem : f ∈ chunks addr n) :
    1 ≤ f.2 ∧ f.2 ≤ 8 ∧ addr ≤ f.1 ∧ f.1 + 4 * f.2 ≤ addr + 4 * n := by
  obtain ⟨i, small, rfl⟩ := List.mem_map.mp mem
  have := List.mem_range.mp small
  simp only
  omega

/-! ## The rows of the needed bytes (R80) -/

/-- The spans hold just the rows of the needed bytes, in ascending order, each from its lowest needed byte to its
highest. -/
structure SpansOf (needs : List NeedByte) (rows : List RowSpan) : Prop where
  ascending : rows.Pairwise fun q r => q.row < r.row
  covers : ∀ n ∈ needs, ∃ r ∈ rows, r.row = n.row ∧ r.lo ≤ n.addr ∧ n.addr ≤ r.hi
  tight : ∀ r ∈ rows, ∃ lo ∈ needs, ∃ hi ∈ needs,
    lo.row = r.row ∧ hi.row = r.row ∧ lo.addr = r.lo ∧ hi.addr = r.hi

/-- The row that a span is for, or the row of the byte added. -/
theorem mem_addNeed_row {b : NeedByte} {rows : List RowSpan} {r : RowSpan} (mem : r ∈ addNeed b rows) :
    r.row = b.row ∨ ∃ q ∈ rows, q.row = r.row := by
  induction rows with
  | nil =>
    simp only [addNeed, List.mem_singleton] at mem
    exact .inl (by rw [mem])
  | cons q qs ih =>
    simp only [addNeed] at mem
    split at mem
    next same =>
      rcases List.mem_cons.mp mem with rfl | later
      · exact .inl same.symm
      · exact .inr ⟨r, List.mem_cons_of_mem _ later, rfl⟩
    next =>
      split at mem
      next =>
        rcases List.mem_cons.mp mem with rfl | later
        · exact .inl rfl
        · exact .inr ⟨r, later, rfl⟩
      next =>
        rcases List.mem_cons.mp mem with rfl | later
        · exact .inr ⟨r, List.mem_cons_self, rfl⟩
        · exact (ih later).imp_right fun ⟨q', mem', row⟩ => ⟨q', List.mem_cons_of_mem _ mem', row⟩

theorem addNeed_ascending (b : NeedByte) {rows : List RowSpan} (h : rows.Pairwise fun q r => q.row < r.row) :
    (addNeed b rows).Pairwise fun q r => q.row < r.row := by
  induction rows with
  | nil => exact List.pairwise_singleton _ _
  | cons q qs ih =>
    obtain ⟨first, rest⟩ := List.pairwise_cons.mp h
    simp only [addNeed]
    split
    next => exact List.pairwise_cons.mpr ⟨first, rest⟩
    next other =>
      split
      next below =>
        refine List.pairwise_cons.mpr ⟨fun r mem => ?_, h⟩
        rcases List.mem_cons.mp mem with rfl | later
        · exact below
        · exact Nat.lt_trans below (first r later)
      next above =>
        refine List.pairwise_cons.mpr ⟨fun r mem => ?_, ih rest⟩
        rcases mem_addNeed_row mem with row | ⟨q', mem', row⟩
        · omega
        · exact row ▸ first q' mem'

/-- Every span stays or widens, and the byte added is in one. -/
theorem addNeed_covers (b : NeedByte) (rows : List RowSpan) :
    (∃ r ∈ addNeed b rows, r.row = b.row ∧ r.lo ≤ b.addr ∧ b.addr ≤ r.hi)
      ∧ ∀ q ∈ rows, ∃ r ∈ addNeed b rows, r.row = q.row ∧ r.lo ≤ q.lo ∧ q.hi ≤ r.hi := by
  induction rows with
  | nil => exact ⟨⟨_, List.mem_singleton_self _, rfl, Nat.le_refl _, Nat.le_refl _⟩, by simp⟩
  | cons q qs ih =>
    obtain ⟨added, kept⟩ := ih
    simp only [addNeed]
    split
    next same =>
      refine ⟨⟨_, List.mem_cons_self, same.symm, Nat.min_le_right .., Nat.le_max_right ..⟩, fun r mem => ?_⟩
      rcases List.mem_cons.mp mem with rfl | later
      · exact ⟨_, List.mem_cons_self, rfl, Nat.min_le_left .., Nat.le_max_left ..⟩
      · exact ⟨r, List.mem_cons_of_mem _ later, rfl, Nat.le_refl _, Nat.le_refl _⟩
    next =>
      split
      next =>
        exact ⟨⟨_, List.mem_cons_self, rfl, Nat.le_refl _, Nat.le_refl _⟩,
          fun r mem => ⟨r, List.mem_cons_of_mem _ mem, rfl, Nat.le_refl _, Nat.le_refl _⟩⟩
      next =>
        refine ⟨added.imp fun r ⟨mem, is⟩ => ⟨List.mem_cons_of_mem _ mem, is⟩, fun r mem => ?_⟩
        rcases List.mem_cons.mp mem with rfl | later
        · exact ⟨_, List.mem_cons_self, rfl, Nat.le_refl _, Nat.le_refl _⟩
        · exact (kept r later).imp fun r' ⟨mem', is⟩ => ⟨List.mem_cons_of_mem _ mem', is⟩

/-- A bound of a span is that of a span before, or the byte added in the span's row. -/
theorem addNeed_tight {b : NeedByte} {rows : List RowSpan} {r : RowSpan} (mem : r ∈ addNeed b rows) :
    (∃ q ∈ rows, q.row = r.row ∧ (r.lo = q.lo ∨ b.row = r.row ∧ r.lo = b.addr)
        ∧ (r.hi = q.hi ∨ b.row = r.row ∧ r.hi = b.addr))
      ∨ r = { row := b.row, lo := b.addr, hi := b.addr } := by
  induction rows with
  | nil => exact .inr (List.mem_singleton.mp mem)
  | cons q qs ih =>
    have stays {r' : RowSpan} (mem' : r' ∈ q :: qs) :
        ∃ q' ∈ q :: qs, q'.row = r'.row ∧ (r'.lo = q'.lo ∨ b.row = r'.row ∧ r'.lo = b.addr)
          ∧ (r'.hi = q'.hi ∨ b.row = r'.row ∧ r'.hi = b.addr) := ⟨r', mem', rfl, .inl rfl, .inl rfl⟩
    simp only [addNeed] at mem
    split at mem
    next same =>
      rcases List.mem_cons.mp mem with rfl | later
      · have least : min q.lo b.addr = q.lo ∨ min q.lo b.addr = b.addr := by omega
        have greatest : max q.hi b.addr = q.hi ∨ max q.hi b.addr = b.addr := by omega
        exact .inl ⟨q, List.mem_cons_self, rfl, least.imp_right fun is => ⟨same, is⟩,
          greatest.imp_right fun is => ⟨same, is⟩⟩
      · exact .inl (stays (List.mem_cons_of_mem _ later))
    next =>
      split at mem
      next =>
        rcases List.mem_cons.mp mem with rfl | later
        · exact .inr rfl
        · exact .inl (stays later)
      next =>
        rcases List.mem_cons.mp mem with rfl | later
        · exact .inl (stays List.mem_cons_self)
        · exact (ih later).imp_left fun ⟨q', mem', is⟩ => ⟨q', List.mem_cons_of_mem _ mem', is⟩

theorem SpansOf.add {needs : List NeedByte} {rows : List RowSpan} (h : SpansOf needs rows) (b : NeedByte) :
    SpansOf (needs ++ [b]) (addNeed b rows) := by
  obtain ⟨ascending, covers, tight⟩ := h
  obtain ⟨added, kept⟩ := addNeed_covers b rows
  refine ⟨addNeed_ascending b ascending, fun n mem => ?_, fun r mem => ?_⟩
  · rcases List.mem_append.mp mem with before | new
    · obtain ⟨q, mem', row, lo, hi⟩ := covers n before
      obtain ⟨r, mem'', row', lo', hi'⟩ := kept q mem'
      exact ⟨r, mem'', row'.trans row, Nat.le_trans lo' lo, Nat.le_trans hi hi'⟩
    · rw [List.mem_singleton.mp new]
      exact added
  · have new : b ∈ needs ++ [b] := by simp
    rcases addNeed_tight mem with ⟨q, mem', row, low, high⟩ | rfl
    · obtain ⟨lo, loMem, hi, hiMem, loRow, hiRow, loIs, hiIs⟩ := tight q mem'
      have lowest : ∃ n ∈ needs ++ [b], n.row = r.row ∧ n.addr = r.lo := by
        rcases low with is | ⟨same, is⟩
        · exact ⟨lo, by simp [loMem], loRow.trans row, loIs.trans is.symm⟩
        · exact ⟨b, new, same, is.symm⟩
      have highest : ∃ n ∈ needs ++ [b], n.row = r.row ∧ n.addr = r.hi := by
        rcases high with is | ⟨same, is⟩
        · exact ⟨hi, by simp [hiMem], hiRow.trans row, hiIs.trans is.symm⟩
        · exact ⟨b, new, same, is.symm⟩
      obtain ⟨l, lMem, lRow, lIs⟩ := lowest
      obtain ⟨m, mMem, mRow, mIs⟩ := highest
      exact ⟨l, lMem, m, mMem, lRow, mRow, lIs, mIs⟩
    · exact ⟨b, new, b, new, rfl, rfl, rfl, rfl⟩

/-- The rows of the needed bytes. -/
def rowSpans (needs : List NeedByte) : List RowSpan := needs.foldl (fun rs b => addNeed b rs) []

theorem rowSpans_spansOf (needs : List NeedByte) : SpansOf needs (rowSpans needs) := by
  have go (before after : List NeedByte) (rows : List RowSpan) (h : SpansOf before rows) :
      SpansOf (before ++ after) (after.foldl (fun rs b => addNeed b rs) rows) := by
    induction after generalizing before rows with
    | nil => simpa using h
    | cons b bs ih => simpa using ih (before ++ [b]) (addNeed b rows) (h.add b)
  exact go [] needs [] ⟨List.Pairwise.nil, by simp, by simp⟩

theorem SpansOf.lo_le_hi {needs : List NeedByte} {rows : List RowSpan} (h : SpansOf needs rows) {r : RowSpan}
    (mem : r ∈ rows) : r.lo ≤ r.hi := by
  obtain ⟨lo, loMem, -, -, loRow, -, loIs, -⟩ := h.tight r mem
  obtain ⟨q, mem', row, low, high⟩ := h.covers lo loMem
  have same : q = r := by
    obtain ⟨i, hi, rfl⟩ := List.getElem_of_mem mem
    obtain ⟨j, hj, rfl⟩ := List.getElem_of_mem mem'
    have order {a b : Nat} (ha : a < rows.length) (hb : b < rows.length) (lt : a < b) : rows[a].row < rows[b].row :=
      List.pairwise_iff_getElem.mp h.ascending a b ha hb lt
    rcases Nat.lt_trichotomy j i with before | rfl | after
    · have := order hj hi before
      omega
    · rfl
    · have := order hi hj after
      omega
  subst same
  omega

/-! ## The fetches of the needed bytes -/

theorem fetchList_eq (needs : List NeedByte) : fetchList needs = (rowSpans needs).flatMap RowSpan.fetches := rfl

/-- The words fetched are, row after row, those from the word of the lowest needed byte to the word of the
highest. -/
theorem fetchList_words (needs : List NeedByte) :
    ((fetchList needs).flatMap fun f => List.range' f.1 f.2 4)
      = (rowSpans needs).flatMap fun r => List.range' (r.lo / 4 * 4) (r.hi / 4 + 1 - r.lo / 4) 4 := by
  rw [fetchList_eq, List.flatMap_assoc, List.flatMap_def, List.flatMap_def]
  refine congrArg List.flatten (List.map_congr_left fun r mem => ?_)
  have ordered := (rowSpans_spansOf needs).lo_le_hi mem
  rw [RowSpan.fetches, chunks_words]
  congr 1
  omega

theorem mem_fetchList {needs : List NeedByte} {f : Nat × Nat} (mem : f ∈ fetchList needs) :
    1 ≤ f.2 ∧ f.2 ≤ 8
      ∧ ∃ r ∈ rowSpans needs, r.lo / 4 * 4 ≤ f.1 ∧ f.1 + 4 * f.2 ≤ r.hi / 4 * 4 + 4 := by
  obtain ⟨r, row, inRow⟩ := List.mem_flatMap.mp (fetchList_eq needs ▸ mem)
  obtain ⟨least, most, low, high⟩ := mem_chunks inRow
  have ordered := (rowSpans_spansOf needs).lo_le_hi row
  exact ⟨least, most, r, row, low, by omega⟩

/-- Every needed byte is fetched. -/
theorem fetchList_covers {needs : List NeedByte} {n : NeedByte} (mem : n ∈ needs) :
    ∃ f ∈ fetchList needs, f.1 ≤ n.addr ∧ n.addr < f.1 + 4 * f.2 := by
  obtain ⟨r, row, -, low, high⟩ := (rowSpans_spansOf needs).covers n mem
  have word : n.addr / 4 * 4 ∈ (fetchList needs).flatMap fun f => List.range' f.1 f.2 4 := by
    rw [fetchList_words]
    refine List.mem_flatMap.mpr ⟨r, row, List.mem_range'.mpr ⟨n.addr / 4 - r.lo / 4, ?_, ?_⟩⟩ <;> omega
  obtain ⟨f, fetched, inside⟩ := List.mem_flatMap.mp word
  obtain ⟨i, small, is⟩ := List.mem_range'.mp inside
  exact ⟨f, fetched, by omega, by omega⟩

/-! ## The bytes of a piece (R74, R78) -/

theorem bytesOfWords_length (ws : List Word) : (bytesOfWords ws).length = 4 * ws.length := by
  induction ws with
  | nil => rfl
  | cons w ws ih =>
    rw [bytesOfWords, List.flatMap_cons, List.length_append, ← bytesOfWords, ih]
    simp only [bytesOfWord, List.length_cons, List.length_nil]
    omega

theorem ViewLatch.placed_length (l : ViewLatch) (o : Nat) (stored : List Word) :
    (l.placed o stored).length = 4 * stored.length := by
  simp [ViewLatch.placed, bytesOfWords_length]

theorem ViewLatch.placed_getElem (l : ViewLatch) (o : Nat) (stored : List Word) {k : Nat}
    (h : k < (l.placed o stored).length) :
    (l.placed o stored)[k] = { byte := (bytesOfWords stored).getD k 0, pos := l.viewByte (o + k) } := by
  have inside : k < (bytesOfWords stored).length := by rwa [l.placed_length, ← bytesOfWords_length] at h
  simp [ViewLatch.placed, inside]

/-- The key of the plane that a byte lies in. -/
theorem ViewLatch.key_viewByte (l : ViewLatch) (i : Nat) :
    l.key (l.viewByte i) = if i < l.set.wv * l.set.hv then l.set.kl else l.set.kc := by
  simp only [ViewLatch.viewByte]
  split <;> rfl

/-- A piece needs what its keyed bytes need that are not border. -/
theorem ViewLatch.mem_pieceNeeds (l : ViewLatch) (o : Nat) (stored : List Word) (n : NeedByte) :
    n ∈ l.pieceNeeds (l.placed o stored) ↔ ∃ k < 4 * stored.length,
      (bytesOfWords stored).getD k 0 = l.key (l.viewByte (o + k))
        ∧ l.borderByte (l.viewByte (o + k)) = false ∧ n ∈ l.needs (l.viewByte (o + k)) := by
  have one (p : Placed) : n ∈ (if l.keyed p && !l.borderByte p.pos then l.needs p.pos else []) ↔
      p.byte = l.key p.pos ∧ l.borderByte p.pos = false ∧ n ∈ l.needs p.pos := by
    split
    next h =>
      obtain ⟨keyed, inner⟩ : p.byte = l.key p.pos ∧ l.borderByte p.pos = false := by
        simpa [ViewLatch.keyed] using h
      simp [keyed, inner]
    next h =>
      have not : ¬ (p.byte = l.key p.pos ∧ l.borderByte p.pos = false) := by
        simpa [ViewLatch.keyed] using h
      simp only [List.not_mem_nil, false_iff]
      exact fun ⟨keyed, inner, _⟩ => not ⟨keyed, inner⟩
  simp only [ViewLatch.pieceNeeds, List.mem_flatMap, one]
  constructor
  · rintro ⟨p, mem, is⟩
    obtain ⟨k, small, rfl⟩ := List.getElem_of_mem mem
    rw [l.placed_getElem] at is
    exact ⟨k, by rwa [l.placed_length] at small, is⟩
  · rintro ⟨k, small, is⟩
    have inside : k < (l.placed o stored).length := by rwa [l.placed_length]
    exact ⟨_, List.getElem_mem inside, by rwa [l.placed_getElem]⟩

/-! ## The answer (R79, R81) -/

theorem fetchedAll_some {got : List (Nat × Option Word)} {ns : List NeedByte}
    (all : ∀ n ∈ ns, fetchedByte got n.addr ≠ none) :
    fetchedAll got ns = some (ns.map fun n => (fetchedByte got n.addr).getD 0) := by
  induction ns with
  | nil => rfl
  | cons n ns ih =>
    obtain ⟨b, is⟩ := Option.ne_none_iff_exists'.mp (all n List.mem_cons_self)
    simp only [fetchedAll, is, ih fun m mem => all m (List.mem_cons_of_mem _ mem), List.map_cons, Option.getD_some]

theorem fetchedAll_none {got : List (Nat × Option Word)} {ns : List NeedByte}
    (failed : ∃ n ∈ ns, fetchedByte got n.addr = none) : fetchedAll got ns = none := by
  obtain ⟨m, mem, is⟩ := failed
  induction ns with
  | nil => cases mem
  | cons n ns ih =>
    rcases List.mem_cons.mp mem with rfl | later
    · simp only [fetchedAll, is]
    · simp only [fetchedAll, ih later]
      cases fetchedByte got n.addr <;> rfl

theorem ViewLatch.answer_bytes (l : ViewLatch) (o : Nat) (stored : List Word) (got : List (Nat × Option Word)) :
    bytesOfWords (l.answerWords o stored got) = (l.placed o stored).map (l.answerByte got) :=
  bytesOfWords_wordsOfBytes (by rw [List.length_map, l.placed_length]; omega)

theorem ViewLatch.answer_getD (l : ViewLatch) (o : Nat) (stored : List Word) (got : List (Nat × Option Word))
    {k : Nat} (small : k < 4 * stored.length) :
    (bytesOfWords (l.answerWords o stored got)).getD k 0 =
      l.answerByte got { byte := (bytesOfWords stored).getD k 0, pos := l.viewByte (o + k) } := by
  have inside : k < (l.placed o stored).length := by rwa [l.placed_length]
  rw [l.answer_bytes, List.getD_eq_getElem?_getD, List.getElem?_map, List.getElem?_eq_getElem inside, Option.map_some,
    Option.getD_some, l.placed_getElem]

/-! ## The steps of a display piece (R79) -/

/-- The fetches left go on, or the piece ends. -/
theorem State.fetchFrom_spec (s : State) (x : Txn) (p : Piece) (stored : List Word) (todo : List (Nat × Nat))
    (got : List (Nat × Option Word)) (txn : ∃ st, s.bridge.txn = some { x with stage := st }) :
    OnlyChanges [.bridge, .port] s (s.fetchFrom x p stored todo got)
      ∧ (todo = [] → PieceEnds s (s.fetchFrom x p stored todo got) x
            (s.comp.latch.answerWords (s.windowOffset x p) stored got) false
          ∧ (s.fetchFrom x p stored todo got).port = s.port)
      ∧ ∀ f more, todo = f :: more →
          (s.fetchFrom x p stored todo got).bridge = s.bridgeAt x (.fetching stored todo got)
            ∧ Presents s (s.fetchFrom x p stored todo got) .composerSource
                { tag := 0, addr := f.1, body := .read f.2 } := by
  cases todo with
  | nil =>
    refine ⟨by simp [onlyChanges_iff, State.fetchFrom], fun _ => ⟨?_, by simp [State.fetchFrom]⟩, by simp⟩
    obtain ⟨st, is⟩ := txn
    exact State.finishPiece_spec is _ _
  | cons g rest =>
    refine ⟨by simp [onlyChanges_iff, State.fetchFrom], by simp, fun f more is => ?_⟩
    cases is
    constructor
    · simp [State.fetchFrom, State.setTxn, State.bridgeAt]
    · simp only [State.fetchFrom, Presents, State.present_port, State.setTxn_port]
      rfl

theorem State.composerAnswer_stored {s : State} {a : Answer} {x : Txn} {p : Piece} {ps : List Piece}
    (txn : s.bridge.txn = some x) (stage : x.stage = .stored) (pieces : x.pieces = p :: ps) :
    s.composerAnswer a = s.storedAnswer x p a := by
  simp only [State.composerAnswer, txn, stage, pieces]

theorem State.composerAnswer_fetching {s : State} {a : Answer} {x : Txn} {p : Piece} {ps : List Piece}
    {stored : List Word} {todo : List (Nat × Nat)} {got : List (Nat × Option Word)} (txn : s.bridge.txn = some x)
    (stage : x.stage = .fetching stored todo got) (pieces : x.pieces = p :: ps) :
    s.composerAnswer a = s.sourceAnswer x p stored todo got a := by
  simp only [State.composerAnswer, txn, stage, pieces]

/-! ## The settled statement -/

/-- The source bytes of a luma pixel lie in the row of its point and in the next, clamped (R76). -/
theorem ViewLatch.luma_rows (l : ViewLatch) {x y : Nat} (inner : l.isBorder x y = false) :
    ∃ j : Nat, (65536 * j : Int) ≤ l.sy y ∧ l.sy y < (65536 * j + 65536 : Int)
      ∧ (l.needs (.luma x y)).map (fun m => m.row) =
        [l.base + j * l.ws, l.base + j * l.ws, l.base + min (j + 1) (l.hs - 1) * l.ws,
          l.base + min (j + 1) (l.hs - 1) * l.ws] := by
  obtain ⟨-, top, bottom⟩ := l.inside_of_not_border inner
  exact ⟨(l.sy y).toNat / 65536, by omega, by omega, rfl⟩

/-- A chroma byte is that of the nearest pair and row (R77). -/
theorem ViewLatch.chroma_needs (l : ViewLatch) (n y : Nat) (odd : Bool) (width : 1 ≤ l.ws) (height : 1 ≤ l.hs)
    (inner : l.isBorder (2 * n) y = false) : ∃ col row : Nat,
      (col : Int) = min ((l.sx (2 * n) + 32768) / 65536) (l.ws - 1)
      ∧ (row : Int) = min ((l.sy y + 32768) / 65536) (l.hs - 1)
      ∧ l.needs (.chroma n y odd) =
        [{ row := l.base + l.ws * l.hs + row * l.ws,
           addr := l.base + l.ws * l.hs + row * l.ws + 2 * (col / 2) + if odd then 1 else 0 }] := by
  obtain ⟨⟨left, -⟩, top, -⟩ := l.inside_of_not_border inner
  exact ⟨nearest (l.sx (2 * n)) l.ws, nearest (l.sy y) l.hs, nearest_eq left width, nearest_eq top height, rfl⟩

/-- The border component of a byte's place (R75, R78). -/
theorem ViewLatch.border_viewByte (l : ViewLatch) (i : Nat) :
    l.border (l.viewByte i) =
      if i < l.set.wv * l.set.hv then l.set.borderY
      else if (i - l.set.wv * l.set.hv) % 2 = 0 then l.set.borderCb else l.set.borderCr := by
  simp only [ViewLatch.viewByte]
  split
  · rfl
  · rcases Nat.mod_two_eq_zero_or_one (i - l.set.wv * l.set.hv) with even | odd
    · simp [ViewLatch.border, even]
    · simp [ViewLatch.border, odd]

/-- A byte of the answer, case by case (R78, R81). -/
theorem ViewLatch.answerByte_cases (l : ViewLatch) (got : List (Nat × Option Word)) (b : Byte) (v : ViewByte) :
    (b ≠ l.key v → l.answerByte got { byte := b, pos := v } = b)
      ∧ (b = l.key v → l.borderByte v = true → l.answerByte got { byte := b, pos := v } = l.border v)
      ∧ (b = l.key v → l.borderByte v = false → (∀ n ∈ l.needs v, fetchedByte got n.addr ≠ none) →
          l.answerByte got { byte := b, pos := v } =
            l.compose v ((l.needs v).map fun n => (fetchedByte got n.addr).getD 0))
      ∧ (b = l.key v → l.borderByte v = false → (∃ n ∈ l.needs v, fetchedByte got n.addr = none) →
          l.answerByte got { byte := b, pos := v } = l.border v) := by
  refine ⟨fun other => ?_, fun keyed edge => ?_, fun keyed inner all => ?_, fun keyed inner failed => ?_⟩
  · simp [ViewLatch.answerByte, ViewLatch.keyed, other]
  · simp [ViewLatch.answerByte, ViewLatch.keyed, keyed, edge]
  · simp [ViewLatch.answerByte, ViewLatch.keyed, keyed, inner, fetchedAll_some all]
  · simp [ViewLatch.answerByte, ViewLatch.keyed, keyed, inner, fetchedAll_none failed]

/-- Settles O47, by the rows of the needed bytes, the steps of a piece and the cases of a byte. -/
theorem composerFetchAnswered : Obligations.ComposerFetchAnswered := by
  unfold Obligations.ComposerFetchAnswered
  intro placed keyOf
  have keyIs (l : ViewLatch) (o k : Nat) : l.key (placed l o k) = keyOf l o k := l.key_viewByte (o + k)
  refine ⟨fun s a x p ps reply txn pieces stage => ?stored,
    fun s a x p ps stored f rest got reply txn pieces stage => ?source, fun l n y odd width height => ?chroma,
    fun l x y => ?luma, fun l o stored got => ?answer⟩
  case stored =>
    intro l o needs fetches
    have goes : exec (.composerFetchAnswer a) s = .next (s.portFreed.storedAnswer x p a) := by
      rw [← State.composerAnswer_stored (s := s.portFreed) txn stage pieces]
      exact (Runs.composerAnswer (.inl rfl) reply).exec_eq
    refine ⟨fun n => ?_, fun n => fetchList_covers, ⟨rowSpans needs, (rowSpans_spansOf needs).ascending,
      (rowSpans_spansOf needs).covers, (rowSpans_spansOf needs).tight, fetchList_words needs,
      fun f => mem_fetchList⟩, _, goes, ?_⟩
    · rw [l.mem_pieceNeeds o a.words n]
      simp only [← keyIs]
      rfl
    · cases failed : a.error with
      | true =>
        have is : s.portFreed.storedAnswer x p a = s.portFreed.finishPiece a.words true := if_pos failed
        rw [is]
        refine ⟨.of_portFreed (by simp) ((State.finishPiece_onlyChanges _ _ _).mono (by simp)),
          fun _ => ⟨.of_portFreed (State.finishPiece_spec (s := s.portFreed) txn _ _), by simp⟩, by simp, by simp⟩
      | false =>
        have is : s.portFreed.storedAnswer x p a = s.portFreed.fetchFrom x p a.words fetches [] :=
          if_neg (by simp [failed])
        rw [is]
        obtain ⟨frame, ends, next⟩ := s.portFreed.fetchFrom_spec x p a.words fetches [] ⟨_, txn⟩
        exact ⟨.of_portFreed (by simp) frame, by simp, fun _ none => (ends none).imp_left .of_portFreed,
          fun f rest _ more => next f rest more⟩
  case source =>
    intro l o all
    let u := s.portFreed.setComp { s.comp with errors := s.comp.errors + if a.error then 1 else 0 }
    have words : got ++ gotWords f.1 f.2 a = all := rfl
    have goes : s.portFreed.composerAnswer a = u.fetchFrom x p stored rest all := by
      rw [State.composerAnswer_fetching (s := s.portFreed) txn stage pieces, ← words]
      have counted : (if a.error = true then s.portFreed.setComp { s.comp with errors := s.comp.errors + 1 }
          else s.portFreed) = u := by
        cases failed : a.error with
        | true => simp [u, failed]
        | false => simp [u, failed]; rfl
      exact congrArg (fun w : State => w.fetchFrom x p stored rest (got ++ gotWords f.1 f.2 a)) counted
    have txn' : u.bridge.txn = some { x with stage := x.stage } := txn
    obtain ⟨frame, ends, next⟩ := u.fetchFrom_spec x p stored rest all ⟨_, txn'⟩
    have freed : OnlyChanges [.port, .comp] s u := .of_portFreed (by simp) (by simp [u, onlyChanges_iff])
    refine ⟨_, (Runs.composerAnswer (.inr rfl) reply).exec_eq, ?_⟩
    rw [goes]
    refine ⟨(frame .comp (by simp)).trans rfl, (freed.mono (by simp)).trans (frame.mono (by simp)), fun none => ?_,
      fun g more is => next g more is⟩
    obtain ⟨piece, port⟩ := ends none
    exact ⟨PieceEnds.congr (s := s) (u := u) rfl ⟨rfl, rfl⟩ rfl ⟨rfl, rfl, rfl⟩ rfl piece, port⟩
  case chroma =>
    intro v sx sy
    have hsx : l.sx (2 * n) = sx := by simp [sx, l.sx_eq]
    have hsy : l.sy y = sy := l.sy_eq y
    rw [← hsx, ← hsy]
    refine ⟨l.isBorder_iff (2 * n) y, fun inner => ?_⟩
    obtain ⟨col, row, hcol, hrow, needs⟩ := l.chroma_needs n y odd width height inner
    exact ⟨col, row, hcol, hrow, needs, fun b => rfl⟩
  case luma =>
    rw [← l.sy_eq]
    exact ⟨rfl, fun inner => l.luma_rows inner⟩
  case answer =>
    refine ⟨by rw [l.answer_bytes, List.length_map, l.placed_length], fun k small => ?_⟩
    have cases := l.answerByte_cases got ((bytesOfWords stored).getD k 0) (placed l o k)
    have border : l.border (placed l o k) = _ := l.border_viewByte (o + k)
    rw [keyIs, border] at cases
    rw [l.answer_getD o stored got small]
    exact cases

end Sys2Proof.Machine

/-! The view commands: VIEW and VIEW_PUSH, the page header they read, and VIEW_POP (R85 to R93). -/

namespace Sys2Proof.Machine

/-! ## Completing a command, and reading for it -/

/-- A command completes after a change elsewhere (R164, R165). -/
theorem State.complete_after {s u : State} {p : Packet} {st : CmdStage} {bs : List Block} (change : OnlyChanges bs s u)
    (port : .port ∉ bs) (cu : .cu ∉ bs) (cmd : s.cu.cmd = some { packet := some p, stage := st }) (o : Result) :
    Completed s (u.complete o) p o ∧ OnlyChanges (.port :: .cu :: bs) s (u.complete o) := by
  have samePort : u.port = s.port := change .port port
  have sameCu : u.cu = s.cu := change .cu cu
  refine ⟨(u.complete_spec o (st := st) (by rw [sameCu, cmd])).congr samePort (by rw [sameCu]), ?_⟩
  exact (change.mono (by simp)).trans ((u.complete_onlyChanges o).mono (by simp))

/-- A command takes the traversal engine and presents its first read (R105). -/
theorem State.travReads_spec {s : State} {p : Packet} {st : CmdStage}
    (cmd : s.cu.cmd = some { packet := some p, stage := st }) (op : TravOp) (q : Purpose) (b : Burst) :
    let t := ((s.useTrav op).setCmdStage .engine).present q b
    t.store = { s.store with trav := some op }
      ∧ t.cu = { s.cu with cmd := some { packet := some p, stage := .engine } }
      ∧ Presents s t q b ∧ OnlyChanges [.store, .port, .cu] s t := by
  intro t
  have made : t = ((s.setCmdStage .engine).useTrav op).present q b := by
    simp only [t, State.useTrav_setCmdStage]
  refine ⟨?_, ?_, ?_, ?_⟩
  · simp [made, State.useTrav]
  · simp [made, State.useTrav, State.setCmdStage_of cmd]
  · simp [made, Presents, State.present_port, State.useTrav]
  · simp [made, onlyChanges_iff, State.useTrav]

/-! ## The view request of a packet (R177) -/

theorem SourceKind.ofCode_isSome (n : Nat) : (SourceKind.ofCode n).isSome = decide (n ≤ 3) := by
  match n with
  | 0 | 1 | 2 | 3 => rfl
  | n + 4 => simp [SourceKind.ofCode]

theorem SourceKind.ofCode_eq (n : Nat) :
    (SourceKind.ofCode n = some .live ↔ n = 0) ∧ (SourceKind.ofCode n = some .frozen ↔ n = 1)
      ∧ (SourceKind.ofCode n = some .page ↔ n = 2) ∧ (SourceKind.ofCode n = some .blank ↔ n = 3) := by
  match n with
  | 0 | 1 | 2 | 3 => simp [SourceKind.ofCode]
  | n + 4 => simp [SourceKind.ofCode]

/-- The fields of a request at their bits. -/
theorem Packet.viewRequest_eq (p : Packet) : p.viewRequest =
    { kind := SourceKind.ofCode (p.p1.toNat % 256), zoom := p.p1.toNat / 65536, ramp := p.modifier % 2 == 1,
      useNote := p.modifier / 2 % 2 == 1, cx := p.p2.toNat % 65536, cy := p.p2.toNat / 65536 } := by
  have h1 := p.p1.isLt
  have h2 := p.p2.isLt
  simp only [Packet.viewRequest, field, ViewRequest.mk.injEq, Nat.reducePow, Nat.div_one, true_and]
  omega

/-- The values that R85 check 1 refuses. -/
theorem Packet.viewRequest_bad (p : Packet) :
    p.viewRequest.valuesGood = false ↔ 3 < p.p1.toNat % 256 ∨ p.p1.toNat / 65536 < 64 ∨ 1024 < p.p1.toNat / 65536
      ∨ 4095 < p.p2.toNat % 65536 ∨ 4095 < p.p2.toNat / 65536 := by
  simp only [ViewRequest.valuesGood, p.viewRequest_eq, SourceKind.ofCode_isSome, Bool.and_eq_false_iff,
    decide_eq_false_iff_not, Nat.not_le]
  simp only [or_assoc]

/-! ## The change of the view (R86, R89) -/

/-- The slots that a request begins from: the replaced context keeps its hold when it is pushed, and else gives it
up. -/
def State.keptBy (s : State) (push : Bool) : State := if push then s else s.releaseOpt s.view.current.held

theorem State.setView_same {u : State} {v : ViewController} (same : u.view = v) : u.setView v = u := by
  subst same
  rfl

/-- A release depends on the slots and the frame number alone. -/
theorem State.releaseOpt_slots_congr {s u : State} (slots : u.slots = s.slots) (timer : u.timer = s.timer)
    (o : Option (Fin 3)) : (u.releaseOpt o).slots = (s.releaseOpt o).slots := by
  cases o with
  | none => exact slots
  | some i =>
    have newest : u.newest = s.newest := by simp only [State.newest, slots, timer]
    have made (v : State) : (v.releaseOpt (some i)).slots =
        if (v.slotRec i).hold - 1 = 0 ∧ (v.slotRec i).state = .complete ∧ v.newest ≠ some i then
          { v.slots with
            recs := v.slots.recs.set i { v.slotRec i with hold := (v.slotRec i).hold - 1, state := .empty } }
        else { v.slots with recs := v.slots.recs.set i { v.slotRec i with hold := (v.slotRec i).hold - 1 } } := by
      simp only [State.releaseOpt, State.releaseHold]
      split <;> rfl
    rw [made, made, State.slotRec, slots, newest]
    rfl

theorem State.giveUpCurrent_eq (s : State) (push : Bool) :
    s.giveUpCurrent push = (s.keptBy push).setView { s.view with stack := s.stackGiven push } := by
  cases push with
  | true => rfl
  | false =>
    exact (State.setView_same (s.releaseOpt_view s.view.current.held)).symm

theorem State.keptBy_newest (s : State) (push : Bool) : (s.keptBy push).newest = s.newest := by
  cases push with
  | true => rfl
  | false => exact s.releaseOpt_newest _

theorem State.keptBy_gen (s : State) (push : Bool) (i : Fin 3) :
    ((s.keptBy push).slotRec i).gen = (s.slotRec i).gen := by
  cases push with
  | true => rfl
  | false =>
    rw [show s.keptBy false = s.releaseOpt s.view.current.held from rfl, s.releaseOpt_slotRec]
    rfl

theorem State.keptBy_onlyChanges (s : State) (push : Bool) : OnlyChanges [.slots] s (s.keptBy push) := by
  cases push with
  | true => exact .refl _ s
  | false => exact s.releaseOpt_onlyChanges _

/-- What a request of a source shows: the view, the slots, and nothing else. -/
def Shows (s t : State) (push : Bool) (c : ViewContext) (slots : SlotManager) : Prop :=
  t.view = { current := c, stack := s.stackGiven push } ∧ t.slots = slots ∧ OnlyChanges [.view, .slots] s t

theorem State.shows_given (s : State) (push : Bool) (c : ViewContext) :
    Shows s ((s.giveUpCurrent push).setCurrent c) push c (s.keptBy push).slots := by
  rw [s.giveUpCurrent_eq]
  refine ⟨rfl, rfl, ((s.keptBy_onlyChanges push).mono (by simp)).trans ?_⟩
  simp [onlyChanges_iff, State.setCurrent]

section
variable (s : State) {q : ViewRequest} (push : Bool)

theorem State.changeView_live (kind : q.kind = some .live) :
    Shows s (s.changeView q push) push (q.context s.view.current .live) (s.keptBy push).slots := by
  simp only [State.changeView, kind]
  exact s.shows_given push _

theorem State.changeView_blank (kind : q.kind = some .blank) :
    Shows s (s.changeView q push) push (q.context s.view.current .blank) (s.keptBy push).slots := by
  simp only [State.changeView, kind]
  exact s.shows_given push _

/-- FROZEN takes the newest slot. -/
theorem State.changeView_frozen (kind : q.kind = some .frozen) {i : Fin 3} (newest : s.newest = some i) :
    Shows s (s.changeView q push) push (q.context s.view.current (.frozen i (s.slotRec i).gen))
      ((s.keptBy push).takeHold i).slots := by
  have newest' : (s.giveUpCurrent push).newest = some i := by
    rw [s.giveUpCurrent_eq]
    exact (s.keptBy_newest push).trans newest
  have gen : ((s.giveUpCurrent push).slotRec i).gen = (s.slotRec i).gen := by
    rw [s.giveUpCurrent_eq]
    exact s.keptBy_gen push i
  simp only [State.changeView, kind, newest', gen]
  rw [s.giveUpCurrent_eq]
  refine ⟨rfl, rfl, ((s.keptBy_onlyChanges push).mono (by simp)).trans ?_⟩
  simp [onlyChanges_iff, State.setCurrent]

end

/-- A request that shows its source at once completes DONE with the depth (R85). -/
theorem Shows.completes {s u : State} {push : Bool} {c : ViewContext} {slots : SlotManager} {p : Packet}
    {st : CmdStage} (h : Shows s u push c slots) (cmd : s.cu.cmd = some { packet := some p, stage := st }) :
    let t := u.completeView .done .none
    t.view = { current := c, stack := s.stackGiven push } ∧ t.slots = slots
      ∧ Completed s t p
          { cls := .done, reason := .none, arg := toWord (s.stackGiven push).length, residual := 0 }
      ∧ OnlyChanges [.port, .cu, .view, .slots] s t := by
  obtain ⟨view, slots, change⟩ := h
  obtain ⟨completed, frame⟩ := State.complete_after change (by simp) (by simp) cmd
    { cls := .done, reason := .none, arg := toWord (s.stackGiven push).length, residual := 0 }
  have depth : u.depth = toWord (s.stackGiven push).length := by rw [State.depth, view]
  simp only [State.completeView, depth]
  exact ⟨by simpa using view, by simpa using slots, completed, frame⟩

/-- A view command that a check refuses completes with the depth as it stands (R85). -/
theorem State.completeView_spec {s : State} {p : Packet} {st : CmdStage}
    (cmd : s.cu.cmd = some { packet := some p, stage := st }) (cls : TermClass) (r : Reason) :
    Completed s (s.completeView cls r) p { cls := cls, reason := r, arg := toWord s.view.stack.length, residual := 0 }
      ∧ OnlyChanges [.port, .cu] s (s.completeView cls r) :=
  State.complete_after (.refl [] s) (by simp) (by simp) cmd _

/-! ## VIEW and VIEW_PUSH (R85 to R87, R89) -/

theorem State.runView_refused {s : State} {q : ViewRequest} {push : Bool} {r : Reason}
    (check : s.checkView q push = some r) : s.runView q push = s.completeView .refused r := by
  simp only [State.runView, check]

theorem State.runView_page {s : State} {q : ViewRequest} {push : Bool} {o : Nat}
    (check : s.checkView q push = none) (kind : q.kind = some .page) (position : s.store.position = some o) :
    s.runView q push =
      ((s.useTrav (.viewHeader q push)).setCmdStage .engine).present .viewHeader (s.headerRead o) := by
  simp only [State.runView, check, kind, position]

theorem State.runView_shows {s : State} {q : ViewRequest} {push : Bool} (check : s.checkView q push = none)
    (kind : q.kind ≠ some .page) : s.runView q push = (s.changeView q push).completeView .done .none := by
  simp only [State.runView, check]
  split
  · contradiction
  · rfl

/-- Settles O48, check by check and then by the kind of the request. -/
theorem viewCarriedOut : Obligations.ViewCarriedOut := by
  intro s p push taken kind zoom cx cy ramp c depth stack kept
  have cmd : s.cu.cmd = some { packet := some p, stage := .dispatched } := taken.cmd
  have runs : exec (if push then .viewPush else .view) s = .next (s.runView p.viewRequest push) := by
    cases push with
    | true => exact (Runs.viewPush taken).exec_eq
    | false => exact (Runs.view taken).exec_eq
  obtain ⟨isLive, isFrozen, isPage, isBlank⟩ := SourceKind.ofCode_eq kind
  have request : p.viewRequest =
      { kind := SourceKind.ofCode kind, zoom := zoom, ramp := p.modifier % 2 == 1,
        useNote := p.modifier / 2 % 2 == 1, cx := cx, cy := cy } := p.viewRequest_eq
  have kindIs : p.viewRequest.kind = SourceKind.ofCode kind := by rw [request]
  have context (src : Source) : p.viewRequest.context c src =
      { source := src, z := if ramp then c.z else zoom, zt := zoom, cx := cx, cy := cy } := by
    simp [request, ViewRequest.context, ramp]
  refine ⟨_, runs, ?_⟩
  intro refused shown
  have refuses {r : Reason} (check : s.checkView p.viewRequest push = some r) :
      Completed s (s.runView p.viewRequest push) p
          { cls := .refused, reason := r, arg := toWord depth, residual := 0 }
        ∧ OnlyChanges [.port, .cu] s (s.runView p.viewRequest push) := by
    rw [State.runView_refused check]
    exact State.completeView_spec cmd _ _
  have shows {src : Source} {slots : SlotManager} (check : s.checkView p.viewRequest push = none)
      (other : kind ≠ 2) (shows : Shows s (s.changeView p.viewRequest push) push (p.viewRequest.context c src) slots) :
      shown src slots := by
    have done := shows.completes cmd
    rw [← State.runView_shows check (by rw [kindIs, ne_eq, isPage]; exact other), context] at done
    exact done
  split
  next bad => exact refuses (by simp only [State.checkView, p.viewRequest_bad.mpr bad]; rfl)
  next good =>
    have values : p.viewRequest.valuesGood = true := by
      rw [← Bool.not_eq_false, p.viewRequest_bad]
      exact good
    split
    next full =>
      have full' : (push && decide (4 ≤ s.view.stack.length)) = true := by simpa [depth] using full
      exact refuses (by simp only [State.checkView, values, full']; rfl)
    next room =>
      have room' : (push && decide (4 ≤ s.view.stack.length)) = false := by simpa [depth] using room
      split
      next page =>
        have page' : p.viewRequest.kind = some .page := by rw [kindIs, isPage, page]
        split
        next busy => exact refuses (by simp [State.checkView, values, room', page', busy])
        next idle =>
          split
          next bare => exact refuses (by simp [State.checkView, values, room', page', idle, bare])
          next formatted =>
            split
            next lost => exact refuses (by simp [State.checkView, values, room', page', idle, formatted, lost])
            next o position =>
              have check : s.checkView p.viewRequest push = none := by
                simp [State.checkView, values, room', page', idle, formatted, position]
              rw [State.runView_page check page' position]
              exact State.travReads_spec cmd _ _ _
      next other =>
        have other' : p.viewRequest.kind ≠ some .page := by rw [kindIs, ne_eq, isPage]; exact other
        split
        next frozen =>
          have frozen' : p.viewRequest.kind = some .frozen := by rw [kindIs, isFrozen, frozen]
          split
          next empty => exact refuses (by simp [State.checkView, values, room', frozen', empty])
          next i newest =>
            exact shows (by simp [State.checkView, values, room', frozen', newest]) other
              (s.changeView_frozen push frozen' newest)
        next unfrozen =>
          have unfrozen' : p.viewRequest.kind ≠ some .frozen := by rw [kindIs, ne_eq, isFrozen]; exact unfrozen
          have check : s.checkView p.viewRequest push = none := by
            simp [State.checkView, values, room', other', unfrozen']
          split
          next blank => exact shows check other (s.changeView_blank push (by rw [kindIs, isBlank, blank]))
          next unblank =>
            refine shows check other (s.changeView_live push ?_)
            rw [kindIs, isLive]
            omega

/-! ## The page header of a VIEW (R87, R88) -/

theorem clampNat_eq (lo hi x : Nat) : clampNat lo hi x = max lo (min hi x) := rfl

theorem ViewRequest.pageContext_eq (q : ViewRequest) (old : ViewContext) (o : Nat) (h : Header) :
    q.pageContext old o h =
      (let part : PagePart := { offset := o, serial := h.serial, format := h.format, w := h.w, h := h.h }
      if q.useNote = true ∧ h.note = true then
        { source := .page part, z := max 64 (min 1024 h.z), zt := max 64 (min 1024 h.z),
          cx := min 4095 h.cx, cy := min 4095 h.cy }
      else
        { source := .page part, z := if q.ramp then old.z else q.zoom, zt := q.zoom, cx := q.cx, cy := q.cy }) := by
  simp only [ViewRequest.pageContext, Bool.and_eq_true, clampNat_eq, Nat.zero_max, ViewRequest.context]

/-- Settles O49, by the judgement of the header. -/
theorem viewPageHeaderJudged : Obligations.ViewPageHeaderJudged := by
  intro s a p q push o reply reads position cmd c depth stack kept judged
  refine ⟨_, (Runs.viewHeader reply).exec_eq, ?_⟩
  intro ends
  let u := s.portFreed.idleTrav
  have is : s.portFreed.viewHeaderRead a =
      if a.error then u.completeView .retry .memoryError
      else
        match judged with
        | none => (u.setStore { u.store with position := none }).completeView .lost .headerBad
        | some h =>
          if h.kind = .page then
            ((u.giveUpCurrent push).setCurrent (q.pageContext s.view.current o h)).completeView .done .none
          else u.completeView .refused .notAPage := by
    have reads' : s.portFreed.store.trav = some (.viewHeader q push) := reads
    have position' : s.portFreed.store.position = some o := position
    simp only [State.viewHeaderRead, reads', position']
    rfl
  have idled : OnlyChanges [.store] s.portFreed u := by simp [u, onlyChanges_iff, State.idleTrav]
  have completes {w : State} (position' : Option Nat)
      (change : OnlyChanges [.store] s.portFreed w)
      (store : w.store = { s.store with trav := none, position := position' }) (cls : TermClass) (r : Reason)
      (made : s.portFreed.viewHeaderRead a = w.completeView cls r) : ends cls r position' := by
    have view : w.view = s.view := change .view (by simp)
    obtain ⟨completed, frame⟩ := State.complete_after change (by simp) (by simp) cmd
      { cls := cls, reason := r, arg := w.depth, residual := 0 }
    have depthIs : w.depth = toWord depth := by rw [State.depth, view]
    simp only [ends, made]
    rw [← depthIs]
    exact ⟨by simpa [State.completeView] using store, completed, .of_portFreed (by simp) (frame.mono (by simp))⟩
  refine ⟨fun failed => ?_, fun good bad => ?_, fun h good found other => ?_, fun h good found page => ?_⟩
  · refine completes (some o) idled ?_ .retry .memoryError (is.trans (if_pos failed))
    rw [← position]
    rfl
  · refine completes (w := u.setStore { u.store with position := none }) none
      (by simp [onlyChanges_iff, u, State.idleTrav]) rfl .lost .headerBad ?_
    rw [is, if_neg (by simp [good]), bad]
  · refine completes (some o) idled ?_ .refused .notAPage ?_
    · rw [← position]
      rfl
    · rw [is, if_neg (by simp [good]), found]
      exact if_neg other
  · have made : s.portFreed.viewHeaderRead a =
        ((u.giveUpCurrent push).setCurrent (q.pageContext s.view.current o h)).completeView .done .none := by
      rw [is, if_neg (by simp [good]), found]
      exact if_pos page
    have shows := u.shows_given push (q.pageContext s.view.current o h)
    obtain ⟨view, slots, completed, frame⟩ := shows.completes (p := p) (st := .engine) cmd
    rw [← made] at view slots completed frame
    have store : (s.portFreed.viewHeaderRead a).store = u.store := frame .store (by simp)
    refine ⟨store, view.trans ?_, slots.trans ?_, completed, ?_⟩
    · rw [q.pageContext_eq]
      rfl
    · cases push with
      | true => rfl
      | false => exact State.releaseOpt_slots_congr (s := s) (u := u) rfl rfl _
    · exact .of_portFreed (by simp) ((idled.mono (by simp)).trans (frame.mono (by simp)))

end Sys2Proof.Machine

/-! VIEW_POP: the entry restored, discarded, or validated by its page header (R90 to R93). -/

namespace Sys2Proof.Machine

/-- What a restored entry leaves (R92). -/
def Restored (s u t : State) (p : Packet) (e : StackEntry) (rest : List StackEntry) : Prop :=
  t.view = { current := e.ctx, stack := rest }
    ∧ t.slots = (s.releaseOpt s.view.current.held).slots
    ∧ Completed u t p { cls := .done, reason := .none, arg := toWord rest.length, residual := 0 }

/-- What a discarded entry leaves (R93). -/
def Discarded (s u t : State) (p : Packet) (e : StackEntry) (rest : List StackEntry) : Prop :=
  t.view = { current := { source := .live, z := 64, zt := 64, cx := 0, cy := 0 }, stack := rest }
    ∧ t.slots = ((s.releaseOpt e.held).releaseOpt s.view.current.held).slots
    ∧ Completed u t p { cls := .alert, reason := .staleContext, arg := toWord rest.length, residual := 0 }

section
variable {s : State} {p : Packet} {st : CmdStage} (cmd : s.cu.cmd = some { packet := some p, stage := st })
  (e : StackEntry) (rest : List StackEntry)
include cmd

theorem State.restoreEntry_spec :
    Restored s s (s.restoreEntry e rest) p e rest
      ∧ OnlyChanges [.port, .cu, .view, .slots] s (s.restoreEntry e rest) := by
  have change : OnlyChanges [.view, .slots] s
      ((s.releaseOpt s.view.current.held).setView { current := e.ctx, stack := rest }) := by
    simp [onlyChanges_iff]
  obtain ⟨completed, frame⟩ := State.complete_after change (by simp) (by simp) cmd
    { cls := .done, reason := .none, arg := toWord rest.length, residual := 0 }
  exact ⟨⟨by simp [State.restoreEntry, State.completeView], by simp [State.restoreEntry, State.completeView],
    completed⟩, frame⟩

theorem State.discardEntry_spec :
    Discarded s s (s.discardEntry e rest) p e rest
      ∧ OnlyChanges [.port, .cu, .view, .slots] s (s.discardEntry e rest) := by
  have change : OnlyChanges [.view, .slots] s
      (((s.releaseOpt e.held).releaseOpt s.view.current.held).setView
        { current := ViewContext.liveDefault, stack := rest }) := by
    simp [onlyChanges_iff]
  obtain ⟨completed, frame⟩ := State.complete_after change (by simp) (by simp) cmd
    { cls := .alert, reason := .staleContext, arg := toWord rest.length, residual := 0 }
  exact ⟨⟨by simp [State.discardEntry, State.completeView]; rfl, by simp [State.discardEntry, State.completeView],
    completed⟩, frame⟩

end

/-- The same after the traversal of the header read has ended and the port is free. -/
theorem Restored.of_idle {s t : State} {p : Packet} {e : StackEntry} {rest : List StackEntry}
    (h : Restored s.portFreed.idleTrav s.portFreed.idleTrav t p e rest) : Restored s s.portFreed t p e rest := by
  obtain ⟨view, slots, completed⟩ := h
  exact ⟨view, slots.trans (State.releaseOpt_slots_congr (s := s) (u := s.portFreed.idleTrav) rfl rfl _), completed.congr rfl rfl⟩

theorem Discarded.of_idle {s t : State} {p : Packet} {e : StackEntry} {rest : List StackEntry}
    (h : Discarded s.portFreed.idleTrav s.portFreed.idleTrav t p e rest) : Discarded s s.portFreed t p e rest := by
  obtain ⟨view, slots, completed⟩ := h
  refine ⟨view, slots.trans (State.releaseOpt_slots_congr ?_ (by simp; rfl) _), completed.congr rfl rfl⟩
  exact State.releaseOpt_slots_congr (s := s) (u := s.portFreed.idleTrav) rfl rfl _

/-- Settles O50, by the source of the entry and the judgement of its header. -/
theorem viewPopped : Obligations.ViewPopped := by
  unfold Obligations.ViewPopped
  intro restored failed
  refine ⟨fun s p taken => ?pop, fun s a p e rest g reply reads stack page cmd => ?header⟩
  case pop =>
    have cmd : s.cu.cmd = some { packet := some p, stage := .dispatched } := taken.cmd
    refine ⟨_, (Runs.viewPop taken).exec_eq, ?_⟩
    intro refused
    have refuses {r : Reason} (is : s.runPop = s.completeView .refused r) : refused r := by
      simp only [refused, is]
      exact State.completeView_spec cmd _ _
    refine ⟨fun empty => refuses (by simp only [State.runPop, empty]), fun e rest stack => ?_⟩
    intro at_once
    have restores (is : s.runPop = s.restoreEntry e rest) : restored s s s.runPop p e rest ∧ at_once := by
      simp only [at_once, is]
      exact State.restoreEntry_spec cmd e rest
    have discards (is : s.runPop = s.discardEntry e rest) : failed s s s.runPop p e rest ∧ at_once := by
      simp only [at_once, is]
      exact State.discardEntry_spec cmd e rest
    refine ⟨fun plain => restores ?_, fun i gen frozen => ⟨fun holds => restores ?_, fun ends => discards ?_⟩,
      fun g page => ⟨fun busy => refuses ?_, fun idle gone => discards ?_, fun idle formatted below => ?_⟩⟩
    · rcases plain with live | blank
      · simp only [State.runPop, stack, live]
      · simp only [State.runPop, stack, blank]
    · obtain ⟨standing, can⟩ := holds
      simp only [State.runPop, stack, frozen, standing, (s.canTake_iff i gen).mpr can, Bool.and_self, if_true]
    · have cannot : (e.standing && s.canTake i gen) = false := by
        rw [← Bool.not_eq_true, Bool.and_eq_true, s.canTake_iff]
        exact ends
      simp only [State.runPop, stack, frozen, cannot, Bool.false_eq_true, if_false]
    · simp only [State.runPop, stack, page, busy, Bool.not_false, if_true]
    · have gone' : (!s.store.formatted || decide (s.store.eod ≤ g.offset)) = true := by
        simpa using gone
      simp only [State.runPop, stack, page, idle, gone', Bool.not_true, Bool.false_eq_true, if_false, if_true]
    · have stands : (!s.store.formatted || decide (s.store.eod ≤ g.offset)) = false := by
        simpa [formatted] using below
      have is : s.runPop = ((s.useTrav .popHeader).setCmdStage .engine).present .popHeader (s.headerRead g.offset) := by
        simp only [State.runPop, stack, page, idle, stands, Bool.not_true, Bool.false_eq_true, if_false]
      rw [is]
      exact State.travReads_spec cmd _ _ _
  case header =>
    refine ⟨_, (Runs.popHeader reply).exec_eq, ?_⟩
    let u := s.portFreed.idleTrav
    have cmd' : u.cu.cmd = some { packet := some p, stage := .engine } := cmd
    have idled : OnlyChanges [.store] s.portFreed u := by simp [u, onlyChanges_iff, State.idleTrav]
    have is : s.portFreed.popHeaderRead a =
        if a.error then u.completeView .retry .memoryError
        else
          match judgeChain s.store.eod g.offset a.words with
          | some h =>
            if h.kind = .page ∧ h.serial = g.serial then u.restoreEntry e rest else u.discardEntry e rest
          | none => u.discardEntry e rest := by
      have reads' : s.portFreed.store.trav = some .popHeader := reads
      have stack' : s.portFreed.view.stack = e :: rest := stack
      simp only [State.popHeaderRead, reads', stack', page]
      rfl
    have framed {t : State} (change : OnlyChanges [.port, .cu, .view, .slots] u t) :
        t.store = { s.store with trav := none } ∧ OnlyChanges [.store, .port, .cu, .view, .slots] s t :=
      ⟨change .store (by simp), .of_portFreed (by simp) ((idled.mono (by simp)).trans (change.mono (by simp)))⟩
    obtain ⟨restores, restoresOnly⟩ := State.restoreEntry_spec cmd' e rest
    obtain ⟨discards, discardsOnly⟩ := State.discardEntry_spec cmd' e rest
    cases error : a.error with
    | true =>
      rw [is, if_pos error]
      obtain ⟨completed, change⟩ := State.completeView_spec cmd' .retry .memoryError
      obtain ⟨store, frame⟩ := framed (change.mono (by simp))
      exact ⟨store, frame, fun _ => ⟨completed.congr rfl rfl, change .view (by simp), change .slots (by simp)⟩, by simp⟩
    | false =>
      rw [is, if_neg (by simp [error])]
      by_cases valid : ∃ h, judgeChain s.store.eod g.offset a.words = some h ∧ h.kind = .page ∧ h.serial = g.serial
      · have made : (match judgeChain s.store.eod g.offset a.words with
            | some h =>
              if h.kind = .page ∧ h.serial = g.serial then u.restoreEntry e rest else u.discardEntry e rest
            | none => u.discardEntry e rest) = u.restoreEntry e rest := by
          obtain ⟨h, found, good⟩ := valid
          simp only [found, good, and_self, if_true]
        rw [made]
        obtain ⟨store, frame⟩ := framed restoresOnly
        exact ⟨store, frame, by simp, fun _ => ⟨fun _ => restores.of_idle, fun not => absurd valid not⟩⟩
      · have made : (match judgeChain s.store.eod g.offset a.words with
            | some h =>
              if h.kind = .page ∧ h.serial = g.serial then u.restoreEntry e rest else u.discardEntry e rest
            | none => u.discardEntry e rest) = u.discardEntry e rest := by
          split
          · next h found => exact if_neg fun good => valid ⟨h, found, good⟩
          · rfl
        rw [made]
        obtain ⟨store, frame⟩ := framed discardsOnly
        exact ⟨store, frame, by simp, fun _ => ⟨fun yes => absurd yes valid, fun _ => discards.of_idle⟩⟩

end Sys2Proof.Machine

/-! RECORD and MARK, the first transaction of a copy, STORE_CLEAR and STORE_PROTECT (R107, R111 to R113, R118 to
R120). -/

namespace Sys2Proof.Machine

/-! ## The first transaction of a copy (R113, R115) -/

/-- The copy engine goes on with a stage, and its transaction is presented. -/
def CopyGoes (s t : State) (c : CopyOp) (q : Purpose) (b : Burst) : Prop :=
  t.store = { s.store with copy := some c } ∧ Presents s t q b ∧ OnlyChanges [.store, .port] s t

theorem State.copyGoes (s : State) (c : CopyOp) (q : Purpose) (b : Burst) :
    CopyGoes s ((s.useCopy c).present q b) c q b := by
  refine ⟨by simp [State.useCopy], ?_, by simp [onlyChanges_iff, State.useCopy]⟩
  simp [Presents, State.present_port, State.useCopy]

/-- A chunk of the payload is left, and its first read is presented. -/
theorem State.copyFrom_read {s : State} {c : CopyOp} {done : Nat} {i : Fin 3} {addr n : Nat} {left : List (Nat × Nat)}
    (job : c.job = .page i) (more : done < c.header.payload)
    (reads : c.header.chunkReads (s.slotBase i) done = (addr, n) :: left) :
    CopyGoes s (s.copyFrom c done) { c with stage := .read done [] left } .copy (ownRead addr n) := by
  have is : s.copyFrom c done = (s.useCopy { c with stage := .read done [] left }).present .copy (ownRead addr n) := by
    simp only [State.copyFrom, job, more, reads, if_true]
  rw [is]
  exact s.copyGoes _ _ _

/-- After the payload, and for a MARK at once, the trailer is written. -/
theorem State.copyFrom_trailer {s : State} {c : CopyOp} {done : Nat}
    (ended : ∀ i, c.job = .page i → c.header.payload ≤ done) :
    CopyGoes s (s.copyFrom c done) { c with stage := .trailer } .copy
      (ownWrite (s.store.base + c.offset + c.header.length - 4) [toWord c.header.length]) := by
  have is : s.copyFrom c done = (s.useCopy { c with stage := .trailer }).present .copy
      (ownWrite (s.store.base + c.offset + c.header.length - 4) [toWord c.header.length]) := by
    cases job : c.job with
    | page i => simp only [State.copyFrom, job, if_neg (Nat.not_lt.mpr (ended i job))]
    | mark | clear => simp only [State.copyFrom, job]
  rw [is]
  exact s.copyGoes _ _ _

/-- The first read of a page is of eight words of the slot's first line (log entry 10). -/
theorem Header.chunkReads_first {h : Header} (base : Nat) (width : 32 ≤ h.w) (height : 8 ≤ h.h) :
    ∃ left, h.chunkReads base 0 = (base, 8) :: left := by
  have area : 32 * 8 ≤ h.w * h.h := Nat.mul_le_mul width height
  cases format : h.format with
  | full =>
    have twice : 2 * h.w * h.h = 2 * (h.w * h.h) := Nat.mul_assoc ..
    have chunk : h.chunk 0 = 32 := by
      simp only [Header.chunk, format, Header.payload, twice]
      omega
    exact ⟨[], by simp [Header.chunkReads, format, chunk]⟩
  | half =>
    have chunk : h.chunk 0 = 32 := by
      simp only [Header.chunk, format, Nat.zero_mod]
      omega
    have luma : 0 < h.w * h.h := by omega
    refine ⟨chunks (base + 32) 8 ++ chunks (base + h.sourceW) 16, ?_⟩
    simp only [Header.chunkReads, format, chunk, luma, if_true, Nat.zero_div, Nat.zero_mod, Nat.mul_zero, Nat.zero_mul,
      Nat.add_zero, Nat.reduceDiv, chunks_cons base (n := 16) (by omega)]
    rfl

/-! ## What an accepted RECORD or MARK begins (R112, R113, R118) -/

theorem State.acceptRecord_onlyChanges (s : State) (p : Nat) (f : Format) (i : Fin 3) (v tr : Bool) :
    OnlyChanges [.slots, .store, .port] s (s.acceptRecord p f i v tr) := by
  simp [onlyChanges_iff]

/-- The copy of a page of the least size begins with its first read. -/
theorem State.acceptRecord_spec (s : State) (p : Nat) (f : Format) (i : Fin 3) (v tr : Bool) :
    let t := s.acceptRecord p f i v tr
    ∃ stage, t.store = { s.store with
        copy := some { job := .page i, trigger := tr, offset := p, header := s.pageHeader f i v, stage := stage } }
      ∧ (64 ≤ (s.slotRec i).wc → 16 ≤ (s.slotRec i).hc → (∃ left, stage = .read 0 [] left)
        ∧ Presents s t .copy { tag := 0, addr := s.bridge.regions.slotBase[i], body := .read 8 }) := by
  intro t
  by_cases size : 64 ≤ (s.slotRec i).wc ∧ 16 ≤ (s.slotRec i).hc
  · obtain ⟨wide, high⟩ := size
    have width : 32 ≤ (s.pageHeader f i v).w := by
      cases f <;> simp only [State.pageHeader, Format.scale] <;> omega
    have height : 8 ≤ (s.pageHeader f i v).h := by
      cases f <;> simp only [State.pageHeader, Format.scale] <;> omega
    obtain ⟨left, reads⟩ := Header.chunkReads_first (s.slotBase i) width height
    have payload : 0 < (s.pageHeader f i v).payload :=
      Nat.mul_pos (Nat.mul_pos (by omega) (by omega)) (by omega)
    have base : (s.takeHold i).slotBase i = s.slotBase i := rfl
    obtain ⟨store, presents, -⟩ := State.copyFrom_read (s := s.takeHold i)
      (c := { job := .page i, trigger := tr, offset := p, header := s.pageHeader f i v, stage := .trailer })
      rfl payload (by rw [base]; exact reads)
    exact ⟨_, store, fun _ _ => ⟨⟨left, rfl⟩, presents⟩⟩
  · obtain ⟨stage, store⟩ := s.acceptRecord_store p f i v tr
    exact ⟨stage, store, fun wide high => absurd ⟨wide, high⟩ size⟩

theorem State.acceptMark_spec (s : State) (p n : Nat) (tr : Bool) :
    CopyGoes s (s.acceptMark p n tr)
      { job := .mark, trigger := tr, offset := p, header := s.markHeader n, stage := .trailer } .copy
      { tag := 0, addr := s.store.base + p + 32, body := .write (fullBeats [36]) } :=
  s.copyFrom_trailer (c := { job := .mark, trigger := tr, offset := p, header := s.markHeader n, stage := .trailer })
    (by simp)

/-! ## The checks of RECORD and MARK (R111, R118) -/

theorem Format.ofCode_of_le {n : Nat} (known : n ≤ 1) : Format.ofCode n = some (if n = 0 then .full else .half) := by
  match n with
  | 0 | 1 => rfl

theorem sourceOfCode_of_le {n : Nat} (known : n ≤ 1) : sourceOfCode n = some (decide (n = 1)) := by
  match n with
  | 0 | 1 => rfl

theorem State.checkRecord_badValue (s : State) {format source : Nat} (bad : 1 < format ∨ 1 < source) :
    s.checkRecord format source = .refused .badValue := by
  have wide (n : Nat) (h : 1 < n) : Format.ofCode n = none ∧ sourceOfCode n = none := by
    match n with
    | n + 2 => exact ⟨rfl, rfl⟩
  rcases bad with h | h
  · simp only [State.checkRecord, (wide format h).1]
  · simp only [State.checkRecord, (wide source h).2]
    cases Format.ofCode format <;> rfl

/-- The slot that a RECORD takes its frame from, by its source code. -/
theorem State.recordSlot_eq (s : State) (v : Bool) :
    s.recordSlot v =
      if v = false then s.newest
      else match s.view.current.source with
        | .live => s.newest
        | .frozen i gen => if (s.slotRec i).state = .complete ∧ (s.slotRec i).gen = gen then some i else none
        | _ => none := by
  cases v with
  | false => rfl
  | true =>
    simp only [State.recordSlot, State.canTake_iff]
    cases s.view.current.source <;> simp

/-- A command that is refused or done without a change completes. -/
theorem State.complete_only {s : State} {p : Packet} {st : CmdStage}
    (cmd : s.cu.cmd = some { packet := some p, stage := st }) (o : Result) :
    Completed s (s.complete o) p o ∧ OnlyChanges [.port, .cu] s (s.complete o) :=
  State.complete_after (.refl [] s) (by simp) (by simp) cmd o

/-- RECORD carried out, check by check (R111, R112). -/
theorem State.runRecord_refused {s : State} {p : Packet} {r : Reason}
    (check : s.checkRecord (field p.p1 0 8) (field p.p1 8 8) = .refused r) :
    s.runRecord p = s.complete (Result.refuse r) := by
  simp only [State.runRecord, check]

theorem State.runRecord_accepted {s : State} {p : Packet} {o : Nat} {f : Format} {i : Fin 3}
    (check : s.checkRecord (field p.p1 0 8) (field p.p1 8 8) = .accepted o f i) :
    s.runRecord p = (s.setCmdStage .engine).acceptRecord o f i (field p.p1 8 8 == 1) false := by
  simp only [State.runRecord, check]

theorem State.runMark_refused {s : State} {p : Packet} {r : Reason}
    (check : s.checkMark (field p.p1 0 16) = .refused r) : s.runMark p = s.complete (Result.refuse r) := by
  simp only [State.runMark, check]

theorem State.runMark_accepted {s : State} {p : Packet} {o : Nat} (check : s.checkMark (field p.p1 0 16) = .accepted o) :
    s.runMark p = (s.setCmdStage .engine).acceptMark o (field p.p1 0 16) false := by
  simp only [State.runMark, check]

/-- The first check of RECORD that fails, or the acceptance (R111). -/
theorem State.checkRecord_eq (s : State) {format source : Nat} (formats : format ≤ 1) (sources : source ≤ 1) :
    s.checkRecord format source =
      if s.enginesIdle = false then .refused .storeBusy
      else if s.store.formatted = false then .refused .notFormatted
      else if s.store.protect = true then .refused .storeProtected
      else match s.store.position with
      | none => .refused .positionLost
      | some o =>
        if s.slots.staged ≠ none then .refused .setupPending
        else match s.recordSlot (decide (source = 1)) with
        | none => .refused .noFrame
        | some i =>
          if s.pageInUse o = true then .refused .pageInUse
          else if s.storeSize < o + pageLength (if format = 0 then .full else .half) (s.slotRec i) + 32 then
            .refused .noSpace
          else .accepted o (if format = 0 then .full else .half) i := by
  simp only [State.checkRecord, Format.ofCode_of_le formats, sourceOfCode_of_le sources, Bool.not_eq_true',
    Option.isSome_iff_ne_none, State.fits, decide_eq_true_eq, ← Nat.not_lt, ite_not] <;> rfl

/-- The first check of MARK that fails, or the acceptance (R118). -/
theorem State.checkMark_eq (s : State) (lesson : Nat) :
    s.checkMark lesson =
      if 255 < lesson then .refused .badValue
      else if s.enginesIdle = false then .refused .storeBusy
      else if s.store.formatted = false then .refused .notFormatted
      else if s.store.protect = true then .refused .storeProtected
      else match s.store.position with
      | none => .refused .positionLost
      | some o =>
        if s.slots.staged ≠ none then .refused .setupPending
        else if s.pageInUse o = true then .refused .pageInUse
        else if s.storeSize < o + 68 then .refused .noSpace
        else .accepted o := by
  simp only [State.checkMark, Bool.not_eq_true', Option.isSome_iff_ne_none, State.fits, decide_eq_true_eq,
    ← Nat.not_lt, ite_not] <;> rfl

/-- What an accepted RECORD leaves (R112, R113). -/
theorem State.runRecord_spec {s : State} {p : Packet} {o : Nat} {f : Format} {i : Fin 3}
    (cmd : s.cu.cmd = some { packet := some p, stage := .dispatched })
    (check : s.checkRecord (field p.p1 0 8) (field p.p1 8 8) = .accepted o f i) :
    let t := s.runRecord p
    t.slots = (s.takeHold i).slots
      ∧ t.cu = { s.cu with cmd := some { packet := some p, stage := .engine } }
      ∧ OnlyChanges [.slots, .store, .port, .cu] s t
      ∧ ∃ stage, t.store = { s.store with
          copy := some
            { job := .page i, trigger := false, offset := o, header := s.pageHeader f i (field p.p1 8 8 == 1),
              stage := stage } }
        ∧ (64 ≤ (s.slotRec i).wc → 16 ≤ (s.slotRec i).hc → (∃ left, stage = .read 0 [] left)
          ∧ Presents s t .copy { tag := 0, addr := s.bridge.regions.slotBase[i], body := .read 8 }) := by
  intro t
  let u := s.setCu { s.cu with cmd := some { packet := some p, stage := .engine } }
  have is : t = u.acceptRecord o f i (field p.p1 8 8 == 1) false :=
    (State.runRecord_accepted check).trans (by rw [State.setCmdStage_of cmd])
  have frame := u.acceptRecord_onlyChanges o f i (field p.p1 8 8 == 1) false
  obtain ⟨stage, store, first⟩ := u.acceptRecord_spec o f i (field p.p1 8 8 == 1) false
  have staged : OnlyChanges [.cu] s u := by simp [u, onlyChanges_iff]
  rw [is]
  exact ⟨u.acceptRecord_slots .., frame .cu (by simp), (staged.mono (by simp)).trans (frame.mono (by simp)), stage,
    store, first⟩

/-- What an accepted MARK leaves (R118). -/
theorem State.runMark_spec {s : State} {p : Packet} {o : Nat}
    (cmd : s.cu.cmd = some { packet := some p, stage := .dispatched })
    (check : s.checkMark (field p.p1 0 16) = .accepted o) :
    let t := s.runMark p
    t.store = { s.store with
        copy := some
          { job := .mark, trigger := false, offset := o, header := s.markHeader (field p.p1 0 16),
            stage := .trailer } }
      ∧ t.cu = { s.cu with cmd := some { packet := some p, stage := .engine } }
      ∧ Presents s t .copy { tag := 0, addr := s.store.base + o + 32, body := .write (fullBeats [36]) }
      ∧ OnlyChanges [.store, .port, .cu] s t := by
  intro t
  let u := s.setCu { s.cu with cmd := some { packet := some p, stage := .engine } }
  have is : t = u.acceptMark o (field p.p1 0 16) false :=
    (State.runMark_accepted check).trans (by rw [State.setCmdStage_of cmd])
  obtain ⟨store, presents, frame⟩ := u.acceptMark_spec o (field p.p1 0 16) false
  have staged : OnlyChanges [.cu] s u := by simp [u, onlyChanges_iff]
  rw [is]
  exact ⟨store, frame .cu (by simp), presents, (staged.mono (by simp)).trans (frame.mono (by simp))⟩

theorem beq_one_eq_decide (n : Nat) : (n == 1) = decide (n = 1) := by
  rw [Bool.eq_iff_iff, beq_iff_eq, decide_eq_true_eq]

/-- Settles O51, check by check. -/
theorem recordAndMarkAccepted : Obligations.RecordAndMarkAccepted := by
  refine ⟨fun s p taken => ?record, fun s p taken => ?mark⟩
  case record =>
    intro format source c inUse slot
    have cmd : s.cu.cmd = some { packet := some p, stage := .dispatched } := taken.cmd
    have formatIs : field p.p1 0 8 = format := by simp [field, format]
    have sourceIs : field p.p1 8 8 = source := by simp [field, source]
    have slotIs (sources : source ≤ 1) : s.recordSlot (decide (source = 1)) = slot := by
      rw [s.recordSlot_eq]
      rcases Nat.le_one_iff_eq_zero_or_eq_one.mp sources with zero | one
      · simp [slot, zero]
      · simp only [slot, one]
        rfl
    clear_value slot
    refine ⟨_, (Runs.record taken).exec_eq, ?_⟩
    intro refused
    have refuses {r : Reason} (check : s.checkRecord format source = .refused r) : refused r := by
      simp only [refused, State.runRecord_refused (by rw [formatIs, sourceIs, check])]
      exact State.complete_only cmd _
    by_cases bad : 1 < format ∨ 1 < source
    · rw [if_pos bad]
      exact refuses (s.checkRecord_badValue bad)
    rw [if_neg bad]
    obtain ⟨formats, sources⟩ : format ≤ 1 ∧ source ≤ 1 := by omega
    rw [s.checkRecord_eq formats sources, slotIs sources] at refuses
    by_cases busy : s.enginesIdle = false
    · rw [if_pos busy] at refuses ⊢
      exact refuses rfl
    rw [if_neg busy] at refuses ⊢
    by_cases bare : s.store.formatted = false
    · rw [if_pos bare] at refuses ⊢
      exact refuses rfl
    rw [if_neg bare] at refuses ⊢
    by_cases protect : s.store.protect = true
    · rw [if_pos protect] at refuses ⊢
      exact refuses rfl
    rw [if_neg protect] at refuses ⊢
    split
    next lost =>
      rw [lost] at refuses
      exact refuses rfl
    next o position =>
      simp only [position] at refuses
      by_cases staged : s.slots.staged ≠ none
      · rw [if_pos staged] at refuses ⊢
        exact refuses rfl
      rw [if_neg staged] at refuses ⊢
      split
      next empty => exact refuses rfl
      next i =>
        intro r w h length
        have lengthIs : pageLength (if format = 0 then .full else .half) (s.slotRec i) = length := by
          by_cases zero : format = 0 <;> simp [pageLength, Format.scale, length, w, h, r, zero]
        have usedIs : s.pageInUse o = inUse o := rfl
        simp only [lengthIs, usedIs] at refuses
        by_cases used : inUse o = true
        · rw [if_pos used] at refuses ⊢
          exact refuses rfl
        rw [if_neg used] at refuses ⊢
        by_cases full : s.storeSize < o + length + 32
        · rw [if_pos full] at refuses ⊢
          exact refuses rfl
        rw [if_neg full]
        have check : s.checkRecord format source = .accepted o (if format = 0 then .full else .half) i := by
          rw [s.checkRecord_eq formats sources, if_neg busy, if_neg bare, if_neg protect]
          simp only [position, if_neg staged, slotIs sources, lengthIs, usedIs, if_neg used, if_neg full]
        have header : s.pageHeader (if format = 0 then .full else .half) i (source == 1) =
            { kind := .page, format := if format = 0 then .full else .half,
              broken := r.broken, note := decide (source = 1), cycle := r.frame.toNat % 64,
              serial := s.store.serial, length := length, lesson := s.store.lesson,
              w := w, h := h, z := if source = 1 then c.z else 0, frame := r.frame,
              time := s.timer.localTime, cx := if source = 1 then c.cx else 0,
              cy := if source = 1 then c.cy else 0 } := by
          by_cases zero : format = 0 <;>
            simp [State.pageHeader, pageLength, Format.scale, length, w, h, r, c, zero, cycleOf, beq_one_eq_decide]
        have spec := State.runRecord_spec cmd (by rw [formatIs, sourceIs, check])
        rw [sourceIs, header] at spec
        exact spec
  case mark =>
    intro lesson inUse
    have cmd : s.cu.cmd = some { packet := some p, stage := .dispatched } := taken.cmd
    have lessonIs : field p.p1 0 16 = lesson := by simp [field, lesson]
    refine ⟨_, (Runs.mark taken).exec_eq, ?_⟩
    intro refused
    have refuses {r : Reason} (check : s.checkMark lesson = .refused r) : refused r := by
      simp only [refused, State.runMark_refused (by rw [lessonIs, check])]
      exact State.complete_only cmd _
    rw [s.checkMark_eq] at refuses
    by_cases bad : 255 < lesson
    · rw [if_pos bad] at refuses ⊢
      exact refuses rfl
    rw [if_neg bad] at refuses ⊢
    by_cases busy : s.enginesIdle = false
    · rw [if_pos busy] at refuses ⊢
      exact refuses rfl
    rw [if_neg busy] at refuses ⊢
    by_cases bare : s.store.formatted = false
    · rw [if_pos bare] at refuses ⊢
      exact refuses rfl
    rw [if_neg bare] at refuses ⊢
    by_cases protect : s.store.protect = true
    · rw [if_pos protect] at refuses ⊢
      exact refuses rfl
    rw [if_neg protect] at refuses ⊢
    split
    next lost =>
      rw [lost] at refuses
      exact refuses rfl
    next o position =>
      simp only [position] at refuses
      by_cases staged : s.slots.staged ≠ none
      · rw [if_pos staged] at refuses ⊢
        exact refuses rfl
      rw [if_neg staged] at refuses ⊢
      have usedIs : s.pageInUse o = inUse o := rfl
      rw [usedIs] at refuses
      by_cases used : inUse o = true
      · rw [if_pos used] at refuses ⊢
        exact refuses rfl
      rw [if_neg used] at refuses ⊢
      by_cases full : s.storeSize < o + 68
      · rw [if_pos full] at refuses ⊢
        exact refuses rfl
      rw [if_neg full]
      have check : s.checkMark lesson = .accepted o := by
        rw [s.checkMark_eq, if_neg bad, if_neg busy, if_neg bare, if_neg protect]
        simp only [position, if_neg staged, usedIs, if_neg used, if_neg full]
      have spec := State.runMark_spec cmd (lessonIs ▸ check)
      rw [lessonIs] at spec
      exact spec

/-! ## STORE_CLEAR and STORE_PROTECT (R119, R120) -/

/-- A command takes the copy engine and presents its transaction. -/
theorem State.copyTaken_spec {s : State} {p : Packet} {st : CmdStage}
    (cmd : s.cu.cmd = some { packet := some p, stage := st }) (c : CopyOp) (q : Purpose) (b : Burst) :
    let t := ((s.useCopy c).setCmdStage .engine).present q b
    t.store = { s.store with copy := some c }
      ∧ t.cu = { s.cu with cmd := some { packet := some p, stage := .engine } }
      ∧ Presents s t q b ∧ OnlyChanges [.store, .port, .cu] s t := by
  intro t
  have made : t = ((s.setCmdStage .engine).useCopy c).present q b := by
    simp only [t, State.useCopy_setCmdStage]
  refine ⟨?_, ?_, ?_, ?_⟩
  · simp [made, State.useCopy]
  · simp [made, State.useCopy, State.setCmdStage_of cmd]
  · simp [made, Presents, State.present_port, State.useCopy]
  · simp [made, onlyChanges_iff, State.useCopy]

/-- The answer to the clear write replaces the store and completes the command (R119). -/
theorem State.clearAnswer_spec {s : State} {a : Answer} {p : Packet} {st : CmdStage} {c : CopyOp}
    (running : s.store.copy = some c) (clear : c.job = .clear)
    (cmd : s.cu.cmd = some { packet := some p, stage := st }) :
    let t := s.clearAnswer a
    let store := { s.store with copy := none }
    t.store = (if a.error then store.clearFailed else store.cleared)
      ∧ Completed s t p (if a.error then Result.retry else Result.done 0)
      ∧ OnlyChanges [.store, .port, .cu] s t := by
  intro t store
  have pin : c.pin = none := by simp only [CopyOp.pin, clear]
  have ended : s.endCopy c = s.setStore store := by simp only [State.endCopy, pin]; rfl
  have change (x : Store) : OnlyChanges [.store] s ((s.setStore store).setStore x) := by simp [onlyChanges_iff]
  cases failed : a.error with
  | true =>
    have is : t = ((s.setStore store).setStore store.clearFailed).complete Result.retry := by
      simp only [t, State.clearAnswer, running, clear, if_true, ended, failed]
      rfl
    obtain ⟨completed, frame⟩ := State.complete_after (change store.clearFailed) (by simp) (by simp) cmd Result.retry
    rw [is]
    exact ⟨by simp, completed, frame.mono (by simp)⟩
  | false =>
    have is : t = ((s.setStore store).setStore store.cleared).complete (Result.done 0) := by
      simp only [t, State.clearAnswer, running, clear, if_true, ended, failed]
      rfl
    obtain ⟨completed, frame⟩ := State.complete_after (change store.cleared) (by simp) (by simp) cmd (Result.done 0)
    rw [is]
    exact ⟨by simp, completed, frame.mono (by simp)⟩

/-- Settles O54. -/
theorem storeClearAndProtect : Obligations.StoreClearAndProtect := by
  refine ⟨fun s p taken => ?clear, fun s a p c reply running clear cmd => ?answer, fun s p taken => ?protect⟩
  case clear =>
    have cmd : s.cu.cmd = some { packet := some p, stage := .dispatched } := taken.cmd
    refine ⟨_, (Runs.storeClear taken).exec_eq, ?_⟩
    intro refused
    refine ⟨fun busy => ?_, fun idle shown => ?_, fun idle hidden => ?_⟩
    · have is : s.runClear = s.complete (Result.refuse .storeBusy) := by simp [State.runClear, busy]
      simp only [refused, is]
      exact State.complete_only cmd _
    · have page : s.view.current.pageFrom 0 = true := s.pageFrom_zero_iff.mpr shown
      have is : s.runClear = s.complete (Result.refuse .pageInUse) := by simp [State.runClear, idle, page]
      simp only [refused, is]
      exact State.complete_only cmd _
    · have page : s.view.current.pageFrom 0 = false := by
        rw [← Bool.not_eq_true, s.pageFrom_zero_iff]
        exact fun shown => shown hidden
      have is : s.runClear = ((s.useCopy
          { job := .clear, trigger := false, offset := 0, header := Header.ofEnd 0,
            stage := .clear }).setCmdStage .engine).present .clearWrite
              (ownWrite s.store.base (Header.ofEnd 0).toWords) := by simp [State.runClear, idle, page]
      have words : (Header.ofEnd 0).toWords = [3, 0, 0, 0, 0, 0, 0, 0xFFFC0000] := by decide
      rw [is, words]
      obtain ⟨store, cu, presents, frame⟩ := State.copyTaken_spec cmd
        { job := .clear, trigger := false, offset := 0, header := Header.ofEnd 0, stage := .clear } .clearWrite
        (ownWrite s.store.base [3, 0, 0, 0, 0, 0, 0, 0xFFFC0000])
      exact ⟨⟨_, store, rfl, rfl⟩, cu, presents, frame⟩
  case answer =>
    refine ⟨_, (Runs.clearAnswer reply).exec_eq, ?_⟩
    obtain ⟨store, completed, frame⟩ := State.clearAnswer_spec (s := s.portFreed) (a := a) running clear cmd
    refine ⟨.of_portFreed (by simp) frame, fun fine => ?_, fun failed => ?_⟩
    · rw [if_neg (by simp [fine])] at store completed
      exact ⟨store, completed⟩
    · rw [if_pos failed] at store completed
      exact ⟨store, completed⟩
  case protect =>
    have cmd : s.cu.cmd = some { packet := some p, stage := .dispatched } := taken.cmd
    have change : OnlyChanges [.store] s (s.setStore { s.store with protect := true }) := by simp [onlyChanges_iff]
    obtain ⟨completed, frame⟩ := State.complete_after change (by simp) (by simp) cmd (Result.done 0)
    exact ⟨_, (Runs.storeProtect taken).exec_eq, by simp, completed, frame.mono (by simp)⟩

end Sys2Proof.Machine

/-! The answers to the transactions of a copy, and its commit (R104, R107, R113, R115, R116, R118, R147). -/

namespace Sys2Proof.Machine

/-! ## What a NOTICE depends on -/

/-- A NOTICE reports nothing of the engines of the store. -/
theorem NoticeDue.of_engines {s u t : State} {c : CommandUnit}
    (store : u.store = { s.store with copy := u.store.copy, trav := u.store.trav }) (port : u.port = s.port)
    (h : NoticeDue u c t) : NoticeDue s c t := by
  have notice : (u.setCu c).noticeOf = (s.setCu c).noticeOf := by
    have position : u.store.position = s.store.position := by rw [store]
    have eod : u.store.eod = s.store.eod := by rw [store]
    have serial : u.store.serial = s.store.serial := by rw [store]
    simp [State.noticeOf, State.messageWords, State.reportWords, position, eod, serial]
  unfold NoticeDue at *
  rw [← notice, ← port]
  exact h

/-! ## The end of a copy (R115, R116) -/

theorem State.endCopy_onlyChanges (s : State) (c : CopyOp) : OnlyChanges [.slots, .store] s (s.endCopy c) := by
  simp [onlyChanges_iff]

theorem State.endCopy_slots_of_portFreed (s : State) (c : CopyOp) :
    (s.portFreed.endCopy c).slots = (s.releaseOpt c.pin).slots := by
  rw [State.endCopy_slots]
  exact State.releaseOpt_slots_congr (s := s) (u := s.portFreed) rfl rfl _

/-- The failure of a copy is reported by its command or, for a trigger's, by a notice (R116, R147). -/
theorem State.copyFailed_command {s : State} {c : CopyOp} (command : c.trigger = false) :
    s.copyFailed c = s.complete Result.retry := by
  simp [State.copyFailed, command]

theorem State.copyFailed_trigger {s : State} {c : CopyOp} (trigger : c.trigger = true) :
    s.copyFailed c = s.post (.captureFailed .memoryError) := by
  simp [State.copyFailed, trigger]

theorem State.copyFailed_onlyChanges (s : State) (c : CopyOp) : OnlyChanges [.port, .cu] s (s.copyFailed c) := by
  simp [onlyChanges_iff]

/-! ## The transactions of a copy (R113, R115) -/

section
variable {s : State} {a : Answer} {c : CopyOp} (running : s.store.copy = some c)
include running

theorem State.copyAnswer_error (failed : a.error = true) : s.copyAnswer a = (s.endCopy c).copyFailed c := by
  simp only [State.copyAnswer, running, failed, if_true]

variable (fine : a.error = false)
include fine

theorem State.copyAnswer_reads {done addr n : Nat} {got : List Word} {left : List (Nat × Nat)}
    (stage : c.stage = .read done got ((addr, n) :: left)) :
    s.copyAnswer a =
      (s.useCopy { c with stage := .read done (got ++ a.words) left }).present .copy (ownRead addr n) := by
  simp only [State.copyAnswer, running, fine, stage, Bool.false_eq_true, if_false]

theorem State.copyAnswer_writes {done : Nat} {got : List Word} (stage : c.stage = .read done got []) :
    s.copyAnswer a = (s.useCopy { c with stage := .write done }).present .copy
      (ownWrite (s.store.base + c.offset + 32 + done) (c.header.chunkData done (got ++ a.words))) := by
  simp only [State.copyAnswer, running, fine, stage, Bool.false_eq_true, if_false]

theorem State.copyAnswer_written {done : Nat} (stage : c.stage = .write done) :
    s.copyAnswer a = s.copyFrom c (done + c.header.chunk done) := by
  simp only [State.copyAnswer, running, fine, stage, Bool.false_eq_true, if_false]

theorem State.copyAnswer_trailer (stage : c.stage = .trailer) :
    s.copyAnswer a = (s.useCopy { c with stage := .endHeader }).present .copy
      (ownWrite (s.store.base + c.offset + c.header.length) (Header.ofEnd (s.store.serial + 1)).toWords) := by
  simp only [State.copyAnswer, running, fine, stage, Bool.false_eq_true, if_false]

theorem State.copyAnswer_end (stage : c.stage = .endHeader) :
    s.copyAnswer a = (s.useCopy { c with stage := .commit }).present .commit
      (ownWrite (s.store.base + c.offset) c.header.toWords) := by
  simp only [State.copyAnswer, running, fine, stage, Bool.false_eq_true, if_false]

end

/-! ## The chunks of the payload (R113; log entry 10) -/

theorem Header.chunk_full {h : Header} (format : h.format = .full) (done : Nat) :
    h.chunk done = min 32 (2 * h.w * h.h - done) := by
  simp only [Header.chunk, format, Header.payload]

theorem Header.chunk_half {h : Header} (format : h.format = .half) (done : Nat) :
    h.chunk done = min 32 (h.w - done % h.w) := by
  simp only [Header.chunk, format]

theorem Header.chunkReads_full {h : Header} (format : h.format = .full) (base done : Nat) :
    h.chunkReads base done = [(base + done, min 32 (2 * h.w * h.h - done) / 4)] := by
  simp only [Header.chunkReads, format, h.chunk_full format]

theorem Header.chunkData_full {h : Header} (format : h.format = .full) (done : Nat) (got : List Word) :
    h.chunkData done got = got := by
  simp only [Header.chunkData, format]

/-- A chunk of a HALF page of at least two bytes is read in at least one transaction. -/
theorem Header.chunkReads_half_cons {h : Header} (format : h.format = .half) (base : Nat) {done : Nat}
    (some : 2 ≤ min 32 (h.w - done % h.w)) : ∃ addr n left, h.chunkReads base done = (addr, n) :: left := by
  have words : 1 ≤ h.chunk done / 2 := by rw [h.chunk_half format]; omega
  simp only [Header.chunkReads, format]
  split
  · rw [chunks_cons _ words]
    exact ⟨_, _, _, rfl⟩
  · rw [chunks_cons _ words]
    exact ⟨_, _, _, rfl⟩

/-! ## The commit (R107, R115) -/

/-- A 16-bit serial as a bus word. -/
theorem toWord_serial (n : Half) : toWord n.toNat = (0 : BitVec 16) ++ n := by
  have small := n.isLt
  apply BitVec.eq_of_toNat_eq
  rw [toWord, BitVec.toNat_ofNat, BitVec.toNat_append, Nat.mod_eq_of_lt (by omega)]
  simp

/-- The store has less room left than its margin (R107). -/
theorem State.lowSpace_iff (s : State) :
    s.lowSpace = true ↔ s.storeSize - s.store.eod - 32 < s.store.margin := by
  simp [State.lowSpace]

/-- The state after the header write has been answered OK. -/
def State.committedBy (s : State) (c : CopyOp) : State := (s.endCopy c).setStore ((s.endCopy c).store.committed c)

theorem State.committedBy_store (s : State) (c : CopyOp) :
    (s.committedBy c).store = { s.store with
      copy := none, eod := c.offset + c.header.length, position := some (c.offset + c.header.length),
      serial := s.store.serial + 1,
      lesson := if c.header.kind = .mark then c.header.lesson else s.store.lesson } := by
  simp [State.committedBy, State.endCopy_store, Store.committed]

theorem State.committedBy_onlyChanges (s : State) (c : CopyOp) :
    OnlyChanges [.slots, .store] s (s.committedBy c) := by
  simp [onlyChanges_iff, State.committedBy]

theorem State.commitAnswer_ok {s : State} {a : Answer} {c : CopyOp} (running : s.store.copy = some c)
    (fine : a.error = false) :
    s.commitAnswer a =
      if c.trigger then (if (s.committedBy c).lowSpace then (s.committedBy c).post .lowSpace else s.committedBy c)
      else (s.committedBy c).complete
        { cls := if (s.committedBy c).lowSpace then .alert else .done,
          reason := if (s.committedBy c).lowSpace then .lowSpace else .none,
          arg := toWord c.header.serial.toNat, residual := 0 } := by
  simp only [State.commitAnswer, running, fine, Bool.false_eq_true, if_false]
  rfl

theorem State.commitAnswer_error {s : State} {a : Answer} {c : CopyOp} (running : s.store.copy = some c)
    (failed : a.error = true) :
    s.commitAnswer a =
      if c.trigger then (((s.endCopy c).setPosition none).copyFailed c).post .positionLost
      else ((s.endCopy c).setPosition none).copyFailed c := by
  simp only [State.commitAnswer, running, failed, if_true]

/-- Settles O52, by the stage of the copy and by the status of the commit. -/
theorem copyWritesAndCommits : Obligations.CopyWritesAndCommits := by
  refine ⟨fun s a c reply running => ?copy, fun s a c reply running => ?commit⟩
  case copy =>
    intro base h
    have running' : s.portFreed.store.copy = some c := running
    refine ⟨_, (Runs.copyAnswer reply).exec_eq, ?_⟩
    intro goes
    have went {st : CopyStage} {q : Purpose} {b : Burst} {addr : Nat} {body : Body}
        (is : CopyGoes s.portFreed (s.portFreed.copyAnswer a) { c with stage := st } q b)
        (burst : b = { tag := 0, addr := addr, body := body }) : goes st q addr body := by
      obtain ⟨store, presents, frame⟩ := is
      exact ⟨store, burst ▸ presents, .of_portFreed (by simp) frame⟩
    have made {c' : CopyOp} {q : Purpose} {b : Burst}
        (is : s.portFreed.copyAnswer a = (s.portFreed.useCopy c').present q b) :
        CopyGoes s.portFreed (s.portFreed.copyAnswer a) c' q b := is ▸ s.portFreed.copyGoes c' q b
    refine ⟨fun failed => ?error, fun done got addr n left fine stage => ?reads, fun done got fine stage => ?writes,
      fun done i fine stage job format => ?full, fun done i fine stage job format wide => ?half,
      fun fine stage => ?trailer, fun fine stage => ?header⟩
    case error =>
      rw [State.copyAnswer_error running' failed]
      have ended := s.portFreed.endCopy_onlyChanges c
      have reported := (s.portFreed.endCopy c).copyFailed_onlyChanges c
      refine ⟨(reported .slots (by simp)).trans (s.endCopy_slots_of_portFreed c),
        (reported .store (by simp)).trans (State.endCopy_store _ c),
        .of_portFreed (by simp) ((ended.mono (by simp)).trans (reported.mono (by simp))), fun p st command cmd => ?_,
        fun trigger => ?_⟩
      · rw [State.copyFailed_command command]
        exact (State.complete_after ended (by simp) (by simp) cmd _).1
      · rw [State.copyFailed_trigger trigger]
        have posted := (s.portFreed.endCopy c).post_noticeDue (.captureFailed .memoryError)
        rw [show (s.portFreed.endCopy c).cu = s.cu from ended .cu (by simp)] at posted
        exact posted.of_engines (by rw [State.endCopy_store]) (ended .port (by simp))
    case reads => exact went (made (State.copyAnswer_reads running' fine stage)) rfl
    case writes =>
      exact ⟨went (made (State.copyAnswer_writes running' fine stage)) rfl,
        fun format => c.header.chunkData_full format done _⟩
    case full =>
      intro from_
      have chunk : done + c.header.chunk done = from_ := by rw [c.header.chunk_full format]
      have is := State.copyAnswer_written running' fine stage
      rw [chunk] at is
      refine ⟨fun more => ?_, fun over' => ?_⟩
      · refine went (is ▸ State.copyFrom_read job more (c.header.chunkReads_full format _ from_)) rfl
      · exact went (is ▸ State.copyFrom_trailer fun _ _ => over') rfl
    case half =>
      intro from_
      have chunk : done + c.header.chunk done = from_ := by rw [c.header.chunk_half format]
      have is := State.copyAnswer_written running' fine stage
      rw [chunk] at is
      refine ⟨fun over' => went (is ▸ State.copyFrom_trailer fun _ _ => over') rfl, fun more some => ?_⟩
      obtain ⟨addr, n, left, reads⟩ := c.header.chunkReads_half_cons format s.bridge.regions.slotBase[i] some
      exact ⟨addr, n, left, reads, went (is ▸ State.copyFrom_read job more reads) rfl⟩
    case trailer => exact went (made (State.copyAnswer_trailer running' fine stage)) rfl
    case header => exact went (made (State.copyAnswer_end running' fine stage)) rfl
  case commit =>
    intro h eod low
    have running' : s.portFreed.store.copy = some c := running
    let w := s.portFreed.committedBy c
    have wStore := s.portFreed.committedBy_store c
    have wFrame := s.portFreed.committedBy_onlyChanges c
    have wSlots : w.slots = (s.releaseOpt c.pin).slots := s.endCopy_slots_of_portFreed c
    have wLow : w.lowSpace = decide low := by
      rw [Bool.eq_iff_iff, w.lowSpace_iff, decide_eq_true_eq]
      simp only [State.storeSize, w, wStore]
      rfl
    refine ⟨_, (Runs.commit reply).exec_eq, ?_⟩
    cases failed : a.error with
    | false =>
      have is := State.commitAnswer_ok running' failed
      have frame : OnlyChanges [.port, .cu] w (s.portFreed.commitAnswer a) := by
        rw [is]
        split
        · split
          · exact w.post_onlyChanges _
          · exact .refl _ _
        · exact w.complete_onlyChanges _
      refine ⟨(frame .slots (by simp)).trans wSlots, .of_portFreed (by simp)
        ((wFrame.mono (by simp)).trans (frame.mono (by simp))), fun _ => ⟨(frame .store (by simp)).trans wStore,
          fun p st command cmd => ?_, fun trigger roomy => ?_, fun trigger full => ?_⟩, by simp⟩
      · rw [is, if_neg (by simp [command]), toWord_serial, show (s.portFreed.committedBy c).lowSpace = _ from wLow]
        simp only [decide_eq_true_eq]
        exact (State.complete_after wFrame (by simp) (by simp) cmd _).1
      · rw [is, if_pos trigger, if_neg (by rw [show (s.portFreed.committedBy c).lowSpace = _ from wLow]; simpa using roomy)]
        exact ⟨wFrame .cu (by simp), wFrame .port (by simp)⟩
      · have made : s.portFreed.commitAnswer a = w.post .lowSpace := by
          rw [is, if_pos trigger, if_pos (by rw [show (s.portFreed.committedBy c).lowSpace = _ from wLow]; simpa using full)]
        have posted := w.post_noticeDue .lowSpace
        rw [show w.cu = s.cu from wFrame .cu (by simp), ← made] at posted
        exact posted.congr (by exact (frame .store (by simp)).symm) (wFrame .port (by simp)) rfl rfl
    | true =>
      have is := State.commitAnswer_error running' failed
      let v := (s.portFreed.endCopy c).setPosition none
      have vStore : v.store = { s.store with copy := none, position := none } := by
        simp only [v, State.setPosition, State.setStore_store, State.endCopy_store]
        rfl
      have vFrame : OnlyChanges [.slots, .store] s.portFreed v :=
        (s.portFreed.endCopy_onlyChanges c).trans (by simp [v, onlyChanges_iff, State.setPosition])
      have reported := v.copyFailed_onlyChanges c
      have frame : OnlyChanges [.port, .cu] v (s.portFreed.commitAnswer a) := by
        rw [is]
        split
        · exact reported.trans (State.post_onlyChanges _ _)
        · exact reported
      refine ⟨(frame .slots (by simp)).trans (s.endCopy_slots_of_portFreed c), .of_portFreed (by simp)
        ((vFrame.mono (by simp)).trans (frame.mono (by simp))), by simp,
        fun _ => ⟨(frame .store (by simp)).trans vStore, fun p st command cmd => ?_, fun trigger => ?_⟩⟩
      · rw [is, if_neg (by simp [command]), State.copyFailed_command command]
        exact (State.complete_after vFrame (by simp) (by simp) cmd _).1
      · have made : s.portFreed.commitAnswer a = (v.post (.captureFailed .memoryError)).post .positionLost := by
          rw [is, if_pos trigger, State.copyFailed_trigger trigger]
        have store : (s.portFreed.commitAnswer a).store = v.store := frame .store (by simp)
        have first := v.post_noticeDue (.captureFailed .memoryError)
        rw [show v.cu = s.cu from vFrame .cu (by simp)] at first
        have second := (v.post (.captureFailed .memoryError)).post_noticeDue .positionLost
        rw [← made] at second
        exact ⟨v.post (.captureFailed .memoryError), first.congr store.symm (vFrame .port (by simp)) rfl rfl,
          NoticeDue.congr (u := v.post (.captureFailed .memoryError)) ((State.post_store _ _).trans store.symm) rfl rfl
            rfl second⟩

end Sys2Proof.Machine

/-! The payload of a HALF page (R113, R114). -/

namespace Sys2Proof.Machine

/-! ## The bytes that fetches read -/

/-- The bytes of a frame that lie in consecutive words, fetch after fetch. -/
theorem chunks_bytes (frame : Nat → Byte) (base addr n : Nat) (above : base ≤ addr) :
    ((chunks addr n).flatMap fun r => (List.range (4 * r.2)).map fun k => frame (r.1 - base + k))
      = (List.range (4 * n)).map fun k => frame (addr - base + k) := by
  induction n using Nat.strongRecOn generalizing addr with
  | _ n ih =>
    rcases Nat.eq_zero_or_pos n with rfl | some
    · rfl
    · have count : 4 * n = 4 * min 8 n + 4 * (n - 8) := by omega
      rw [chunks_cons addr some, List.flatMap_cons, ih (n - 8) (by omega) (addr + 32) (by omega), count,
        List.range_add, List.map_append, List.map_map]
      congr 1
      refine List.map_congr_left fun k mem => ?_
      have inside := List.mem_range.mp mem
      simp only [Function.comp_apply]
      congr 1
      omega

/-! ## Means of blocks and even pairs (R114) -/

theorem range_succ_succ (n : Nat) : List.range (n + 2) = 0 :: 1 :: (List.range n).map (· + 2) := by
  simp [List.range_succ_eq_map, List.map_map, Function.comp_def]

/-- The means of two lines of pixels. -/
theorem meanBlocks_map (n : Nat) (f g : Nat → Byte) :
    meanBlocks ((List.range (2 * n)).map f) ((List.range (2 * n)).map g) =
      (List.range n).map fun k =>
        BitVec.ofNat 8
          (((f (2 * k)).toNat + (f (2 * k + 1)).toNat + (g (2 * k)).toNat + (g (2 * k + 1)).toNat + 2) / 4) := by
  induction n generalizing f g with
  | zero => rfl
  | succ n ih =>
    rw [Nat.mul_succ, range_succ_succ]
    simp only [List.map_cons, List.map_map, meanBlocks]
    rw [ih, List.range_succ_eq_map]
    simp only [List.map_cons, List.map_map, Nat.mul_zero, Nat.zero_add]
    rfl

/-- The even pairs of a line of chroma. -/
theorem evenPairs_map (n : Nat) (f : Nat → Byte) :
    evenPairs ((List.range (4 * n)).map f) = (List.range (2 * n)).map fun k => f (4 * (k / 2) + k % 2) := by
  induction n generalizing f with
  | zero => rfl
  | succ n ih =>
    rw [Nat.mul_succ, Nat.mul_succ, range_succ_succ, range_succ_succ, range_succ_succ]
    simp only [List.map_cons, List.map_map, evenPairs]
    rw [ih]
    refine List.cons_eq_cons.mpr ⟨rfl, List.cons_eq_cons.mpr ⟨rfl, List.map_congr_left fun k _ => ?_⟩⟩
    simp only [Function.comp_apply]
    congr 1
    omega

/-! ## The chunk of a page line -/

/-- A chunk of a HALF page at byte `done`: whole words, within its page line. -/
structure HalfChunk (h : Header) (done : Nat) : Prop where
  half : h.format = .half
  fits : done % h.w + h.chunk done ≤ h.w
  words : h.chunk done % 8 = 0
  some : 8 ≤ h.chunk done
  even : done % h.w % 2 = 0
  width : h.w % 2 = 0

theorem Header.halfChunk {h : Header} {done : Nat} (half : h.format = .half) (wide : 32 ≤ h.w) (words : h.w % 8 = 0)
    (start : done % h.w % 32 = 0) : HalfChunk h done := by
  have inside := Nat.mod_lt done (show 0 < h.w by omega)
  have chunk := h.chunk_half half done
  exact ⟨half, by omega, by omega, by omega, by omega, by omega⟩

/-- The place of byte `k` of a chunk is in the chunk's line. -/
theorem HalfChunk.place {h : Header} {done k : Nat} (c : HalfChunk h done) (small : k < h.chunk done) :
    (done + k) / h.w = done / h.w ∧ (done + k) % h.w = done % h.w + k := by
  have fits := c.fits
  have split : done + k = (done % h.w + k) + h.w * (done / h.w) := by
    have := Nat.mod_add_div done h.w
    omega
  have width : 0 < h.w := by omega
  rw [split, Nat.add_mul_div_left _ _ width, Nat.add_mul_mod_self_left, Nat.div_eq_of_lt (by omega),
    Nat.mod_eq_of_lt (by omega)]
  exact ⟨by omega, rfl⟩

/-- A byte of a plane lies in one of its lines. -/
theorem div_lt_lines {o w lines : Nat} (inside : o < w * lines) : o / w < lines := Nat.div_lt_of_lt_mul inside

/-! ## Luma -/

section
variable {h : Header} {done : Nat} (c : HalfChunk h done) (luma : done < h.w * h.h) (base : Nat)
include c luma

/-- The reads of a luma chunk: of two source lines, one after the other. -/
theorem HalfChunk.lumaReads : h.chunkReads base done =
    chunks (base + 2 * (done / h.w) * (2 * h.w) + 2 * (done % h.w)) (h.chunk done / 2)
      ++ chunks (base + 2 * (done / h.w) * (2 * h.w) + 2 * (done % h.w) + 2 * h.w) (h.chunk done / 2) := by
  simp only [Header.chunkReads, c.half, luma, if_true, Header.sourceW]

/-- Both source lines of a luma chunk lie in the source's luma plane. -/
theorem HalfChunk.luma_within :
    2 * (done / h.w) * (2 * h.w) + 2 * (done % h.w) + 2 * h.w + 2 * h.chunk done ≤ 2 * h.w * (2 * h.h) := by
  have line := div_lt_lines luma
  have fits := c.fits
  calc 2 * (done / h.w) * (2 * h.w) + 2 * (done % h.w) + 2 * h.w + 2 * h.chunk done
      ≤ 2 * (done / h.w) * (2 * h.w) + 2 * (2 * h.w) := by omega
    _ = (2 * (done / h.w) + 2) * (2 * h.w) := (Nat.add_mul ..).symm
    _ ≤ (2 * h.h) * (2 * h.w) := Nat.mul_le_mul_right _ (by omega)
    _ = 2 * h.w * (2 * h.h) := Nat.mul_comm ..

/-- The payload bytes of a luma chunk. -/
theorem HalfChunk.lumaData {frame : Nat → Byte} {got : List Word}
    (read : bytesOfWords got = (h.chunkReads base done).flatMap fun r =>
      (List.range (4 * r.2)).map fun k => frame (r.1 - base + k)) :
    bytesOfWords (h.chunkData done got) = (List.range (h.chunk done)).map fun k =>
      let at_ := 2 * (done / h.w) * (2 * h.w) + 2 * (done % h.w) + 2 * k
      BitVec.ofNat 8
        (((frame at_).toNat + (frame (at_ + 1)).toNat + (frame (at_ + 2 * h.w)).toNat
          + (frame (at_ + 2 * h.w + 1)).toNat + 2) / 4) := by
  have words := c.words
  have four : 4 * (h.chunk done / 2) = 2 * h.chunk done := by omega
  rw [c.lumaReads luma base, List.flatMap_append, chunks_bytes frame base _ _ (by omega),
    chunks_bytes frame base _ _ (by omega), four] at read
  have length (f : Nat → Byte) : ((List.range (2 * h.chunk done)).map f).length = 2 * h.chunk done := by simp
  have data : h.chunkData done got = wordsOfBytes
      (meanBlocks ((bytesOfWords got).take (2 * h.chunk done)) ((bytesOfWords got).drop (2 * h.chunk done))) := by
    simp only [Header.chunkData, c.half, luma, if_true]
  rw [data, read, List.take_left' (length _), List.drop_left' (length _), meanBlocks_map,
    bytesOfWords_wordsOfBytes (by simp; omega)]
  refine List.map_congr_left fun k _ => ?_
  have upper (j : Nat) : base + 2 * (done / h.w) * (2 * h.w) + 2 * (done % h.w) - base + j =
      2 * (done / h.w) * (2 * h.w) + 2 * (done % h.w) + j := by omega
  have lower (j : Nat) : base + 2 * (done / h.w) * (2 * h.w) + 2 * (done % h.w) + 2 * h.w - base + j =
      2 * (done / h.w) * (2 * h.w) + 2 * (done % h.w) + j + 2 * h.w := by omega
  simp only [upper, lower, ← Nat.add_assoc]
  rw [Nat.add_right_comm _ 1 (2 * h.w)]

end

/-! ## Chroma -/

/-- The chroma plane's lines begin at multiples of the width. -/
theorem Header.chroma_column {h : Header} {done : Nat} (chroma : h.w * h.h ≤ done) :
    (done - h.w * h.h) % h.w = done % h.w := by
  have split : done = (done - h.w * h.h) + h.w * h.h := by omega
  exact (Nat.add_mul_mod_self_left _ _ _).symm.trans (congrArg (· % h.w) split.symm)

section
variable {h : Header} {done : Nat} (c : HalfChunk h done) (chroma : h.w * h.h ≤ done) (base : Nat)
include c chroma

/-- The reads of a chroma chunk: of the even source line. -/
theorem HalfChunk.chromaReads : h.chunkReads base done =
    chunks (base + 2 * h.w * (2 * h.h) + 2 * ((done - h.w * h.h) / h.w) * (2 * h.w)
      + 2 * ((done - h.w * h.h) % h.w)) (h.chunk done / 2) := by
  simp only [Header.chunkReads, c.half, Nat.not_lt.mpr chroma, if_false, Header.sourceW, Header.sourceH]

theorem HalfChunk.ofPlane : HalfChunk h (done - h.w * h.h) := by
  have column := Header.chroma_column chroma
  have chunk : h.chunk (done - h.w * h.h) = h.chunk done := by
    rw [h.chunk_half c.half, h.chunk_half c.half, column]
  obtain ⟨half, fits, words, some, even, width⟩ := c
  exact ⟨half, by rw [column, chunk]; exact fits, by rw [chunk]; exact words, by rw [chunk]; exact some,
    by rw [column]; exact even, width⟩

/-- The source line of a chroma chunk lies in the source's chroma plane. -/
theorem HalfChunk.chroma_within (inside : done < 2 * h.w * h.h) :
    2 * h.w * (2 * h.h) + 2 * ((done - h.w * h.h) / h.w) * (2 * h.w) + 2 * ((done - h.w * h.h) % h.w)
        + 2 * h.chunk done ≤ 2 * (2 * h.w) * (2 * h.h) := by
  have twice : 2 * h.w * h.h = 2 * (h.w * h.h) := Nat.mul_assoc ..
  have chunk : h.chunk (done - h.w * h.h) = h.chunk done := by
    rw [h.chunk_half c.half, h.chunk_half c.half, Header.chroma_column chroma]
  have within := (c.ofPlane chroma).luma_within (by omega)
  have planes : 2 * (2 * h.w) * (2 * h.h) = 2 * h.w * (2 * h.h) + 2 * h.w * (2 * h.h) := by
    rw [Nat.mul_assoc 2 (2 * h.w), Nat.two_mul (2 * h.w * (2 * h.h))]
  rw [chunk] at within
  omega

/-- The payload bytes of a chroma chunk. -/
theorem HalfChunk.chromaData {frame : Nat → Byte} {got : List Word}
    (read : bytesOfWords got = (h.chunkReads base done).flatMap fun r =>
      (List.range (4 * r.2)).map fun k => frame (r.1 - base + k)) :
    bytesOfWords (h.chunkData done got) = (List.range (h.chunk done)).map fun k =>
      frame (2 * h.w * (2 * h.h) + 2 * ((done - h.w * h.h) / h.w) * (2 * h.w) + 2 * ((done - h.w * h.h) % h.w)
        + (4 * (k / 2) + k % 2)) := by
  have words := c.words
  rw [c.chromaReads chroma base, chunks_bytes frame base _ _ (by omega)] at read
  have data : h.chunkData done got = wordsOfBytes (evenPairs (bytesOfWords got)) := by
    simp only [Header.chunkData, c.half, Nat.not_lt.mpr chroma, if_false]
  have twice : 2 * (h.chunk done / 2) = h.chunk done := by omega
  rw [data, read, evenPairs_map, bytesOfWords_wordsOfBytes (by simp; omega), twice]
  refine List.map_congr_left fun k _ => congrArg frame ?_
  omega

end

/-- Settles O53, by the plane in which the chunk lies. -/
theorem halfPagePayload : Obligations.HalfPagePayload := by
  intro h base done frame got half wide words lines inside start sw sh n
  have c := Header.halfChunk half wide words start
  have chunk : h.chunk done = n := h.chunk_half half done
  have somewords := c.some
  by_cases luma : done < h.w * h.h
  · have within := c.luma_within luma
    have planes : 2 * sw * sh = 2 * h.w * (2 * h.h) + 2 * h.w * (2 * h.h) := by
      rw [Nat.mul_assoc 2 sw, Nat.two_mul]
    refine ⟨fun r mem => ?_, fun read => ?_⟩
    · rw [c.lumaReads luma base, List.mem_append] at mem
      rcases mem with upper | lower
      · obtain ⟨least, most, low, high⟩ := mem_chunks upper
        exact ⟨least, most, by omega, by omega⟩
      · obtain ⟨least, most, low, high⟩ := mem_chunks lower
        exact ⟨least, most, by omega, by omega⟩
    · rw [c.lumaData luma base read, chunk]
      refine List.map_congr_left fun k mem => ?_
      have small : k < h.chunk done := by rw [chunk]; exact List.mem_range.mp mem
      obtain ⟨line, column⟩ := c.place small
      have plane : done + k < h.w * h.h := by
        have lineBelow := div_lt_lines luma
        have := c.fits
        calc done + k = (done + k) % h.w + h.w * ((done + k) / h.w) := (Nat.mod_add_div ..).symm
          _ < h.w * (done / h.w + 1) := by rw [line, column, Nat.mul_succ]; omega
          _ ≤ h.w * h.h := Nat.mul_le_mul_left _ lineBelow
      simp only [if_pos plane, line, column, Nat.mul_add, ← Nat.add_assoc]
      rfl
  · have chroma : h.w * h.h ≤ done := Nat.not_lt.mp luma
    have within : _ ≤ 2 * sw * sh := c.chroma_within chroma inside
    refine ⟨fun r mem => ?_, fun read => ?_⟩
    · rw [c.chromaReads chroma base] at mem
      obtain ⟨least, most, low, high⟩ := mem_chunks mem
      exact ⟨least, most, by omega, by omega⟩
    · rw [c.chromaData chroma base read, chunk]
      refine List.map_congr_left fun k mem => ?_
      have p := c.ofPlane chroma
      have same : h.chunk (done - h.w * h.h) = h.chunk done := by
        rw [h.chunk_half half, h.chunk_half half, Header.chroma_column chroma]
      have small : k < h.chunk (done - h.w * h.h) := by rw [same, chunk]; exact List.mem_range.mp mem
      obtain ⟨line, column⟩ := p.place small
      have offset : done + k - h.w * h.h = done - h.w * h.h + k := by omega
      have even : (done - h.w * h.h) % 2 = 0 := by
        have column_even := p.even
        have product : h.w * ((done - h.w * h.h) / h.w) % 2 = 0 := by rw [Nat.mul_mod, p.width]; simp
        have split := Nat.mod_add_div (done - h.w * h.h) h.w
        omega
      have column_even := p.even
      simp only [if_neg (show ¬ done + k < h.w * h.h by omega), offset, line, column, sw, sh]
      congr 1
      omega

end Sys2Proof.Machine

/-! MOVE: the checks, the steps, and the reads of a traversal (R121 to R130). -/

namespace Sys2Proof.Machine

/-! ## The stops and reads of a traversal (R121, R123, R124, R127) -/

section
variable {s : State} {p : Packet} {st : CmdStage} (cmd : s.cu.cmd = some { packet := some p, stage := st })
include cmd

/-- A traversal that stops leaves its engine and completes the command. -/
theorem State.moveStop_spec (cls : TermClass) (r : Reason) (left passed : Nat) :
    (s.moveStop cls r left passed).store = { s.store with trav := none }
      ∧ Completed s (s.moveStop cls r left passed) p
          { cls := cls, reason := r, arg := moveArg passed, residual := left }
      ∧ OnlyChanges [.store, .port, .cu] s (s.moveStop cls r left passed) := by
  have idle : OnlyChanges [.store] s s.idleTrav := by simp [onlyChanges_iff, State.idleTrav]
  obtain ⟨completed, frame⟩ := State.complete_after idle (by simp) (by simp) cmd
    { cls := cls, reason := r, arg := moveArg passed, residual := left }
  exact ⟨by simp [State.moveStop, State.idleTrav], completed, frame.mono (by simp)⟩

end

/-- A traversal that reads keeps its engine. -/
theorem State.moveReads_spec (s : State) (op : TravOp) (b : Burst) :
    ((s.useTrav op).present .moveRead b).store = { s.store with trav := some op }
      ∧ ((s.useTrav op).present .moveRead b).cu = s.cu
      ∧ Presents s ((s.useTrav op).present .moveRead b) .moveRead b
      ∧ OnlyChanges [.store, .port] s ((s.useTrav op).present .moveRead b) := by
  refine ⟨by simp [State.useTrav], by simp [State.useTrav], ?_, by simp [onlyChanges_iff, State.useTrav]⟩
  simp [Presents, State.present_port, State.useTrav]

/-- The stage of the next read: of a header going forward, of the trailer before the position in reverse. -/
def MoveMode.firstStage (m : MoveMode) : MoveStage := if m.forward then .header else .trailer

/-- The next read of a step from an offset. -/
def State.stepRead (s : State) (m : MoveMode) (o : Nat) : Burst :=
  if m.forward then { tag := 0, addr := s.store.base + o, body := .read 8 }
  else { tag := 0, addr := s.store.base + o - 4, body := .read 1 }

/-- A step stops at the end of data, in reverse at the start of the store, and else reads. -/
theorem State.moveStep_eq {s : State} {o : Nat} (position : s.store.position = some o) (m : MoveMode)
    (left passed : Nat) :
    s.moveStep m left passed =
      if m.forward = true ∧ o = s.store.eod then s.moveStop .alert .endOfData left passed
      else if m.forward = false ∧ o = 0 then s.moveStop .alert .startOfStore left passed
      else (s.useTrav (.move m left passed m.firstStage)).present .moveRead (s.stepRead m o) := by
  simp only [State.moveStep, position]
  cases forward : m.forward with
  | true =>
    simp only [if_true, true_and, Bool.true_eq_false, false_and, if_false, MoveMode.firstStage, State.stepRead, forward]
    rfl
  | false =>
    simp only [Bool.false_eq_true, if_false, true_and, false_and, MoveMode.firstStage, State.stepRead, forward]
    rfl

theorem moveArg_zero : moveArg 0 = 0 := rfl

/-! ## MOVE (R121, R122) -/

/-- A step or skip, check by check (R121). -/
theorem State.runTraversal_eq (s : State) (m : MoveMode) (count : Nat) :
    s.runTraversal m count =
      if s.enginesIdle = false then s.complete (Result.refuse .storeBusy)
      else if s.store.formatted = false then s.complete (Result.refuse .notFormatted)
      else if s.store.position = none then s.complete (Result.refuse .positionLost)
      else if count = 0 then s.complete (Result.done 0)
      else (s.setCmdStage .engine).moveStep m count 0 := by
  simp only [State.runTraversal, Bool.not_eq_true']

theorem State.runReposition_eq (s : State) (t : Store) :
    s.runReposition t =
      if s.enginesIdle = false then s.complete (Result.refuse .storeBusy)
      else if s.store.formatted = false then s.complete (Result.refuse .notFormatted)
      else (s.setStore t).complete (Result.done 0) := by
  simp only [State.runReposition, Bool.not_eq_true']

theorem MoveMode.ofCode_of_ge {n : Nat} (unknown : 6 ≤ n) : MoveMode.ofCode n = none := by
  match n with
  | n + 6 => rfl

/-- Settles O55, by the checks of a step and of a placement. -/
theorem moveBegins : Obligations.MoveBegins := by
  intro s p taken mode count refused stops walks places
  have cmd : s.cu.cmd = some { packet := some p, stage := .dispatched } := taken.cmd
  have modeIs : field p.p1 0 8 = mode := by simp [field, mode]
  have countIs : field p.p1 16 16 = count := by
    have := p.p1.isLt
    simp only [field, count]
    omega
  have moves {m : Option MoveMode} (code : MoveMode.ofCode mode = m) : s.moves m count :=
    ⟨p, taken, modeIs ▸ code, countIs⟩
  have refuses {t : State} {r : Reason} (is : t = s.complete (Result.refuse r)) : refused t r :=
    is ▸ State.complete_only cmd _
  have walk {c : Instr} {m : MoveMode} {forward : Bool} (runs : exec c s = .next (s.runTraversal m count))
      (direction : m.forward = forward) : walks c m forward := by
    refine ⟨_, runs, ?_⟩
    have is := s.runTraversal_eq m count
    by_cases busy : s.enginesIdle = false
    · rw [if_pos busy] at is ⊢
      exact refuses is
    rw [if_neg busy] at is ⊢
    by_cases bare : s.store.formatted = false
    · rw [if_pos bare] at is ⊢
      exact refuses is
    rw [if_neg bare] at is ⊢
    split
    next lost =>
      rw [if_pos lost] at is
      exact refuses is
    next o position =>
      rw [if_neg (by simp [position])] at is
      by_cases zero : count = 0
      · rw [if_pos zero] at is ⊢
        rw [is]
        exact State.complete_only cmd _
      let u := s.setCmdStage .engine
      have staged : u = s.setCu { s.cu with cmd := some { packet := some p, stage := .engine } } :=
        State.setCmdStage_of cmd .engine
      have frame : OnlyChanges [.cu] s u := by rw [staged]; simp [onlyChanges_iff]
      have store : u.store = s.store := frame .store (by simp)
      have port : u.port = s.port := frame .port (by simp)
      have cu : u.cu = { s.cu with cmd := some { packet := some p, stage := .engine } } := by rw [staged]; rfl
      have stopped (r : Reason) (is : s.runTraversal m count = u.moveStop .alert r count 0) :
          stops (s.runTraversal m count) r := by
        obtain ⟨made, completed, only⟩ := State.moveStop_spec (s := u) (p := p) (st := .engine) (by rw [cu])
          .alert r count 0
        rw [moveArg_zero] at completed
        rw [is]
        exact ⟨completed.congr port (by rw [cu]), made.trans (by rw [store]),
          (frame.mono (by simp)).trans (only.mono (by simp))⟩
      rw [if_neg zero, State.moveStep_eq (by rw [store, position]), direction, store] at is
      rw [if_neg zero]
      by_cases last : forward = true ∧ o = s.store.eod
      · rw [if_pos last] at is ⊢
        exact stopped _ is
      rw [if_neg last] at is ⊢
      by_cases first : forward = false ∧ o = 0
      · rw [if_pos first] at is ⊢
        exact stopped _ is
      rw [if_neg first] at is ⊢
      obtain ⟨made, same, presents, only⟩ := u.moveReads_spec (.move m count 0 m.firstStage) (u.stepRead m o)
      rw [is]
      refine ⟨made.trans (by rw [store, MoveMode.firstStage, direction]), same.trans cu, ?_,
        (frame.mono (by simp)).trans (only.mono (by simp))⟩
      have burst : u.stepRead m o =
          if forward then { tag := 0, addr := s.store.base + o, body := .read 8 }
          else { tag := 0, addr := s.store.base + o - 4, body := .read 1 } := by
        rw [State.stepRead, direction, store]
      rw [Presents, port] at presents
      rw [Presents, ← burst]
      exact presents
  have place {c : Instr} {x : Store} (runs : exec c s = .next (s.runReposition x)) : places c x := by
    refine ⟨_, runs, ?_⟩
    have is := s.runReposition_eq x
    by_cases busy : s.enginesIdle = false
    · rw [if_pos busy] at is ⊢
      exact refuses is
    rw [if_neg busy] at is ⊢
    by_cases bare : s.store.formatted = false
    · rw [if_pos bare] at is ⊢
      exact refuses is
    rw [if_neg bare] at is ⊢
    have change : OnlyChanges [.store] s (s.setStore x) := by simp [onlyChanges_iff]
    obtain ⟨completed, frame⟩ := State.complete_after change (by simp) (by simp) cmd (Result.done 0)
    rw [is]
    exact ⟨by simp, completed, frame.mono (by simp)⟩
  refine ⟨fun code => walk (Runs.stepFwd (moves (by rw [code]; rfl))).exec_eq rfl,
    fun code => walk (Runs.stepRev (moves (by rw [code]; rfl))).exec_eq rfl,
    fun code => walk (Runs.skipFwd (moves (by rw [code]; rfl))).exec_eq rfl,
    fun code => walk (Runs.skipRev (moves (by rw [code]; rfl))).exec_eq rfl,
    fun code => place (Runs.rewind (moves (by rw [code]; rfl))).exec_eq,
    fun code => place (Runs.toEnd (moves (by rw [code]; rfl))).exec_eq, fun unknown c mem => ?_⟩
  exact ⟨_, (Runs.badMode (moves (MoveMode.ofCode_of_ge unknown)) (by simpa using mem)).exec_eq, refuses rfl⟩

/-! ## The reads of a traversal (R123 to R130) -/

/-- What a record that has been passed leads to (R123, R125, R126, R128). -/
theorem State.movePass_eq (s : State) (m : MoveMode) (left passed dest : Nat) (kind : Kind) :
    s.movePass m left passed dest kind =
      if (kind = .mark ↔ m.skips = true) then
        if left ≤ 1 then (s.setPosition (some dest)).moveStop .done .none 0 (passed + 1)
        else (s.setPosition (some dest)).moveStep m (left - 1) (passed + 1)
      else if m.skips then (s.setPosition (some dest)).moveStep m left (passed + 1)
      else (s.setPosition (some dest)).moveStop .alert .markPassed left (passed + 1) := by
  have counted : ((kind == .mark) == m.skips) = decide (kind = .mark ↔ m.skips = true) := by
    cases m.skips <;> cases kind <;> rfl
  simp only [State.movePass, counted, decide_eq_true_eq]

theorem MoveMode.forward_iff (m : MoveMode) : m.forward = true ↔ m = .stepFwd ∨ m = .skipFwd := by
  cases m <;> simp [MoveMode.forward]

theorem MoveMode.skips_iff (m : MoveMode) : m.skips = true ↔ m = .skipFwd ∨ m = .skipRev := by
  cases m <;> simp [MoveMode.skips]

section
variable {s : State} {a : Answer} {m : MoveMode} {left passed o : Nat} {stage : MoveStage}
  (reads : s.store.trav = some (.move m left passed stage)) (position : s.store.position = some o)
include reads position

theorem State.moveRead_error (failed : a.error = true) :
    s.moveRead a = s.moveStop .retry .memoryError left passed := by
  simp only [State.moveRead, reads, position, failed, if_true]

variable (fine : a.error = false)
include fine

theorem State.moveRead_header (is : stage = .header) :
    s.moveRead a =
      match judgeChain s.store.eod o a.words with
      | none => s.moveLost left passed
      | some h =>
        if h.kind = .endRecord then s.moveLost left passed else s.movePass m left passed (o + h.length) h.kind := by
  simp only [State.moveRead, reads, position, fine, is, Bool.false_eq_true, if_false] <;> rfl

theorem State.moveRead_trailer (is : stage = .trailer) :
    s.moveRead a =
      if backLengthGood (wordAt a.words 0).toNat o then
        (s.useTrav (.move m left passed (.back (wordAt a.words 0).toNat))).present .moveRead
          (s.headerRead (o - (wordAt a.words 0).toNat))
      else s.moveLost left passed := by
  simp only [State.moveRead, reads, position, fine, is, Bool.false_eq_true, if_false]

theorem State.moveRead_back {len : Nat} (is : stage = .back len) :
    s.moveRead a =
      match judgeChain s.store.eod (o - len) a.words with
      | none => s.moveLost left passed
      | some h =>
        if h.length = len ∧ h.kind ≠ .endRecord then s.movePass m left passed (o - len) h.kind
        else s.moveLost left passed := by
  simp only [State.moveRead, reads, position, fine, is, Bool.false_eq_true, if_false] <;> rfl

end

theorem State.moveRead_onlyChanges (s : State) (a : Answer) : OnlyChanges [.store, .port, .cu] s (s.moveRead a) := by
  have lost (n k : Nat) : OnlyChanges [.store, .port, .cu] s (s.moveLost n k) := by simp [onlyChanges_iff]
  have passing (m : MoveMode) (n k dest : Nat) (kind : Kind) :
      OnlyChanges [.store, .port, .cu] s (s.movePass m n k dest kind) := by simp [onlyChanges_iff]
  unfold State.moveRead
  split
  next m n k stage o reads position =>
    split
    · simp [onlyChanges_iff]
    · cases stage with
      | header =>
        dsimp only
        split
        · exact lost n k
        · split
          · exact lost n k
          · exact passing _ _ _ _ _
      | trailer =>
        dsimp only
        split
        · exact (s.moveReads_spec _ _).2.2.2.mono (by simp)
        · exact lost n k
      | back len =>
        dsimp only
        split
        · exact lost n k
        · split
          · exact passing _ _ _ _ _
          · exact lost n k
  next => exact .refl _ s

/-- Settles O56, by the stage of the read and the kind of the record passed. -/
theorem traversalReads : Obligations.TraversalReads := by
  intro s a p mode left passed o stage reply reads position cmd some_left forward skips len
  refine ⟨_, (Runs.moveRead reply).exec_eq, 
    .of_portFreed (by simp) (s.portFreed.moveRead_onlyChanges a), ?_⟩
  let t := s.portFreed.moveRead a
  intro stops reading passes
  have isForward : mode.forward = true ↔ forward := mode.forward_iff
  have isSkip : mode.skips = true ↔ skips := mode.skips_iff
  have stopped {x : Option Nat} {cls : TermClass} {r : Reason} {units records : Nat}
      (is : t = (s.portFreed.setPosition x).moveStop cls r units records) : stops cls r x units records := by
    obtain ⟨store, completed, -⟩ := State.moveStop_spec (s := s.portFreed.setPosition x) (p := p) (st := .engine)
      cmd cls r units records
    rw [← is] at store completed
    exact ⟨store, moveArg records, fun few => if_pos few, completed.congr rfl rfl⟩
  have kept : s.portFreed.setPosition (some o) = s.portFreed := by
    have same : s.portFreed.store.position = some o := position
    simp only [State.setPosition, ← same]
    rfl
  have lost (is : t = s.portFreed.moveLost left passed) : stops .lost .headerBad none left passed := stopped is
  have read {x units records : Nat} {st : MoveStage} {b : Burst}
      (is : t = ((s.portFreed.setPosition (some x)).useTrav (.move mode units records st)).present .moveRead b) :
      reading x units records st b := by
    obtain ⟨store, cu, presents, -⟩ :=
      (s.portFreed.setPosition (some x)).moveReads_spec (.move mode units records st) b
    rw [← is] at store cu presents
    exact ⟨store, cu, presents⟩
  have passing {dest : Nat} {kind : Kind} (is : t = s.portFreed.movePass mode left passed dest kind) :
      passes dest kind := by
    have step {units : Nat} (goes : t = (s.portFreed.setPosition (some dest)).moveStep mode units (passed + 1)) :
        (forward → dest = s.store.eod → stops .alert .endOfData (some dest) units (passed + 1))
        ∧ (forward → dest ≠ s.store.eod →
            reading dest units (passed + 1) .header
              { tag := 0, addr := s.store.base + dest, body := .read 8 })
        ∧ (¬ forward → dest = 0 → stops .alert .startOfStore (some dest) units (passed + 1))
        ∧ (¬ forward → dest ≠ 0 →
            reading dest units (passed + 1) .trailer
              { tag := 0, addr := s.store.base + dest - 4, body := .read 1 }) := by
      have at_ : (s.portFreed.setPosition (some dest)).store.position = some dest := rfl
      have eod : (s.portFreed.setPosition (some dest)).store.eod = s.store.eod := rfl
      rw [State.moveStep_eq at_, eod] at goes
      refine ⟨fun fwd last => stopped ?_, fun fwd more => read ?_, fun rev first => stopped ?_,
        fun rev more => read ?_⟩
      · have fwd' := isForward.mpr fwd
        rw [if_pos ⟨fwd', last⟩] at goes
        exact goes
      · have fwd' := isForward.mpr fwd
        rw [if_neg (by simp [more]), if_neg (by simp [fwd'])] at goes
        simp only [MoveMode.firstStage, State.stepRead, fwd', if_true] at goes
        exact goes
      · have rev' : mode.forward = false := by rw [← Bool.not_eq_true, isForward]; exact rev
        rw [if_neg (by simp [rev']), if_pos ⟨rev', first⟩] at goes
        exact goes
      · have rev' : mode.forward = false := by rw [← Bool.not_eq_true, isForward]; exact rev
        rw [if_neg (by simp [rev']), if_neg (by simp [more])] at goes
        simp only [MoveMode.firstStage, State.stepRead, rev', Bool.false_eq_true, if_false] at goes
        exact goes
    rw [State.movePass_eq] at is
    change if kind = .mark ↔ skips then _ else _
    by_cases counted : kind = .mark ↔ skips
    · rw [if_pos (counted.trans isSkip.symm)] at is
      rw [if_pos counted]
      refine ⟨fun one => stopped ?_, fun more => step ?_⟩
      · rw [if_pos (by omega)] at is
        exact is
      · rw [if_neg (by omega)] at is
        exact is
    · rw [if_neg fun same => counted (same.trans isSkip)] at is
      rw [if_neg counted]
      refine ⟨fun skip => step ?_, fun noskip => stopped ?_⟩
      · rw [if_pos (isSkip.mpr skip)] at is
        exact is
      · rw [if_neg (fun skip => noskip (isSkip.mp skip))] at is
        exact is
  have reads' : s.portFreed.store.trav = some (.move mode left passed stage) := reads
  have position' : s.portFreed.store.position = some o := position
  refine ⟨fun failed => stopped ?_, fun fine header => ⟨fun h found good => passing ?_, fun bad => lost ?_⟩,
    fun fine trailer => ⟨fun whole long within => read ?_, fun bad => lost ?_⟩,
    fun back fine is => ⟨fun h found good same => passing ?_, fun bad => lost ?_⟩⟩
  · rw [kept]
    exact State.moveRead_error reads' position' failed
  · refine (State.moveRead_header reads' position' fine header).trans ?_
    have found' : judgeChain s.portFreed.store.eod o a.words = some h := found
    simp only [found', if_neg good]
  · refine (State.moveRead_header reads' position' fine header).trans ?_
    split
    · rfl
    · next h found => exact if_pos (bad h found)
  · rw [kept]
    refine (State.moveRead_trailer reads' position' fine trailer).trans (if_pos ?_)
    simp only [backLengthGood, Bool.and_eq_true, beq_iff_eq, decide_eq_true_eq]
    exact ⟨⟨whole, long⟩, within⟩
  · refine (State.moveRead_trailer reads' position' fine trailer).trans (if_neg ?_)
    simp only [backLengthGood, Bool.and_eq_true, beq_iff_eq, decide_eq_true_eq, and_assoc]
    exact bad
  · refine (State.moveRead_back reads' position' fine is).trans ?_
    have found' : judgeChain s.portFreed.store.eod (o - back) a.words = some h := found
    simp only [found', if_pos (And.intro same good)]
  · refine (State.moveRead_back reads' position' fine is).trans ?_
    split
    · rfl
    · next h found =>
      refine if_neg fun ⟨same, good⟩ => ?_
      rcases bad h found with ended | other
      · exact good ended
      · exact other same

end Sys2Proof.Machine

/-! The reads of ADVANCE, the line event, and the trigger list (R132, R133, R143 to R149). -/

namespace Sys2Proof.Machine

/-! ## A notice after a change elsewhere -/

/-- A notice posted after a change of other blocks. -/
theorem State.post_after {s w : State} {bs : List Block} (change : OnlyChanges bs s w) (port : .port ∉ bs)
    (cu : .cu ∉ bs) (n : Notice) :
    (w.post n).store = w.store
      ∧ NoticeDue (s.setStore (w.post n).store) { s.cu with notices := s.cu.notices.add n } (w.post n)
      ∧ OnlyChanges (.port :: .cu :: bs) s (w.post n) := by
  have posted := w.post_noticeDue n
  rw [show w.cu = s.cu from change .cu cu] at posted
  refine ⟨w.post_store n, posted.congr (by simp) (change .port port) rfl rfl, ?_⟩
  exact (change.mono (by simp)).trans ((w.post_onlyChanges n).mono (by simp))

/-! ## The reads of ADVANCE (R133) -/

/-- The page at an offset with this serial is the one the view shows (R133). -/
theorem ViewContext.shows_iff (c : ViewContext) (o : Nat) (serial : Half) :
    c.shows o serial = true ↔ ∃ g, c.source = .page g ∧ g.offset = o ∧ g.serial = serial := by
  simp only [ViewContext.shows]
  split
  next g is => simp [is]
  next other => simpa using fun g is => absurd is (other g)

theorem State.advanceAt_end {s : State} {o : Nat} (last : o = s.store.eod) (passed : Bool) :
    s.advanceAt o passed = s.idleTrav.post .lessonEnd := if_pos last

theorem State.advanceAt_reads {s : State} {o : Nat} (more : o ≠ s.store.eod) (passed : Bool) :
    s.advanceAt o passed = (s.useTrav (.advance passed)).present .advanceRead (s.headerRead o) := if_neg more

section
variable {s : State} {a : Answer} {passed : Bool} {o : Nat} (reads : s.store.trav = some (.advance passed))
  (position : s.store.position = some o)
include reads position

theorem State.advanceRead_error (failed : a.error = true) : s.advanceRead a = s.idleTrav.overrun := by
  simp only [State.advanceRead, reads, position, failed, if_true]

variable (fine : a.error = false)
include fine

theorem State.advanceRead_bad (bad : ∀ h, judgeChain s.store.eod o a.words = some h → h.kind = .endRecord) :
    s.advanceRead a = ((s.setPosition none).idleTrav).post .positionLost := by
  simp only [State.advanceRead, reads, position, fine, Bool.false_eq_true, if_false]
  cases judged : judgeChain s.store.eod o a.words with
  | none => rfl
  | some h => simp only [bad h judged]

theorem State.advanceRead_mark {h : Header} (judged : judgeChain s.store.eod o a.words = some h)
    (kind : h.kind = .mark) : s.advanceRead a = s.idleTrav.post .lessonEnd := by
  simp only [State.advanceRead, reads, position, fine, Bool.false_eq_true, if_false, judged, kind]

theorem State.advanceRead_page {h : Header} (judged : judgeChain s.store.eod o a.words = some h)
    (kind : h.kind = .page) :
    s.advanceRead a =
      if !passed && s.view.current.shows o h.serial then
        (s.setPosition (some (o + h.length))).advanceAt (o + h.length) true
      else if s.store.deferred.isSome then s.idleTrav
      else
        s.idleTrav.advanceSource
          { offset := o, serial := h.serial, format := h.format, w := h.w, h := h.h } := by
  simp only [State.advanceRead, reads, position, fine, Bool.false_eq_true, if_false, judged, kind]

end

/-- Settles O57, by the judgement of the header. -/
theorem advanceReads : Obligations.AdvanceReads := by
  intro s a passed o reply reads position judged lesson
  let v := s.portFreed
  have reads' : v.store.trav = some (.advance passed) := reads
  have position' : v.store.position = some o := position
  have idle : OnlyChanges [.store] v v.idleTrav := by simp [onlyChanges_iff, State.idleTrav]
  refine ⟨_, (Runs.advanceRead reply).exec_eq, fun failed => ?_, fun fine bad => ?_, fun h fine found kind => ?_,
    fun h fine found kind => ?_⟩
  · rw [State.advanceRead_error reads' position' failed]
    exact ⟨rfl, rfl, rfl, .of_portFreed (by simp) (by simp [v, onlyChanges_iff, State.idleTrav, State.overrun])⟩
  · rw [State.advanceRead_bad reads' position' fine bad]
    have change : OnlyChanges [.store] v (v.setPosition none).idleTrav := by
      simp [onlyChanges_iff, State.idleTrav, State.setPosition]
    obtain ⟨store, due, frame⟩ := State.post_after change (by simp) (by simp) .positionLost
    exact ⟨store, due, .of_portFreed (by simp) (frame.mono (by simp))⟩
  · rw [State.advanceRead_mark reads' position' fine found kind]
    obtain ⟨store, due, frame⟩ := State.post_after idle (by simp) (by simp) .lessonEnd
    exact ⟨store, due, .of_portFreed (by simp) (frame.mono (by simp))⟩
  · intro shown
    have is := State.advanceRead_page reads' position' fine found kind
    have shows : (!passed && v.view.current.shows o h.serial) = true ↔ shown := by
      rw [Bool.and_eq_true, ViewContext.shows_iff, Bool.not_eq_true']
      rfl
    let w := v.setPosition (some (o + h.length))
    have eod : w.store.eod = s.store.eod := rfl
    have moved : OnlyChanges [.store] v w := by simp [w, onlyChanges_iff, State.setPosition]
    refine ⟨fun shown last => ?_, fun shown more => ?_, fun hidden waits => ?_, fun hidden free => ?_⟩
    · rw [is, if_pos (shows.mpr shown)]
      have goes : w.advanceAt (o + h.length) true = w.idleTrav.post .lessonEnd :=
        State.advanceAt_end (by rw [eod]; exact last) true
      rw [goes]
      obtain ⟨store, due, frame⟩ := State.post_after
        (moved.trans (show OnlyChanges [.store] w w.idleTrav by simp [onlyChanges_iff, State.idleTrav])) (by simp)
        (by simp) .lessonEnd
      exact ⟨store, due, .of_portFreed (by simp) (frame.mono (by simp))⟩
    · rw [is, if_pos (shows.mpr shown)]
      have goes : w.advanceAt (o + h.length) true =
          (w.useTrav (.advance true)).present .advanceRead (w.headerRead (o + h.length)) :=
        State.advanceAt_reads (by rw [eod]; exact more) true
      rw [goes]
      refine ⟨rfl, ?_, .of_portFreed (by simp)
        ((moved.mono (by simp)).trans (by simp [onlyChanges_iff, State.useTrav]))⟩
      simp only [Presents, State.present_port]
      rfl
    · have waits' : v.store.deferred.isSome = true := Option.isSome_iff_ne_none.mpr waits
      rw [is, if_neg (fun yes => hidden (shows.mp yes)), if_pos waits']
      exact ⟨rfl, rfl, .of_portFreed (by simp) (idle.mono (by simp))⟩
    · have free' : v.store.deferred.isSome = false := by
        have none : v.store.deferred = Option.none := free
        simp [none]
      rw [is, if_neg (fun yes => hidden (shows.mp yes)), if_neg (by simp [free'])]
      refine ⟨by simp only [State.advanceSource, State.setCurrent, State.setView_store, State.releaseOpt_store]; rfl, ?_, ?_, ?_,
        .of_portFreed (by simp) (by simp [v, onlyChanges_iff, State.advanceSource, State.setCurrent, State.idleTrav])⟩
      · simp only [State.advanceSource, State.setCurrent, State.setView_view, State.releaseOpt_view]
        rfl
      · simp only [State.advanceSource, State.setCurrent, State.setView_slots]
        exact State.releaseOpt_slots_congr (s := s) (u := v.idleTrav) rfl rfl _
      · simp only [State.advanceSource, State.setCurrent, State.setView_port, State.releaseOpt_port]
        rfl

/-! ## The line event (R145 to R149) -/

theorem Trigger.fires_iff (e : Trigger) (line : Nat) (frame : Word) :
    e.fires line frame = true ↔ e.line = line ∧ e.enabled = true ∧ e.fired = false
      ∧ frame.toNat % 64 % 2 ^ e.k = e.r := by
  simp only [Trigger.fires, cycleOf, Bool.and_eq_true, beq_iff_eq, Bool.not_eq_true', and_assoc]

/-- An entry of the list that fires is the only one of its line (R145). -/
theorem State.lineEvent_fires {s : State} {line : Nat} {e : Trigger}
    (ascending : s.timer.triggers.Pairwise fun x y => x.line < y.line) (mem : e ∈ s.timer.triggers)
    (fires : e.fires line s.timer.frameNumber = true) :
    s.lineEvent line = (s.setTimer (s.timer.setFired line)).runAction e.action e.arg := by
  have only {x : Trigger} (mem' : x ∈ s.timer.triggers) (fires' : x.fires line s.timer.frameNumber = true) : x = e := by
    have line_x := ((x.fires_iff line _).mp fires').1
    have line_e := ((e.fires_iff line _).mp fires).1
    obtain ⟨i, hi, rfl⟩ := List.getElem_of_mem mem'
    obtain ⟨j, hj, rfl⟩ := List.getElem_of_mem mem
    have order {a b : Nat} (ha : a < s.timer.triggers.length) (hb : b < s.timer.triggers.length) (lt : a < b) :
        s.timer.triggers[a].line < s.timer.triggers[b].line :=
      List.pairwise_iff_getElem.mp ascending a b ha hb lt
    rcases Nat.lt_trichotomy i j with before | rfl | after
    · have := order hi hj before
      omega
    · rfl
    · have := order hj hi after
      omega
  have found : (s.timer.triggers.find? fun x => x.fires line s.timer.frameNumber) = some e := by
    cases first : s.timer.triggers.find? fun x => x.fires line s.timer.frameNumber with
    | none => exact absurd fires (by simpa using List.find?_eq_none.mp first e mem)
    | some x => rw [only (List.mem_of_find?_eq_some first) (by simpa using List.find?_some first)]
  simp only [State.lineEvent, found]

theorem State.lineEvent_quiet {s : State} {line : Nat}
    (quiet : ∀ e ∈ s.timer.triggers, e.fires line s.timer.frameNumber = false) : s.lineEvent line = s := by
  have none : (s.timer.triggers.find? fun e => e.fires line s.timer.frameNumber) = Option.none :=
    List.find?_eq_none.mpr fun e mem => by simp [quiet e mem]
  simp only [State.lineEvent, none]

theorem State.triggerAdvance_overrun {s : State}
    (cannot : s.enginesIdle = false ∨ s.store.formatted = false ∨ s.store.position = none) :
    s.triggerAdvance = s.overrun := by
  simp only [State.triggerAdvance]
  cases position : s.store.position with
  | none => rfl
  | some o =>
    refine if_neg ?_
    rcases cannot with busy | bare | lost
    · simp [busy]
    · simp [bare]
    · simp [position] at lost

theorem State.triggerAdvance_goes {s : State} {o : Nat} (idle : s.enginesIdle = true)
    (formatted : s.store.formatted = true) (position : s.store.position = some o) :
    s.triggerAdvance = s.advanceAt o false := by
  simp only [State.triggerAdvance, position, formatted, idle, Bool.and_self, if_true]

/-- Idle engines have no traversal. -/
theorem State.idleTrav_of_idle {s : State} (idle : s.enginesIdle = true) : s.idleTrav = s := by
  have free := (s.enginesIdle_iff.mp idle).2
  simp only [State.idleTrav, ← free]
  rfl

/-- Settles O58, by the action of the entry that fires. -/
theorem lineEventFires : Obligations.LineEventFires := by
  intro s line ascending fires
  have firesIs (e : Trigger) : fires e ↔ e ∈ s.timer.triggers ∧ e.fires line s.timer.frameNumber = true := by
    rw [e.fires_iff]
  refine ⟨fun quiet => State.lineEvent_quiet fun e mem => ?_, fun e entry => ?_⟩
  · rw [← Bool.not_eq_true]
    exact fun yes => quiet e ((firesIs e).mpr ⟨mem, yes⟩)
  · intro marked u t
    obtain ⟨mem, now⟩ := (firesIs e).mp entry
    have is : t = u.runAction e.action e.arg := State.lineEvent_fires ascending mem now
    have idleIs : u.enginesIdle = s.enginesIdle := rfl
    have acts {act : Action} (action : e.action = act) : t = u.runAction act e.arg := action ▸ is
    clear_value t
    refine ⟨fun notify => ?_, fun zoom => acts zoom, fun engine busy => ?_,
      fun advance idle => ⟨fun cannot => ?_, fun o formatted position => ⟨fun last => ?_, fun more => ?_⟩⟩,
      fun idle r refused => ?_, fun idle o f i capture accepted => ?_, fun idle o mark accepted => ?_⟩
    · subst is
      rw [notify]
      exact ⟨u.post_noticeDue (.triggerNote e.arg), (u.post_onlyChanges _).mono (by simp)⟩
    · have busy' : u.enginesIdle = false := busy
      rcases engine with capture | mark | advance
      · exact (acts capture).trans (if_pos (by simp [busy']))
      · exact (acts mark).trans (if_pos (by simp [busy']))
      · exact (acts advance).trans (State.triggerAdvance_overrun (.inl busy'))
    · exact (acts advance).trans (State.triggerAdvance_overrun (.inr cannot))
    · have goes : t = u.idleTrav.post .lessonEnd := (acts advance).trans
        ((State.triggerAdvance_goes (s := u) idle formatted position).trans (State.advanceAt_end (s := u) last false))
      rw [State.idleTrav_of_idle (s := u) idle] at goes
      rw [goes]
      exact ⟨u.post_noticeDue .lessonEnd, (u.post_onlyChanges _).mono (by simp)⟩
    · have goes : t = (u.useTrav (.advance false)).present .advanceRead (u.headerRead o) := (acts advance).trans
        ((State.triggerAdvance_goes (s := u) idle formatted position).trans (State.advanceAt_reads (s := u) more false))
      rw [goes]
      refine ⟨rfl, ?_, by simp [onlyChanges_iff, State.useTrav]⟩
      simp only [Presents, State.present_port]
      rfl
    · have posted : t = u.post (.captureFailed r) := by
        rcases refused with ⟨capture, check⟩ | ⟨mark, check⟩
        · have check' : u.checkRecord e.arg.toNat 0 = .refused r := check
          refine (acts capture).trans ((if_neg (by simp [idleIs, idle])).trans ?_)
          simp only [check']
        · have check' : u.checkMark e.arg.toNat = .refused r := check
          refine (acts mark).trans ((if_neg (by simp [idleIs, idle])).trans ?_)
          simp only [check']
      rw [posted]
      exact ⟨u.post_noticeDue (.captureFailed r), (u.post_onlyChanges _).mono (by simp)⟩
    · have check : u.checkRecord e.arg.toNat 0 = .accepted o f i := accepted
      have goes : t = u.acceptRecord o f i false true := by
        refine (acts capture).trans ((if_neg (by simp [idleIs, idle])).trans ?_)
        simp only [check]
      obtain ⟨stage, store, first⟩ := u.acceptRecord_spec o f i false true
      rw [← goes] at store first
      refine ⟨goes ▸ u.acceptRecord_slots .., ⟨_, store, rfl, rfl, rfl, ?_, first⟩,
        goes ▸ u.acceptRecord_onlyChanges _ _ _ _ _⟩
      cases f <;> rfl
    · have check : u.checkMark e.arg.toNat = .accepted o := accepted
      have goes : t = u.acceptMark o e.arg.toNat true := by
        refine (acts mark).trans ((if_neg (by simp [idleIs, idle])).trans ?_)
        simp only [check]
      obtain ⟨store, presents, frame⟩ := u.acceptMark_spec o e.arg.toNat true
      rw [← goes] at store presents frame
      exact ⟨⟨_, store, rfl, rfl, rfl, rfl⟩, presents, frame⟩

/-! ## TRIGGERS (R143, R144) -/

/-- The words read so far: the list is complete, or the next read follows, or it would run above the top of
memory. -/
theorem State.listFrom_eq (s : State) (addr total : Nat) (got : List Word) (few : got.length ≤ total) :
    s.listFrom addr total got =
      if got.length = total then s.loadList got
      else if 0x2000000 < addr + 4 * got.length + 4 * min 8 (total - got.length) then s.complete Result.retry
      else (s.setCmdStage (.listRead addr total got)).presentCommand .triggerList
        { tag := 0, addr := addr + 4 * got.length, body := .read (min 8 (total - got.length)) } := by
  have all : min 8 (total - got.length) = 0 ↔ got.length = total := by omega
  simp only [State.listFrom, all, List.take_of_length_le few]
  rfl

theorem State.listRead_of {s : State} {a : Answer} {p : Packet} {addr total : Nat} {got : List Word}
    (cmd : s.cu.cmd = some { packet := some p, stage := .listRead addr total got }) :
    s.listRead a = if a.error then s.complete Result.retry else s.listFrom addr total (got ++ a.words) := by
  simp only [State.listRead, cmd]

/-- The action of a known code (R177). -/
def Action.named : Nat → Action
  | 0 => .capture
  | 1 => .mark
  | 2 => .advance
  | 3 => .zoomStep
  | _ => .notify

theorem Action.ofCode_of_le {n : Nat} (known : n ≤ 4) : Action.ofCode n = some (Action.named n) := by
  match n with
  | 0 | 1 | 2 | 3 | 4 => rfl

theorem Action.ofCode_of_gt {n : Nat} (unknown : 4 < n) : Action.ofCode n = none := by
  match n with
  | n + 5 => rfl

section
variable (hc : Nat) (before : Option Nat) (w0 w1 : Word)

/-- The checks of an entry that its values fail (R143). -/
theorem checkEntry_badValue
    (bad : 4 < field w0 24 3 ∨ 6 < field w0 12 3 ∨ 2 ^ field w0 12 3 ≤ field w0 16 6 ∨ hc ≤ field w0 0 11) :
    checkEntry hc before w0 w1 = .bad .badValue := by
  by_cases unknown : 4 < field w0 24 3
  · simp only [checkEntry, Action.ofCode_of_gt unknown]
  · simp only [checkEntry, Action.ofCode_of_le (Nat.not_lt.mp unknown)]
    rcases bad with high | high | high | high
    · exact absurd high unknown
    · rw [if_pos high]
    · rw [if_pos high, ite_self]
    · rw [if_pos high, ite_self, ite_self]

variable {hc before w0 w1} (action : field w0 24 3 ≤ 4) (k : field w0 12 3 ≤ 6)
  (r : field w0 16 6 < 2 ^ field w0 12 3) (line : field w0 0 11 < hc)
include action k r line

theorem checkEntry_listOrder {l : Nat} (last : before = some l) (below : field w0 0 11 ≤ l) :
    checkEntry hc before w0 w1 = .bad .listOrder := by
  simp only [checkEntry, Action.ofCode_of_le action, Nat.not_lt.mpr k, Nat.not_le.mpr r, Nat.not_le.mpr line, last,
    below, decide_true, if_true, if_false]

theorem checkEntry_of_ok (above : ∀ l, before = some l → l < field w0 0 11) :
    checkEntry hc before w0 w1 = .good
      { line := field w0 0 11, k := field w0 12 3, r := field w0 16 6,
        action := Action.named (field w0 24 3),
        arg := BitVec.ofNat 16 (field w1 0 16), enabled := flagAt w0 31, fired := false } := by
  have entry := Action.ofCode_of_le action
  cases before with
  | none => simp only [checkEntry, entry, Nat.not_lt.mpr k, Nat.not_le.mpr r, Nat.not_le.mpr line, if_false,
      Bool.false_eq_true]
  | some l => simp only [checkEntry, entry, Nat.not_lt.mpr k, Nat.not_le.mpr r, Nat.not_le.mpr line, if_false,
      Nat.not_le.mpr (above l rfl), decide_false, Bool.false_eq_true]

end

theorem State.listRead_onlyChanges (s : State) (a : Answer) :
    OnlyChanges [.timer, .port, .cu] s (s.listRead a) := by
  have loads (ws : List Word) : OnlyChanges [.timer, .port, .cu] s (s.loadList ws) := by
    unfold State.loadList
    split <;> simp [onlyChanges_iff]
  have next (addr total : Nat) (got : List Word) : OnlyChanges [.timer, .port, .cu] s (s.listFrom addr total got) := by
    unfold State.listFrom
    dsimp only
    split
    · exact loads _
    · split <;> simp [onlyChanges_iff]
  unfold State.listRead
  split
  · split
    · split
      · simp [onlyChanges_iff]
      · exact next _ _ _
    · exact .refl _ s
  · exact .refl _ s

/-- Settles O59, by the steps of a load and the checks of an entry. -/
theorem triggersLoaded : Obligations.TriggersLoaded := by
  refine ⟨fun s p taken => ?begins, fun s a p addr total got reply cmd => ?answer, fun hc before w0 w1 => ?entry⟩
  case begins =>
    intro count addr
    have cmd : s.cu.cmd = some { packet := some p, stage := .dispatched } := taken.cmd
    have countIs : field p.p1 0 16 = count := by simp [field, count]
    have is : s.runTriggers p = if 16 < count then s.complete (Result.refuse .badValue)
        else s.listFrom addr (2 * count) [] := by
      simp only [State.runTriggers, countIs]
      rfl
    refine ⟨_, (Runs.triggers taken).exec_eq, fun many => ?_, fun zero => ?_, fun some_ few => ?_⟩
    · rw [is, if_pos many]
      exact State.complete_only cmd _
    · rw [is, if_neg (by omega), State.listFrom_eq s addr _ [] (by simp), if_pos (by simp [zero])]
      have change : OnlyChanges [.timer] s (s.setTimer { s.timer with triggers := [] }) := by simp [onlyChanges_iff]
      obtain ⟨completed, frame⟩ := State.complete_after change (by simp) (by simp) cmd (Result.done 0)
      have goes : s.loadList [] = (s.setTimer { s.timer with triggers := [] }).complete (Result.done 0) := rfl
      rw [goes]
      exact ⟨by simp, completed, frame.mono (by simp)⟩
    · intro n
      rw [is, if_neg (by omega), State.listFrom_eq s addr _ [] (by simp), if_neg (by simp; omega)]
      simp only [List.length_nil, Nat.mul_zero, Nat.add_zero, Nat.sub_zero]
      have top : 0x2000000 < addr + 4 * n ↔ 0x1FFFFFC < addr + 4 * n - 4 := by omega
      by_cases beyond : 0x1FFFFFC < addr + 4 * n - 4
      · rw [if_pos (top.mpr beyond)]
        obtain ⟨completed, frame⟩ := State.complete_only cmd Result.retry
        exact ⟨frame, fun _ => completed, fun within => absurd beyond (by omega)⟩
      · rw [if_neg (fun over' => beyond (top.mp over'))]
        exact ⟨by simp [onlyChanges_iff], fun over' => absurd over' beyond, fun _ => State.setCmdStage_reads cmd _ _ _⟩
  case answer =>
    intro all n
    have cmd' : s.portFreed.cu.cmd = some { packet := some p, stage := .listRead addr total got } := cmd
    have is := State.listRead_of (a := a) cmd'
    have completes {o : Result} (made : s.portFreed.listRead a = s.portFreed.complete o) :
        Completed s.portFreed (s.portFreed.listRead a) p o ∧ (s.portFreed.listRead a).timer = s.timer := by
      rw [made]
      obtain ⟨completed, frame⟩ := State.complete_only cmd' o
      exact ⟨completed, frame .timer (by simp)⟩
    have reads (fine : a.error = false) (more : all.length < total) :
        s.portFreed.listRead a =
          if 0x2000000 < addr + 4 * all.length + 4 * n then s.portFreed.complete Result.retry
          else (s.portFreed.setCmdStage (.listRead addr total all)).presentCommand .triggerList
            { tag := 0, addr := addr + 4 * all.length, body := .read n } := by
      rw [is, if_neg (by simp [fine]), State.listFrom_eq _ addr total all (by omega), if_neg (by omega)]
    have loads (fine : a.error = false) (whole : all.length = total) :
        s.portFreed.listRead a = s.portFreed.loadList all := by
      rw [is, if_neg (by simp [fine]), State.listFrom_eq _ addr total all (by omega), if_pos whole]
    refine ⟨_, (Runs.listRead reply).exec_eq, .of_portFreed (by simp) (s.portFreed.listRead_onlyChanges a),
      fun failed => completes (is.trans (if_pos failed)), fun fine more within => ?_,
      fun fine more beyond => completes ((reads fine more).trans (if_pos beyond)), fun ts fine whole good => ?_,
      fun r i fine whole bad => ?_⟩
    · rw [reads fine more, if_neg (by omega)]
      exact ⟨State.setCmdStage_reads cmd' _ _ _, by simp; rfl⟩
    · have goes : s.portFreed.loadList all =
          (s.portFreed.setTimer { s.timer with triggers := ts }).complete (Result.done (toWord ts.length)) := by
        have good' : checkEntries s.portFreed.slots.hc none 0 all = .good ts := good
        simp only [State.loadList, good']
        rfl
      have change : OnlyChanges [.timer] s.portFreed (s.portFreed.setTimer { s.timer with triggers := ts }) := by
        simp [onlyChanges_iff]
      rw [loads fine whole, goes]
      exact ⟨by simp, (State.complete_after change (by simp) (by simp) cmd' _).1⟩
    · have goes : s.portFreed.loadList all =
          s.portFreed.complete { cls := .refused, reason := r, arg := toWord i, residual := 0 } := by
        have bad' : checkEntries s.portFreed.slots.hc none 0 all = .bad r i := bad
        simp only [State.loadList, bad']
      exact (completes ((loads fine whole).trans goes)).symm
  case entry =>
    intro action k r line
    have fields : field w0 24 3 = action ∧ field w0 12 3 = k ∧ field w0 16 6 = r ∧ field w0 0 11 = line :=
      ⟨field_eq_extract .., field_eq_extract .., field_eq_extract .., field_eq_extract ..⟩
    obtain ⟨actionIs, kIs, rIs, lineIs⟩ := fields
    refine ⟨fun bad => checkEntry_badValue hc before w0 w1 (by rw [actionIs, kIs, rIs, lineIs]; exact bad),
      fun ha hk hr hl ⟨l, last, below⟩ => checkEntry_listOrder (actionIs ▸ ha) (kIs ▸ hk) (by rw [rIs, kIs]; exact hr)
        (lineIs ▸ hl) last (lineIs ▸ below), fun ha hk hr hl above => ⟨_, rfl, ?_⟩,
      fun index rest => ⟨rfl, fun x bad => ?_, fun t good => ⟨fun x i bad => ?_, fun ts goods => ?_⟩⟩⟩
    · rw [checkEntry_of_ok (actionIs ▸ ha) (kIs ▸ hk) (by rw [rIs, kIs]; exact hr) (lineIs ▸ hl)
        (by rw [lineIs]; exact above), actionIs, kIs, rIs, lineIs, flagAt_eq_getLsbD, field_eq_extract,
        BitVec.ofNat_toNat, BitVec.setWidth_eq]
      rfl
    · simp only [checkEntries, bad]
    · simp only [checkEntries, good, bad]
    · simp only [checkEntries, good, goods]

end Sys2Proof.Machine

/-! The record header: what is written is read back, and the checks of its readers (R101, R102, R174, R180). -/

namespace Sys2Proof.Machine

/-! ## The halfword sum (R174) -/

theorem halvesOf_sum (w : Word) : (halvesOf w).sum = w.toNat % 65536 + w.toNat / 65536 := by
  have small := w.isLt
  simp only [halvesOf, field, List.sum_cons, List.sum_nil, Nat.reducePow, Nat.div_one]
  omega

theorem halfSum_eq (ws : List Word) :
    halfSum ws = (ws.map fun x => x.toNat % 65536 + x.toNat / 65536).sum % 65536 := by
  have sums : (ws.flatMap halvesOf).sum = (ws.map fun x => x.toNat % 65536 + x.toNat / 65536).sum := by
    induction ws with
    | nil => rfl
    | cons w ws ih => rw [List.flatMap_cons, List.sum_append, halvesOf_sum, ih, List.map_cons, List.sum_cons]
  rw [halfSum, sums]

theorem checkGood_iff (ws : List Word) : checkGood ws = true ↔ halfSum ws = 0xFFFF := by
  simp [checkGood]

/-- The words of a header but for the check halfword. -/
def Header.front (h : Header) : List Word := (h.wordsWith 0).take 7

theorem Header.wordsWith_eq (h : Header) (check : Nat) : h.wordsWith check = h.front ++ [toWord (check * 2 ^ 16)] :=
  rfl

/-- The check halfword adds itself to the sum. -/
theorem Header.halfSum_wordsWith (h : Header) {check : Nat} (fits : check < 65536) :
    halfSum (h.wordsWith check) = (halfSum h.front + check) % 65536 := by
  have last : (toWord (check * 2 ^ 16)).toNat = check * 65536 := by
    exact (BitVec.toNat_ofNat _ _).trans (Nat.mod_eq_of_lt (by omega))
  rw [h.wordsWith_eq, halfSum_eq, halfSum_eq, List.map_append, List.sum_append, List.map_singleton,
    List.sum_singleton, last]
  omega

/-- What is written passes the check. -/
theorem Header.checkGood_toWords (h : Header) : checkGood h.toWords = true := by
  have zero := h.halfSum_wordsWith (check := 0) (by omega)
  have bound : halfSum h.front < 65536 := Nat.mod_lt _ (by omega)
  rw [checkGood_iff, Header.toWords, h.halfSum_wordsWith (by omega), zero]
  omega

/-! ## The fields of a written header (R180) -/

theorem toWord_toNat {n : Nat} (fits : n < 4294967296) : (toWord n).toNat = n := by
  rw [toWord, BitVec.toNat_ofNat, Nat.mod_eq_of_lt (by omega)]

theorem Kind.ofCode_code (k : Kind) : Kind.ofCode k.code = some k := by cases k <;> rfl

theorem Format.ofCode_code (f : Format) : Format.ofCode f.code = some f := by cases f <;> rfl

/-- A word of two halfwords gives them back. -/
theorem field_halves {lo hi : Nat} (low : lo < 65536) (high : hi < 65536) :
    field (toWord (lo + hi * 2 ^ 16)) 0 16 = lo ∧ field (toWord (lo + hi * 2 ^ 16)) 16 16 = hi := by
  simp only [field, Nat.reducePow, toWord_toNat (show lo + hi * 65536 < 4294967296 by omega)]
  omega

/-- The fields of the first word of a header. -/
theorem Header.firstWord {h : Header} (cycle : h.cycle < 64) :
    let w := (h.toWords).getD 0 0
    field w 0 4 = h.kind.code ∧ field w 4 4 = h.format.code ∧ flagAt w 8 = h.broken ∧ flagAt w 9 = h.note
      ∧ field w 10 6 = h.cycle ∧ field w 16 16 = h.serial.toNat := by
  have serial := h.serial.isLt
  have kind : h.kind.code ≤ 3 := by cases h.kind <;> decide
  have format : h.format.code ≤ 1 := by cases h.format <;> decide
  have bits (b : Bool) (k : Nat) : (if b then k else 0) = b.toNat * k := by cases b <;> simp
  have broken : h.broken.toNat ≤ 1 := Bool.toNat_le h.broken
  have note : h.note.toNat ≤ 1 := Bool.toNat_le h.note
  have flag (b : Bool) : (b.toNat == 1) = b := by cases b <;> rfl
  intro w
  have value : w.toNat = h.kind.code + h.format.code * 16 + h.broken.toNat * 256 + h.note.toNat * 512
      + h.cycle * 1024 + h.serial.toNat * 65536 := by
    change (toWord _).toNat = _
    rw [bits, bits]
    exact toWord_toNat (by omega)
  have third : field w 8 1 = h.broken.toNat := by simp only [field, value, Nat.reducePow]; omega
  have fourth : field w 9 1 = h.note.toNat := by simp only [field, value, Nat.reducePow]; omega
  refine ⟨?_, ?_, by rw [flagAt, third, flag], by rw [flagAt, fourth, flag], ?_, ?_⟩ <;>
    (simp only [field, value, Nat.reducePow, Nat.div_one]; omega)

/-- Settles O22, word by word. -/
theorem headerRoundTrip : Obligations.HeaderRoundTrip := by
  intro h cycle length lesson width height zoom cx cy
  refine ⟨rfl, h.checkGood_toWords, ?_⟩
  obtain ⟨kindIs, formatIs, brokenIs, noteIs, cycleIs, serialIs⟩ := Header.firstWord cycle
  have lengthIs : (wordAt h.toWords 1).toNat = h.length := toWord_toNat length
  have lessonIs : field (wordAt h.toWords 2) 0 8 = h.lesson := by
    change field (toWord (h.lesson + h.w * 2 ^ 16)) 0 8 = _
    simp only [field, Nat.reducePow, toWord_toNat (show h.lesson + h.w * 65536 < 4294967296 by omega)]
    omega
  have widthIs : field (wordAt h.toWords 2) 16 16 = h.w := (field_halves (by omega) width).2
  obtain ⟨heightIs, zoomIs⟩ : field (wordAt h.toWords 3) 0 16 = h.h ∧ field (wordAt h.toWords 3) 16 16 = h.z :=
    field_halves height zoom
  obtain ⟨cxIs, cyIs⟩ : field (wordAt h.toWords 6) 0 16 = h.cx ∧ field (wordAt h.toWords 6) 16 16 = h.cy :=
    field_halves cx cy
  have first : wordAt h.toWords 0 = h.toWords.getD 0 0 := rfl
  simp only [Header.ofWords, first, kindIs, formatIs, brokenIs, noteIs, cycleIs, serialIs, Kind.ofCode_code,
    Format.ofCode_code, lengthIs, lessonIs, widthIs, heightIs, zoomIs, cxIs, cyIs, BitVec.ofNat_toNat,
    BitVec.setWidth_eq]
  rfl

/-! ## The judgement of a header (R102) -/

/-- The shape of a kind (R100, R102). -/
theorem Header.shapeGood_iff (h : Header) :
    h.shapeGood = true ↔
      (h.kind = .page → h.length = 2 * h.w * h.h + 36 ∧ h.w % 8 = 0 ∧ 32 ≤ h.w ∧ h.w ≤ 2048
          ∧ 8 ≤ h.h ∧ h.h ≤ 1536)
        ∧ (h.kind = .mark → h.length = 36) ∧ (h.kind = .endRecord → h.length = 0) := by
  cases kind : h.kind with
  | page => simp [Header.shapeGood, Header.shapeLength, kind, and_assoc]
  | mark => simp [Header.shapeGood, Header.shapeLength, kind]
  | endRecord => simp [Header.shapeGood, Header.shapeLength, kind]

theorem judgeShape_iff (ws : List Word) (h : Header) :
    judgeShape ws = some h ↔ halfSum ws = 0xFFFF ∧ Header.ofWords ws = some h ∧ h.shapeGood = true := by
  simp only [judgeShape]
  cases read : Header.ofWords ws with
  | none => simp
  | some k =>
    simp only [Bool.and_eq_true, checkGood_iff, Option.ite_none_right_eq_some, Option.some.injEq]
    constructor
    · rintro ⟨⟨sum, shape⟩, rfl⟩
      exact ⟨sum, rfl, shape⟩
    · rintro ⟨sum, rfl, shape⟩
      exact ⟨⟨sum, shape⟩, rfl⟩

theorem judgeScan_iff (size p : Nat) (ws : List Word) (h : Header) :
    judgeScan size p ws = some h ↔ judgeShape ws = some h ∧ p + h.length + 32 ≤ size := by
  simp only [judgeScan]
  cases judgeShape ws with
  | none => simp
  | some k =>
    simp only [Option.ite_none_right_eq_some, Option.some.injEq]
    constructor
    · rintro ⟨fits, rfl⟩
      exact ⟨rfl, fits⟩
    · rintro ⟨rfl, fits⟩
      exact ⟨fits, rfl⟩

theorem judgeChain_iff (eod p : Nat) (ws : List Word) (h : Header) :
    judgeChain eod p ws = some h ↔ judgeShape ws = some h ∧ (h.kind = .endRecord ∨ p + h.length ≤ eod) := by
  simp only [judgeChain]
  cases judgeShape ws with
  | none => simp
  | some k =>
    simp only [Option.ite_none_right_eq_some, Option.some.injEq, Bool.or_eq_true, beq_iff_eq, decide_eq_true_eq]
    constructor
    · rintro ⟨fits, rfl⟩
      exact ⟨rfl, fits⟩
    · rintro ⟨rfl, fits⟩
      exact ⟨fits, rfl⟩

/-! ## The fields at their bits (R180) -/

theorem Kind.ofCode_eq_some (n : Nat) (k : Kind) : Kind.ofCode n = some k ↔ n = k.code := by
  match n with
  | 0 => cases k <;> simp [Kind.ofCode, Kind.code]
  | 1 | 2 | 3 => cases k <;> simp [Kind.ofCode, Kind.code]
  | n + 4 => cases k <;> simp [Kind.ofCode, Kind.code]

theorem Format.ofCode_eq_some (n : Nat) (f : Format) : Format.ofCode n = some f ↔ n = f.code := by
  match n with
  | 0 | 1 => cases f <;> simp [Format.ofCode, Format.code]
  | n + 2 => cases f <;> simp [Format.ofCode, Format.code]

theorem Kind.ofCode_eq_none (n : Nat) : Kind.ofCode n = none ↔ n = 0 ∨ 4 ≤ n := by
  match n with
  | 0 | 1 | 2 | 3 => simp [Kind.ofCode]
  | n + 4 => simp [Kind.ofCode]

theorem Format.ofCode_eq_none (n : Nat) : Format.ofCode n = none ↔ 2 ≤ n := by
  match n with
  | 0 | 1 => simp [Format.ofCode]
  | n + 2 => simp [Format.ofCode]

/-- The header that a kind and a format make of the words. -/
def Header.fieldsOf (ws : List Word) (kind : Kind) (format : Format) : Header :=
  { kind := kind, format := format, broken := (ws.getD 0 0).getLsbD 8, note := (ws.getD 0 0).getLsbD 9,
    cycle := ((ws.getD 0 0).extractLsb' 10 6).toNat, serial := (ws.getD 0 0).extractLsb' 16 16,
    length := (ws.getD 1 0).toNat, lesson := ((ws.getD 2 0).extractLsb' 0 8).toNat,
    w := ((ws.getD 2 0).extractLsb' 16 16).toNat, h := ((ws.getD 3 0).extractLsb' 0 16).toNat,
    z := ((ws.getD 3 0).extractLsb' 16 16).toNat, frame := ws.getD 4 0, time := ws.getD 5 0,
    cx := ((ws.getD 6 0).extractLsb' 0 16).toNat, cy := ((ws.getD 6 0).extractLsb' 16 16).toNat }

theorem Header.ofWords_eq (ws : List Word) :
    Header.ofWords ws =
      (Kind.ofCode ((ws.getD 0 0).extractLsb' 0 4).toNat).bind fun kind =>
        (Format.ofCode ((ws.getD 0 0).extractLsb' 4 4).toNat).map (Header.fieldsOf ws kind) := by
  simp only [Header.ofWords, wordAt, field_eq_extract, flagAt_eq_getLsbD, BitVec.ofNat_toNat, BitVec.setWidth_eq]
  cases Kind.ofCode ((ws.getD 0 0).extractLsb' 0 4).toNat with
  | none => rfl
  | some kind =>
    cases Format.ofCode ((ws.getD 0 0).extractLsb' 4 4).toNat <;> rfl

/-- Settles O23. -/
theorem headerJudged : Obligations.HeaderJudged := by
  refine ⟨fun ws h size eod p => ?judged, fun ws => ?fields, fun h lesson => ?unused, fun serial => rfl⟩
  case judged =>
    intro good
    have shape : judgeShape ws = some h ↔ good := by rw [judgeShape_iff, h.shapeGood_iff]
    rw [judgeScan_iff, judgeChain_iff, shape]
    exact ⟨Iff.rfl, Iff.rfl⟩
  case fields =>
    intro w bits
    refine ⟨halfSum_eq ws, ?_, fun h => ?_⟩
    · rw [Header.ofWords_eq, Option.bind_eq_none_iff]
      simp only [Option.map_eq_none_iff, Format.ofCode_eq_none]
      rw [show bits 0 0 4 = ((ws.getD 0 0).extractLsb' 0 4).toNat from rfl,
        show bits 0 4 4 = ((ws.getD 0 0).extractLsb' 4 4).toNat from rfl, ← or_assoc, ← Kind.ofCode_eq_none]
      cases Kind.ofCode ((ws.getD 0 0).extractLsb' 0 4).toNat <;> simp
    · have kindIs : (match h.kind with
            | .page => bits 0 0 4 = 1 | .mark => bits 0 0 4 = 2 | .endRecord => bits 0 0 4 = 3)
          ↔ Kind.ofCode (bits 0 0 4) = some h.kind := by
        rw [Kind.ofCode_eq_some]
        cases h.kind <;> rfl
      have formatIs : (match h.format with | .full => bits 0 4 4 = 0 | .half => bits 0 4 4 = 1)
          ↔ Format.ofCode (bits 0 4 4) = some h.format := by
        rw [Format.ofCode_eq_some]
        cases h.format <;> rfl
      refine Iff.trans ?_ (and_congr kindIs (and_congr formatIs Iff.rfl)).symm
      rw [Header.ofWords_eq, Option.bind_eq_some_iff]
      constructor
      · rintro ⟨kind, kindSome, made⟩
        obtain ⟨format, formatSome, rfl⟩ := Option.map_eq_some_iff.mp made
        exact ⟨kindSome, formatSome, rfl⟩
      · rintro ⟨kindSome, formatSome, made⟩
        exact ⟨h.kind, kindSome, Option.map_eq_some_iff.mpr ⟨h.format, formatSome, made.symm⟩⟩
  case unused =>
    constructor
    · refine extract_of_field ?_
      change field (toWord (h.lesson + h.w * 2 ^ 16)) 8 8 = 0
      simp only [field, toWord, BitVec.toNat_ofNat, Nat.reducePow]
      omega
    · refine extract_of_field ?_
      change field (toWord (_ * 2 ^ 16)) 0 16 = 0
      simp only [field, toWord, BitVec.toNat_ofNat, Nat.reducePow]
      omega

end Sys2Proof.Machine

/-! Which commands change the run state, the fixed regions, the straps and ATTN (R1, R2, R158, R171). -/

namespace Sys2Proof.Machine

/-! ## The run state, the fixed regions and the straps -/

/-- The run state, the fixed regions and the straps are these. -/
def Fixed (state : RunState) (regions : Regions) (straps : BitVec 2) (u : State) : Prop :=
  u.bridge.run = state ∧ u.bridge.regions = regions ∧ u.bridge.straps = straps

theorem Fixed.of_bridge {state : RunState} {regions : Regions} {straps : BitVec 2} {u v : State}
    (same : v.bridge = u.bridge) (h : Fixed state regions straps u) : Fixed state regions straps v := by
  obtain ⟨r, g, p⟩ := h
  exact ⟨by rw [same, r], by rw [same, g], by rw [same, p]⟩

theorem fixed_blind (state : RunState) (regions : Regions) (straps : BitVec 2) :
    Blind (Fixed state regions straps) where
  port _ _ h := h
  txn _ _ _ _ h := h
  asm _ _ _ h := h
  hist _ _ h := h
  completes _ _ _ h := h.of_bridge (by simp)
  errors _ _ h := h
  timer _ _ _ _ _ h := h
  fired _ _ h := h
  unfired _ h := h
  cu _ _ _ _ _ _ _ h := h
  cmd _ _ _ _ h := h
  take _ _ _ _ h := h
  loaded _ _ h := h
  store _ _ _ _ _ h := h
  view _ _ h := h
  slots _ _ _ _ _ h := h
  latch _ _ _ _ h := h

/-- What becomes of the run state and the fixed regions where a setup block is read. -/
def BlockRead (s t : State) : Prop :=
  t.bridge.straps = s.bridge.straps
    ∧ (t.bridge.run = s.bridge.run ∧ t.bridge.regions = s.bridge.regions
      ∨ s.bridge.run = .bypass ∧ t.bridge.run = .run)

theorem BlockRead.of_bridge {s t : State} (same : t.bridge = s.bridge) : BlockRead s t := by
  simp [BlockRead, same]

theorem State.applyBypass_blockRead {s u : State} (same : u.bridge = s.bridge) (bypass : s.bridge.run = .bypass)
    (b : SetupBlock) : BlockRead s (u.applyBypass b) :=
  ⟨show u.bridge.straps = _ by rw [same], .inr ⟨bypass, rfl⟩⟩

theorem State.applyRun_straps (s : State) (b : SetupBlock) :
    (s.applyRun b).bridge = { s.bridge with classes := (s.applyRun b).bridge.classes } := by
  unfold State.applyRun
  split
  · rw [State.complete_bridge]
  · split
    · rw [State.complete_bridge]
    · dsimp only
      split
      · rw [State.complete_bridge]
      · split
        · rw [State.complete_bridge]; rfl
        · split
          · simp only [State.startScan, State.present_bridge, State.setStore_bridge, State.setCmdStage_bridge]; rfl
          · rw [State.setCmdStage_bridge]; rfl

theorem State.setupRead_blockRead (s : State) (a : Answer) : BlockRead s (s.setupRead a) := by
  unfold State.setupRead
  split
  · split
    · split
      · exact .of_bridge (by simp)
      · split
        · exact .of_bridge (by simp)
        · unfold State.judgeSetup
          split
          · exact .of_bridge (by simp)
          · split
            next bypass => exact State.applyBypass_blockRead (by simp) bypass _
            next =>
              refine ⟨?_, .inl ⟨?_, ?_⟩⟩ <;> rw [State.applyRun_straps]
    · exact .of_bridge rfl
  · exact .of_bridge rfl

theorem State.reloadRead_blockRead (s : State) (a : Answer) (reads : s.reloadReads = true → s.bridge.run = .bypass) :
    BlockRead s (s.reloadRead a) := by
  unfold State.reloadRead
  split
  · split
    · exact .of_bridge rfl
    · dsimp only
      split
      · exact .of_bridge rfl
      · exact .of_bridge rfl
  · next block =>
    split
    · exact .of_bridge rfl
    · split
      · exact .of_bridge rfl
      · dsimp only
        split
        · exact .of_bridge rfl
        · exact State.applyBypass_blockRead rfl (reads (by simp [State.reloadReads, block])) _
  · exact .of_bridge rfl

/-- The run state, the fixed regions and the straps after a command. -/
theorem Runs.fixed {c : Instr} {s t : State} (run : Runs c s t) (setup : SetupInv s) :
    Fixed s.bridge.run s.bridge.regions s.bridge.straps t
      ∨ c = .resetNFall ∧ t.bridge.run = .bypass
      ∨ (∃ straps, c = .resetNRise straps ∧ Fixed s.bridge.run s.bridge.regions straps t)
      ∨ BlockRead s t ∧ ∃ a, c = .setupBlockReadAnswer a ∨ c = .reloadReadAnswer a := by
  have B := fixed_blind s.bridge.run s.bridge.regions s.bridge.straps
  have own : Fixed s.bridge.run s.bridge.regions s.bridge.straps s := ⟨rfl, rfl, rfl⟩
  by_cases deep : Instr.deep c = true
  · cases run with
    | resetNFall => exact .inr (.inl ⟨rfl, rfl⟩)
    | resetNRise => exact .inr (.inr (.inl ⟨_, rfl, rfl, rfl, rfl⟩))
    | localTime => exact .inl own
    | deferredScan => exact .inl (own.of_bridge (by
        unfold State.setupScans
        repeat' split
        all_goals simp [State.startScan]))
    | luma front =>
      exact .inl (B.keeps.lumaPiece _ _ (front.run (.inl rfl)) (fun u _ h => h.of_bridge (by simp)) own)
    | setupRead =>
      refine .inr (.inr (.inr ⟨?_, _, .inl rfl⟩))
      exact s.portFreed.setupRead_blockRead _
    | reloadRead =>
      refine .inr (.inr (.inr ⟨?_, _, .inr rfl⟩))
      exact s.portFreed.reloadRead_blockRead _ setup.2.2.1
    | triggers => exact .inl (own.of_bridge (by
        unfold State.runTriggers State.listFrom State.loadList
        dsimp only
        repeat' split
        all_goals simp))
    | listRead => exact .inl (own.of_bridge (s.portFreed.listRead_onlyChanges _ .bridge (by simp)))
    | badMode _ sel => rcases sel with rfl | rfl | rfl | rfl | rfl | rfl <;> cases deep
    | _ => cases deep
  · exact .inl (run.blind B (fun _ _ h => h) (fun yes => absurd yes deep) own)

/-! ## ATTN (R171) -/

/-- ATTN is this. -/
def AttnIs (b : Bool) (u : State) : Prop := u.cu.attn = b

theorem AttnIs.of_cu {b : Bool} {u v : State} (same : v.cu.attn = u.cu.attn) (h : AttnIs b u) : AttnIs b v :=
  same.trans h

theorem attnIs_blind (b : Bool) : Blind (AttnIs b) where
  port _ _ h := h
  txn _ _ _ _ h := h
  asm _ _ _ h := h
  hist _ _ h := h
  completes _ _ _ h := h.of_cu (by simp)
  errors _ _ h := h
  timer _ _ _ _ _ h := h
  fired _ _ h := h
  unfired _ h := h
  cu _ _ _ _ _ _ attn h := h.of_cu attn
  cmd _ _ _ _ h := h
  take _ _ _ _ h := h
  loaded _ _ h := h
  store _ _ _ _ _ h := h
  view _ _ h := h
  slots _ _ _ _ _ h := h
  latch _ _ _ _ h := h

theorem State.post_attn (s : State) (n : Notice) : (s.post n).cu.attn = s.cu.attn := by
  unfold State.post State.deliver
  split <;> simp

theorem State.deliver_attn (s : State) : s.deliver.cu.attn = s.cu.attn := by
  unfold State.deliver
  split <;> simp

theorem State.presentCommand_attn (s : State) (p : Purpose) (b : Burst) :
    (s.presentCommand p b).cu.attn = s.cu.attn := by
  rw [State.presentCommand_cu]

theorem State.setCmdStage_attn (s : State) (st : CmdStage) : (s.setCmdStage st).cu.attn = s.cu.attn := by
  unfold State.setCmdStage
  split <;> rfl

theorem State.complete_attn (s : State) (o : Result) : (s.complete o).cu.attn = s.cu.attn := by
  rw [State.complete_cu]

theorem State.frameStart_attn (s : State) : s.frameStart.cu.attn = s.cu.attn := by
  have ended : s.endFrame.cu.attn = s.cu.attn := by rw [State.endFrame_cu]
  have cleared (u : State) : u.newGeometry.cu.attn = u.cu.attn := by
    unfold State.newGeometry
    dsimp only
    split
    · exact State.post_attn _ _
    · rfl
  have applied (u : State) : u.applyPending.cu.attn = u.cu.attn := by
    unfold State.applyPending State.applyStaged
    repeat' split
    · rfl
    · exact cleared _
    · rfl
    · rfl
  have timed (u : State) : u.timerFrameStart.cu.attn = u.cu.attn := by
    unfold State.timerFrameStart
    dsimp only
    split
    · rfl
    · exact State.post_attn _ _
  have filled (u : State) (o : Option (Fin 3)) : ((u.fillSlot o).freshFrame o).cu = u.cu := by simp
  simp only [State.frameStart, State.setEnh_cu, filled, State.setSlots_cu, timed, applied, ended]

theorem State.setupScans_attn (s : State) : s.setupScans.cu.attn = s.cu.attn := by
  rw [State.setupScans_cu]

theorem State.applyRun_attn (s : State) (b : SetupBlock) : (s.applyRun b).cu.attn = s.cu.attn := by
  unfold State.applyRun
  split
  · exact s.complete_attn _
  · split
    · exact s.complete_attn _
    · dsimp only
      split
      · exact s.complete_attn _
      · split
        · exact State.complete_attn _ _
        · split
          · exact State.setCmdStage_attn _ _
          · exact State.setCmdStage_attn _ _

theorem State.setupRead_attn (s : State) (a : Answer) : (s.setupRead a).cu.attn = s.cu.attn := by
  unfold State.setupRead
  split
  · split
    · split
      · exact s.complete_attn _
      · split
        · exact (State.presentCommand_attn _ _ _).trans (s.setCmdStage_attn _)
        · unfold State.judgeSetup
          split
          · exact s.complete_attn _
          · split
            · exact s.setCmdStage_attn _
            · exact s.applyRun_attn _
    · rfl
  · rfl

theorem State.reloadRead_attn (s : State) (a : Answer) : (s.reloadRead a).cu.attn = s.cu.attn := by
  unfold State.reloadRead
  dsimp only
  repeat' split
  all_goals rfl

theorem State.loadList_attn (s : State) (ws : List Word) : (s.loadList ws).cu.attn = s.cu.attn := by
  unfold State.loadList
  split
  · exact State.complete_attn _ _
  · exact s.complete_attn _

theorem State.listFrom_attn (s : State) (addr total : Nat) (got : List Word) :
    (s.listFrom addr total got).cu.attn = s.cu.attn := by
  unfold State.listFrom
  dsimp only
  split
  · exact s.loadList_attn _
  · split
    · exact s.complete_attn _
    · exact (State.presentCommand_attn _ _ _).trans (s.setCmdStage_attn _)

theorem State.listRead_attn (s : State) (a : Answer) : (s.listRead a).cu.attn = s.cu.attn := by
  unfold State.listRead
  split
  · split
    · split
      · exact s.complete_attn _
      · exact s.listFrom_attn _ _ _
    · rfl
  · rfl

theorem State.runTriggers_attn (s : State) (p : Packet) : (s.runTriggers p).cu.attn = s.cu.attn := by
  unfold State.runTriggers
  dsimp only
  split
  · exact s.complete_attn _
  · exact s.listFrom_attn _ _ _

/-- A read of the status word can lower ATTN. -/
theorem State.statusPiece_attn (s : State) (x : Txn) (p : Piece) (raised : (s.statusPiece x p).cu.attn = true) :
    s.cu.attn = true := by
  have taken : (s.statusPiece x p).cu = (s.statusTaken x).cu := by
    rw [State.statusPiece_eq]
    split
    · unfold State.statusUpper
      split <;> simp
    · simp
  rw [taken, State.statusTaken_cu] at raised
  split at raised
  · cases raised
  · exact raised

/-- The answers to a message and to a NOTICE can raise it. -/
theorem State.messageAnswer_attn (s : State) (raised : s.cu.attn = true) : s.messageAnswer.cu.attn = true := by
  unfold State.messageAnswer
  split
  · split
    · split
      · exact (State.deliver_attn _).trans (by simp [raised])
      · exact (State.presentCommand_attn _ _ _).trans ((s.setCmdStage_attn _).trans raised)
    · exact raised
  · exact raised

theorem State.noticeAnswer_attn (s : State) (raised : s.cu.attn = true) : s.noticeAnswer.cu.attn = true := by
  unfold State.noticeAnswer
  dsimp only
  repeat' split
  · simp
  · rfl
  · simpa using raised
  · exact raised

/-- ATTN rises at the answer to a message or NOTICE write alone, and falls at a status-word read, RESTART or reset
alone. -/
theorem Runs.attn {c : Instr} {s t : State} (run : Runs c s t) :
    (t.cu.attn = true → s.cu.attn = true ∨ ∃ a, c = .messageWriteAnswer a ∨ c = .noticeWriteAnswer a)
      ∧ (t.cu.attn = false → s.cu.attn = false ∨ c = .statusWord ∨ c = .restart ∨ c = .resetNFall) := by
  have of_same (same : t.cu.attn = s.cu.attn) :
      (t.cu.attn = true → s.cu.attn = true ∨ ∃ a, c = .messageWriteAnswer a ∨ c = .noticeWriteAnswer a)
        ∧ (t.cu.attn = false → s.cu.attn = false ∨ c = .statusWord ∨ c = .restart ∨ c = .resetNFall) :=
    ⟨fun up => .inl (same.symm.trans up), fun down => .inl (same.symm.trans down)⟩
  have B := attnIs_blind s.cu.attn
  by_cases other : Instr.deep c = true ∨ Instr.attends c = true
  · cases run with
    | resetNFall => exact ⟨fun up => Bool.noConfusion up, fun _ => .inr (.inr (.inr rfl))⟩
    | resetNRise | localTime => exact of_same rfl
    | deferredScan => exact of_same s.setupScans_attn
    | luma front =>
      exact of_same (B.keeps.lumaPiece _ _ (front.run (.inl rfl))
        (fun u _ h => AttnIs.of_cu u.frameStart_attn h) rfl)
    | setupRead => exact of_same (s.portFreed.setupRead_attn _)
    | reloadRead => exact of_same (s.portFreed.reloadRead_attn _)
    | triggers => exact of_same (s.runTriggers_attn _)
    | listRead => exact of_same (s.portFreed.listRead_attn _)
    | statusWord => exact ⟨fun up => .inl (s.statusPiece_attn _ _ up), fun _ => .inr (.inl rfl)⟩
    | restart =>
      refine ⟨fun up => ?_, fun _ => .inr (.inr (.inl rfl))⟩
      rw [show (s.restart.endReport _ _ _).cu = _ from s.restart.endReport_onlyChanges _ _ _ .cu (by simp),
        s.restart_cu] at up
      cases up
    | restartClosed =>
      refine of_same ?_
      rw [show ((s.setControl false false).endReport _ _ _).cu = _ from
        (s.setControl false false).endReport_onlyChanges _ _ _ .cu (by simp)]
      rfl
    | messageAnswer =>
      refine ⟨fun _ => .inr ⟨_, .inl rfl⟩, fun down => .inl ?_⟩
      rw [← Bool.not_eq_true]
      intro up
      rw [s.portFreed.messageAnswer_attn up] at down
      cases down
    | noticeAnswer =>
      refine ⟨fun _ => .inr ⟨_, .inr rfl⟩, fun down => .inl ?_⟩
      rw [← Bool.not_eq_true]
      intro up
      rw [s.portFreed.noticeAnswer_attn up] at down
      cases down
    | badMode _ sel => rcases sel with rfl | rfl | rfl | rfl | rfl | rfl <;> rcases other with h | h <;> cases h
    | _ => rcases other with h | h <;> cases h
  · exact of_same (run.blind_attn B (fun seen => absurd seen other) rfl)

end Sys2Proof.Machine

/-! Which commands change the items of the lesson store, its engines and its waiting region change (R87, R99, R103
to R105, R108 to R110, R115 to R124, R131, R133, R146, R158, R159). -/

namespace Sys2Proof.Machine

/-! ## What leaves the store as it is -/

theorem State.passOrEnd_store (s : State) (x : Txn) (p : Piece) : (s.passOrEnd x p).store = s.store := by
  unfold State.passOrEnd
  split <;> simp

theorem State.statusUpper_store (s : State) (x : Txn) (p : Piece) (got : List Word) (e : Bool) :
    (s.statusUpper x p got e).store = s.store := by
  unfold State.statusUpper
  split <;> simp

theorem State.passAnswer_store (s : State) (a : Answer) : (s.passAnswer a).store = s.store := by
  unfold State.passAnswer
  split
  · split
    · split <;> simp
    · exact s.statusUpper_store _ _ _ _
    · simp
    · rfl
  · rfl

theorem State.chromaPiece_store (s : State) (x : Txn) (p : Piece) : (s.chromaPiece x p).store = s.store := by
  unfold State.chromaPiece
  dsimp only
  split <;> simp

theorem State.apertureRead_store (s : State) (x : Txn) (p : Piece) : (s.apertureRead x p).store = s.store := by
  unfold State.apertureRead
  dsimp only
  split <;> simp

theorem State.displayPiece_store (s : State) (x : Txn) (p : Piece) : (s.displayPiece x p).store = s.store := by
  unfold State.displayPiece
  dsimp only
  rw [State.present_store, State.setTxn_store]
  split <;> simp

theorem State.composerAnswer_store (s : State) (a : Answer) : (s.composerAnswer a).store = s.store := by
  have next (u : State) (x : Txn) (p : Piece) (stored : List Word) (todo : List (Nat × Nat))
      (got : List (Nat × Option Word)) : (u.fetchFrom x p stored todo got).store = u.store := by
    unfold State.fetchFrom
    split <;> simp
  unfold State.composerAnswer
  split
  · split
    · unfold State.storedAnswer
      split
      · simp
      · exact next _ _ _ _ _ _
    · unfold State.sourceAnswer
      split
      · refine (next _ _ _ _ _ _).trans ?_
        split <;> simp
      · rfl
    · rfl
  · rfl

theorem State.packetAnswer_store (s : State) (a : Answer) : (s.packetAnswer a).store = s.store := by
  unfold State.packetAnswer
  split
  · split
    · split
      · simp
      · unfold State.judgePacket
        dsimp only
        split
        · simp
        · split <;> simp
    · rfl
  · rfl

theorem State.runSetup_store (s : State) (p : Packet) : (s.runSetup p).store = s.store := by
  unfold State.runSetup
  dsimp only
  split <;> simp

theorem State.runTriggers_store (s : State) (p : Packet) : (s.runTriggers p).store = s.store := by
  unfold State.runTriggers State.listFrom State.loadList
  dsimp only
  repeat' split
  all_goals simp

theorem State.messageAnswer_store (s : State) : s.messageAnswer.store = s.store := by
  unfold State.messageAnswer
  split
  · split
    · split
      · simp [State.finishCommand]
      · simp
    · rfl
  · rfl

theorem State.noticeAnswer_store (s : State) : s.noticeAnswer.store = s.store := by
  unfold State.noticeAnswer
  dsimp only
  repeat' split
  all_goals simp

theorem State.setupScans_store (s : State) : s.setupScans.store = s.store := by
  unfold State.setupScans
  repeat' split
  all_goals simp

/-! ## What moves an engine alone -/

/-- The engines alone differ from those of this store. -/
def EnginesMoved (x : Store) (u : State) : Prop := ∃ k l, u.store = { x with copy := k, trav := l }

theorem enginesMoved_self (s : State) : EnginesMoved s.store s := ⟨s.store.copy, s.store.trav, rfl⟩

theorem EnginesMoved.of_store {x : Store} {u v : State} (same : v.store = u.store) (h : EnginesMoved x u) :
    EnginesMoved x v := by
  obtain ⟨k, l, is⟩ := h
  exact ⟨k, l, same.trans is⟩

theorem EnginesMoved.of_engines {x : Store} {u v : State} {k : Option CopyOp} {l : Option TravOp}
    (moved : v.store = { u.store with copy := k, trav := l }) (h : EnginesMoved x u) : EnginesMoved x v := by
  obtain ⟨k', l', is⟩ := h
  exact ⟨k, l, by rw [moved, is]⟩

theorem EnginesMoved.lineEvent {x : Store} {u : State} (n : Nat) (h : EnginesMoved x u) :
    EnginesMoved x (u.lineEvent n) := by
  refine State.lineEvent_keeps (P := EnginesMoved x) (fun _ _ h => h) (fun _ h => h)
    (fun _ _ h => h.of_store (by simp)) (fun s _ p f i _ h => ?_) (fun s n p _ h => ?_) (fun s p _ _ _ h => ?_)
    (fun _ _ h => h.of_store (by simp)) n h
  · obtain ⟨st, is⟩ := s.acceptRecord_store p f i false true
    exact h.of_engines (l := s.store.trav) (by rw [is])
  · obtain ⟨st, is⟩ := s.acceptMark_store p n true
    exact h.of_engines (l := s.store.trav) (by rw [is])
  · exact h.of_engines (k := s.store.copy) (by rw [s.advanceAt_store p false])

theorem enginesMoved_keeps (x : Store) : Keeps (EnginesMoved x) where
  port _ _ h := h
  txn _ _ _ _ _ h := h
  asm _ _ _ h := h
  hist _ _ h := h
  completes _ _ _ h := h.of_store (by simp)
  broken _ h := h.of_store (by simp)
  event _ n _ h := h.lineEvent n
  errors _ _ h := h
  timer _ _ _ _ _ h := h
  cu _ _ _ _ _ _ _ h := h
  cmd _ _ _ _ _ h := h
  take _ _ _ _ h := h

/-! ## What moves one engine -/

/-- The traversal engine alone differs. -/
def TravMoved (x y : Store) : Prop := ∃ l, y = { x with trav := l }

/-- The copy engine alone differs. -/
def CopyMoved (x y : Store) : Prop := ∃ k, y = { x with copy := k }

theorem TravMoved.of_eq {x y : Store} (same : y = x) : TravMoved x y := ⟨x.trav, same⟩

theorem CopyMoved.of_eq {x y : Store} (same : y = x) : CopyMoved x y := ⟨x.copy, same⟩

theorem State.runView_trav (s : State) (q : ViewRequest) (push : Bool) :
    TravMoved s.store (s.runView q push).store := by
  unfold State.runView
  split
  · exact .of_eq (by simp [State.completeView])
  · split
    · exact ⟨_, by simp [State.useTrav]; rfl⟩
    · exact .of_eq (by simp [State.completeView])

theorem State.runPop_trav (s : State) : TravMoved s.store s.runPop.store := by
  have restored (e : StackEntry) (rest : List StackEntry) : TravMoved s.store (s.restoreEntry e rest).store :=
    .of_eq (by simp [State.restoreEntry, State.completeView])
  have discarded (e : StackEntry) (rest : List StackEntry) : TravMoved s.store (s.discardEntry e rest).store :=
    .of_eq (by simp [State.discardEntry, State.completeView])
  unfold State.runPop
  split
  · exact .of_eq (by simp [State.completeView])
  · split
    · exact restored _ _
    · exact restored _ _
    · split
      · exact restored _ _
      · exact discarded _ _
    · split
      · exact .of_eq (by simp [State.completeView])
      · split
        · exact discarded _ _
        · exact ⟨_, by simp [State.useTrav]; rfl⟩

theorem State.popHeaderRead_trav (s : State) (a : Answer) : TravMoved s.store (s.popHeaderRead a).store := by
  have restored (e : StackEntry) (rest : List StackEntry) : TravMoved s.store (s.idleTrav.restoreEntry e rest).store :=
    ⟨none, by simp [State.restoreEntry, State.completeView, State.idleTrav]⟩
  have discarded (e : StackEntry) (rest : List StackEntry) : TravMoved s.store (s.idleTrav.discardEntry e rest).store :=
    ⟨none, by simp [State.discardEntry, State.completeView, State.idleTrav]⟩
  unfold State.popHeaderRead
  dsimp only
  split
  · split
    · split
      · exact ⟨none, by simp [State.completeView, State.idleTrav]⟩
      · split
        · split
          · exact restored _ _
          · exact discarded _ _
        · exact discarded _ _
    · exact ⟨none, rfl⟩
  · exact .of_eq rfl

theorem State.moveStep_trav (s : State) (m : MoveMode) (left passed : Nat) :
    TravMoved s.store (s.moveStep m left passed).store := by
  have stop (cls : TermClass) (r : Reason) : TravMoved s.store (s.moveStop cls r left passed).store :=
    ⟨none, by simp [State.moveStop, State.idleTrav]⟩
  unfold State.moveStep
  split
  · exact stop _ _
  · split
    · split
      · exact stop _ _
      · exact ⟨_, by simp [State.useTrav]; rfl⟩
    · split
      · exact stop _ _
      · exact ⟨_, by simp [State.useTrav]; rfl⟩

theorem State.runTraversal_trav (s : State) (m : MoveMode) (count : Nat) :
    TravMoved s.store (s.runTraversal m count).store := by
  rw [s.runTraversal_eq]
  repeat' split
  · exact .of_eq (by simp)
  · exact .of_eq (by simp)
  · exact .of_eq (by simp)
  · exact .of_eq (by simp)
  · have moved := (s.setCmdStage .engine).moveStep_trav m count 0
    rwa [State.setCmdStage_store] at moved

theorem State.runRecord_copy (s : State) (p : Packet) : CopyMoved s.store (s.runRecord p).store := by
  unfold State.runRecord
  split
  · exact .of_eq (by simp)
  · obtain ⟨st, is⟩ := (s.setCmdStage .engine).acceptRecord_store _ _ _ _ false
    exact ⟨_, by rw [is, State.setCmdStage_store]⟩

theorem State.runMark_copy (s : State) (p : Packet) : CopyMoved s.store (s.runMark p).store := by
  unfold State.runMark
  split
  · exact .of_eq (by simp)
  · obtain ⟨st, is⟩ := (s.setCmdStage .engine).acceptMark_store _ _ false
    exact ⟨_, by rw [is, State.setCmdStage_store]⟩

theorem State.runClear_copy (s : State) : CopyMoved s.store s.runClear.store := by
  unfold State.runClear
  split
  · exact .of_eq (by simp)
  · split
    · exact .of_eq (by simp)
    · exact ⟨_, by simp [State.useCopy]; rfl⟩

theorem State.copyAnswer_copy (s : State) (a : Answer) : CopyMoved s.store (s.copyAnswer a).store := by
  unfold State.copyAnswer
  split
  · exact .of_eq rfl
  · split
    · exact ⟨none, by simp [State.endCopy]⟩
    · split
      · split
        · exact ⟨_, by simp [State.useCopy]; rfl⟩
        · exact ⟨_, by simp [State.useCopy]; rfl⟩
      · obtain ⟨st, is⟩ := s.copyFrom_store _ _
        exact ⟨_, is⟩
      · exact ⟨_, by simp [State.useCopy]; rfl⟩
      · exact ⟨_, by simp [State.useCopy]; rfl⟩
      · exact .of_eq rfl

/-! ## What a traversal, a commit and a clear do to the store -/

/-- The traversal engine and the position alone differ. -/
def PositionMoved (x y : Store) : Prop := ∃ o l, y = { x with position := o, trav := l }

theorem PositionMoved.of_trav {x y : Store} (h : TravMoved x y) : PositionMoved x y := by
  obtain ⟨l, is⟩ := h
  exact ⟨x.position, l, is⟩

theorem State.movePass_position (s : State) (m : MoveMode) (left passed dest : Nat) (kind : Kind) :
    PositionMoved s.store (s.movePass m left passed dest kind).store := by
  have stop (cls : TermClass) (r : Reason) (n : Nat) :
      PositionMoved s.store ((s.setPosition (some dest)).moveStop cls r n (passed + 1)).store :=
    ⟨some dest, none, by simp [State.moveStop, State.idleTrav, State.setPosition]⟩
  have step (n : Nat) :
      PositionMoved s.store ((s.setPosition (some dest)).moveStep m n (passed + 1)).store := by
    obtain ⟨l, is⟩ := (s.setPosition (some dest)).moveStep_trav m n (passed + 1)
    exact ⟨some dest, l, by rw [is]; rfl⟩
  rw [s.movePass_eq]
  repeat' split
  · exact stop _ _ _
  · exact step _
  · exact step _
  · exact stop _ _ _

theorem State.moveRead_position (s : State) (a : Answer) : PositionMoved s.store (s.moveRead a).store := by
  have lost (n k : Nat) : PositionMoved s.store (s.moveLost n k).store :=
    ⟨none, none, by simp [State.moveLost, State.moveStop, State.idleTrav, State.setPosition]⟩
  unfold State.moveRead
  split
  · split
    · exact ⟨s.store.position, none, by simp [State.moveStop, State.idleTrav]⟩
    · split
      · split
        · exact lost _ _
        · split
          · exact lost _ _
          · exact s.movePass_position _ _ _ _ _
      · dsimp only
        split
        · exact ⟨s.store.position, _, by simp [State.useTrav]; rfl⟩
        · exact lost _ _
      · split
        · exact lost _ _
        · split
          · exact s.movePass_position _ _ _ _ _
          · exact lost _ _
  · exact .of_trav (.of_eq rfl)

theorem State.advanceRead_position (s : State) (a : Answer) : PositionMoved s.store (s.advanceRead a).store := by
  unfold State.advanceRead
  split
  · split
    · exact ⟨s.store.position, none, rfl⟩
    · split
      · exact ⟨none, none, by simp [State.idleTrav, State.setPosition]⟩
      · split
        · exact ⟨none, none, by simp [State.idleTrav, State.setPosition]⟩
        · exact ⟨s.store.position, none, by simp [State.idleTrav]⟩
        · split
          · exact ⟨_, _, by rw [State.advanceAt_store]; rfl⟩
          · split
            · exact ⟨s.store.position, none, rfl⟩
            · exact ⟨s.store.position, none, by simp [State.idleTrav]⟩
  · exact .of_trav (.of_eq rfl)

/-- The header read of a VIEW leaves the position or makes it LOST. -/
theorem State.viewHeaderRead_store (s : State) (a : Answer) :
    ∃ o l, (s.viewHeaderRead a).store = { s.store with position := o, trav := l }
      ∧ (o = s.store.position ∨ o = none) := by
  unfold State.viewHeaderRead
  split
  · dsimp only
    split
    · exact ⟨s.store.position, none, by simp [State.completeView, State.idleTrav], .inl rfl⟩
    · split
      · exact ⟨none, none, by simp [State.completeView, State.idleTrav], .inr rfl⟩
      · split
        · exact ⟨s.store.position, none, by simp [State.completeView, State.idleTrav], .inl rfl⟩
        · exact ⟨s.store.position, none, by simp [State.completeView, State.idleTrav], .inl rfl⟩
  · exact ⟨s.store.position, s.store.trav, rfl, .inl rfl⟩

/-- A commit moves the serial by one or leaves it. -/
theorem State.commitAnswer_store (s : State) (a : Answer) :
    ∃ e o n l k, (s.commitAnswer a).store =
        { s.store with eod := e, position := o, serial := n, lesson := l, copy := k }
      ∧ (n = s.store.serial ∨ n = s.store.serial + 1) := by
  cases running : s.store.copy with
  | none =>
    have idle : s.commitAnswer a = s := by simp only [State.commitAnswer, running]
    rw [idle]
    exact ⟨s.store.eod, s.store.position, s.store.serial, s.store.lesson, s.store.copy, rfl, .inl rfl⟩
  | some c =>
    cases failed : a.error with
    | true =>
      refine ⟨s.store.eod, none, s.store.serial, s.store.lesson, none, ?_, .inl rfl⟩
      rw [State.commitAnswer_error running failed]
      split <;> simp [State.setPosition, State.endCopy]
    | false =>
      have made : (s.commitAnswer a).store = (s.committedBy c).store := by
        rw [State.commitAnswer_ok running failed]
        split
        · split <;> simp
        · simp
      rw [made, s.committedBy_store c]
      exact ⟨_, _, _, _, _, rfl, .inr rfl⟩

/-- A clear forms the store, or leaves it UNFORMATTED. -/
theorem State.clearAnswer_store (s : State) (a : Answer) :
    ∃ f p o e n l k, (s.clearAnswer a).store =
        { s.store with
          formatted := f, protect := p, position := o, eod := e, serial := n, lesson := l, copy := k }
      ∧ (p = true → s.store.protect = true) := by
  unfold State.clearAnswer
  split
  · exact ⟨_, _, _, _, _, _, _, rfl, id⟩
  · split
    · dsimp only
      split
      · exact ⟨false, s.store.protect, some 0, 0, s.store.serial, s.store.lesson, none,
          by simp [Store.clearFailed, State.endCopy], id⟩
      · exact ⟨true, false, some 0, 0, 0, 0, none, by simp [Store.cleared, State.endCopy], by simp⟩
    · exact ⟨_, _, _, _, _, _, _, rfl, id⟩

/-! ## What the mount scan and a setup block do to the store -/

/-- A read of the mount scan goes on, or ends with the store formed or not. -/
theorem State.scanRead_store (s : State) (a : Answer) :
    ∃ f o e n l, (s.scanRead a).store =
        { s.store with formatted := f, position := o, eod := e, serial := n, trav := l }
      ∧ (f = false → s.store.formatted = false) := by
  unfold State.scanRead
  split
  · split
    · exact ⟨_, _, _, _, _, s.endScan_spec.1, id⟩
    · split
      · exact ⟨_, _, _, _, _, s.endScan_spec.1, id⟩
      · split
        · refine ⟨true, _, _, _, _, (State.endScan_spec _).1, by simp⟩
        · exact ⟨s.store.formatted, s.store.position, s.store.eod, s.store.serial, _,
            by simp only [State.useTrav, State.present_store, State.setStore_store]; rfl, id⟩
  · exact ⟨_, _, _, _, _, rfl, id⟩

/-- A command in which a scan can begin leaves the copy engine, and forms and protects nothing. -/
def ScanBegins (x y : Store) : Prop :=
  y.copy = x.copy ∧ (y.formatted = true → x.formatted = true) ∧ (y.protect = true → x.protect = true)

theorem ScanBegins.of_eq {x y : Store} (same : y = x) : ScanBegins x y := by
  subst same
  exact ⟨rfl, id, id⟩

theorem State.startScan_begins {s u : State} (same : u.store = s.store) (c : RegionChange) :
    ScanBegins s.store (u.startScan c).store :=
  ⟨show u.store.copy = s.store.copy by rw [same], fun h => Bool.noConfusion h, fun h => Bool.noConfusion h⟩

theorem State.applyRun_begins (s : State) (b : SetupBlock) : ScanBegins s.store (s.applyRun b).store := by
  unfold State.applyRun
  split
  · exact .of_eq (by simp)
  · split
    · exact .of_eq (by simp)
    · dsimp only
      split
      · exact .of_eq (by simp)
      · split
        · rw [State.complete_store, State.setStore_store]
          unfold Store.takeMargin
          split <;> exact ⟨rfl, id, id⟩
        · split
          · exact State.startScan_begins (by simp [State.takeRun]) _
          · rw [State.setCmdStage_store]
            exact ⟨rfl, id, id⟩

theorem State.setupRead_begins (s : State) (a : Answer) : ScanBegins s.store (s.setupRead a).store := by
  unfold State.setupRead
  split
  · split
    · split
      · exact .of_eq (by simp)
      · split
        · exact .of_eq (by simp)
        · unfold State.judgeSetup
          split
          · exact .of_eq (by simp)
          · split
            · exact State.startScan_begins (by simp) _
            · exact s.applyRun_begins _
    · exact .of_eq rfl
  · exact .of_eq rfl

theorem State.reloadRead_begins (s : State) (a : Answer) : ScanBegins s.store (s.reloadRead a).store := by
  unfold State.reloadRead
  split
  · split
    · exact .of_eq rfl
    · dsimp only
      split
      · exact .of_eq rfl
      · exact .of_eq rfl
  · split
    · exact .of_eq rfl
    · split
      · exact .of_eq rfl
      · dsimp only
        split
        · exact .of_eq rfl
        · exact State.startScan_begins rfl _
  · exact .of_eq rfl

end Sys2Proof.Machine

/-! The commands that change what they are named for (R1, R87, R99, R103 to R105, R158, R171). -/

namespace Sys2Proof.Machine

theorem State.portFreed_store (s : State) : s.portFreed.store = s.store := rfl

theorem State.statusTaken_store (s : State) (x : Txn) : (s.statusTaken x).store = s.store := by
  unfold State.statusTaken
  split <;> simp

/-! ## The change of the store, command by command -/

/-- A command in which a mount scan can begin. -/
def CanScan (c : Instr) : Prop :=
  c = .deferredMountScan ∨ ∃ a, c = .setupBlockReadAnswer a ∨ c = .reloadReadAnswer a

/-- A command that can report a line event. -/
def ReportsLines (c : Instr) : Prop :=
  c = .captureLumaPiece ∨ c = .heldPieceResume ∨ c = .emission ∨ ∃ a, c = .lineWriteAnswer a

/-- The store changes from `x` to `y` only in what the command may change, where it aborts a granted commit or a
granted clear when `commits` or `clears` says so. -/
def StoreChange (c : Instr) (commits clears : Prop) (x y : Store) : Prop :=
  (y.eod = x.eod ∨ clears ∧ y.eod = 0 ∨ c = .resetNFall ∨ CanScan c
      ∨ ∃ a, c = .commit a ∨ c = .storeClearWriteAnswer a ∨ c = .mountScanReadAnswer a)
    ∧ (y.position = x.position ∨ commits ∧ y.position = none
      ∨ clears ∧ y.position = some 0 ∨ c = .resetNFall ∨ CanScan c ∨ c = .rewind ∨ c = .toEnd
      ∨ ∃ a, c = .commit a ∨ c = .storeClearWriteAnswer a ∨ c = .mountScanReadAnswer a
          ∨ c = .traversalReadAnswer a ∨ c = .advanceReadAnswer a
          ∨ c = .viewPageHeaderRead a ∧ y.position = none)
    ∧ (y.serial = x.serial ∨ c = .resetNFall ∨ CanScan c
      ∨ ∃ a, c = .commit a ∧ y.serial = x.serial + 1 ∨ c = .storeClearWriteAnswer a
          ∨ c = .mountScanReadAnswer a)
    ∧ (y.lesson = x.lesson ∨ c = .resetNFall ∨ CanScan c ∨ c = .rewind ∧ y.lesson = 0
      ∨ ∃ a, c = .commit a ∨ c = .storeClearWriteAnswer a)
    ∧ (y.margin = x.margin ∨ c = .resetNFall ∨ CanScan c)
    ∧ (y.formatted = true → x.formatted = true
      ∨ ∃ a, c = .storeClearWriteAnswer a ∨ c = .mountScanReadAnswer a)
    ∧ (y.formatted = false → x.formatted = false ∨ clears ∨ c = .resetNFall ∨ CanScan c
      ∨ ∃ a, c = .storeClearWriteAnswer a)
    ∧ (y.protect = true → x.protect = true ∨ c = .storeProtect)
    ∧ (y.protect = false → x.protect = false ∨ c = .resetNFall ∨ CanScan c
      ∨ ∃ a, c = .storeClearWriteAnswer a)
    ∧ (y.base = x.base ∧ y.limit = x.limit ∨ c = .resetNFall ∨ CanScan c)
    ∧ (y.deferred = x.deferred ∨ c = .resetNFall ∨ CanScan c)
    ∧ (y.copy = x.copy ∨ (c = .resetNFall ∨ c = .restart) ∧ y.copy = none
      ∨ c = .record ∨ c = .mark ∨ c = .storeClear ∨ ReportsLines c
      ∨ ∃ a, c = .copyTransactionAnswer a ∨ c = .commit a ∨ c = .storeClearWriteAnswer a)
    ∧ (y.trav = x.trav ∨ (c = .resetNFall ∨ c = .restart) ∧ y.trav = none ∨ CanScan c
      ∨ c = .view ∨ c = .viewPush ∨ c = .viewPop ∨ c = .stepFwd ∨ c = .stepRev ∨ c = .skipFwd
      ∨ c = .skipRev ∨ ReportsLines c
      ∨ ∃ a, c = .mountScanReadAnswer a ∨ c = .viewPageHeaderRead a ∨ c = .viewPopHeaderRead a
          ∨ c = .traversalReadAnswer a ∨ c = .advanceReadAnswer a)

section
variable {c : Instr} {commits clears : Prop} {x y : Store}

theorem StoreChange.of_eq (same : y = x) : StoreChange c commits clears x y := by
  subst same
  simp +contextual [StoreChange]

/-! A command that moves some items changes as it may where the move is one it may make. -/

theorem StoreChange.of_trav (h : TravMoved x y)
    (moves : ∀ l, StoreChange c commits clears x { x with trav := l }) : StoreChange c commits clears x y := by
  obtain ⟨l, rfl⟩ := h
  exact moves l

theorem StoreChange.of_copy (h : CopyMoved x y)
    (moves : ∀ k, StoreChange c commits clears x { x with copy := k }) : StoreChange c commits clears x y := by
  obtain ⟨k, rfl⟩ := h
  exact moves k

theorem StoreChange.of_position (h : PositionMoved x y)
    (moves : ∀ o l, StoreChange c commits clears x { x with position := o, trav := l }) :
    StoreChange c commits clears x y := by
  obtain ⟨o, l, rfl⟩ := h
  exact moves o l

theorem StoreChange.of_lines {u : State} (lines : ReportsLines c) (h : EnginesMoved x u) :
    StoreChange c commits clears x u.store := by
  obtain ⟨k, l, is⟩ := h
  rw [is]
  simp +contextual [StoreChange, lines]

theorem StoreChange.of_scans (scans : CanScan c) (h : ScanBegins x y) : StoreChange c commits clears x y := by
  obtain ⟨copy, formed, protects⟩ := h
  simp +contextual [StoreChange, scans, copy, formed, protects]

theorem StoreChange.restart (s : State) :
    StoreChange .restart (.restart = Instr.restart ∧ s.port.grantedFor (· == .commit) = true)
      (.restart = Instr.restart ∧ s.port.grantedFor (· == .clearWrite) = true) s.store s.restart.store := by
  have trav : s.restart.store.trav = s.store.trav ∨ s.restart.store.trav = none := by
    rw [s.restart_store, s.restartStore_store]
    dsimp only
    split
    next scans => exact .inl scans.symm
    next => exact .inr rfl
  rw [s.restart_store, s.restartStore_store] at trav ⊢
  cases commits : s.port.grantedFor (· == .commit) <;> cases clears : s.port.grantedFor (· == .clearWrite) <;>
    simp_all [StoreChange, CanScan, ReportsLines, Store.clearFailed]

end

/-- What a command does to the store. -/
theorem Runs.storeChange {c : Instr} {s t : State} (run : Runs c s t) :
    StoreChange c (c = .restart ∧ s.port.grantedFor (· == .commit) = true)
      (c = .restart ∧ s.port.grantedFor (· == .clearWrite) = true) s.store t.store := by
  have K := enginesMoved_keeps s.store
  have own := enginesMoved_self s
  cases run with
  | resetNFall => simp [StoreChange, State.reset, Store.reset]
  | resetNRise | localTime | grant => exact .of_eq rfl
  | deferredScan high due waits =>
    exact .of_scans (.inl rfl) (State.startScan_begins s.setupScans_store _)
  | accept => exact .of_eq (s.settle_store _)
  | pass => exact .of_eq (s.passOrEnd_store _ _)
  | passAnswer => exact .of_eq (s.portFreed.passAnswer_store _)
  | plainReport | arm | opens | closes | restartClosed =>
    exact .of_eq (State.endReport_onlyChanges _ _ _ _ .store (by simp))
  | restart rep opened =>
    rw [show (s.restart.endReport _ _ _).store = _ from s.restart.endReport_onlyChanges _ _ _ .store (by simp)]
    exact .restart s
  | pointer =>
    refine .of_eq ((State.endReport_onlyChanges _ _ _ _ .store (by simp)).trans ?_)
    exact State.writePointer_onlyChanges _ _ .store (by simp)
  | statusWord =>
    refine .of_eq ?_
    rw [State.statusPiece_eq]
    split
    · exact (State.statusUpper_store _ _ _ _ _).trans (s.statusTaken_store _)
    · exact s.statusTaken_store _
  | luma front =>
    exact .of_lines (.inl rfl) (K.lumaPiece _ _ (front.run (.inl rfl)) (fun u _ h => h.of_store (by simp)) own)
  | resume => exact .of_lines (.inr (.inl rfl)) (K.resume own)
  | emission => exact .of_lines (.inr (.inr (.inl rfl))) (K.beginItem _ own)
  | lineAnswer => exact .of_lines (.inr (.inr (.inr ⟨_, rfl⟩))) (K.lineAnswer _ own)
  | chroma => exact .of_eq (s.chromaPiece_store _ _)
  | apertureRead => exact .of_eq (s.apertureRead_store _ _)
  | display => exact .of_eq (s.displayPiece_store _ _)
  | composerAnswer => exact .of_eq (s.portFreed.composerAnswer_store _)
  | packetAnswer => exact .of_eq (s.portFreed.packetAnswer_store _)
  | setup => exact .of_eq (s.runSetup_store _)
  | setupRead =>
    exact .of_scans (.inr ⟨_, .inl rfl⟩) (s.portFreed.setupRead_begins _)
  | reloadRead =>
    exact .of_scans (.inr ⟨_, .inr rfl⟩) (s.portFreed.reloadRead_begins _)
  | @scanRead _ a =>
    obtain ⟨f, o, e, n, l, is, formed⟩ := s.portFreed.scanRead_store a
    rw [is]
    rw [s.portFreed_store] at formed ⊢
    simp +contextual [StoreChange, formed]
  | status | statusRefused => exact .of_eq (by simp)
  | statusClear => exact .of_eq (by simp [State.clearCounters])
  | view =>
    exact .of_trav (s.runView_trav _ _) (fun _ => by simp +contextual [StoreChange])
  | viewPush =>
    exact .of_trav (s.runView_trav _ _) (fun _ => by simp +contextual [StoreChange])
  | viewPop =>
    exact .of_trav s.runPop_trav (fun _ => by simp +contextual [StoreChange])
  | @viewHeader _ a =>
    obtain ⟨o, l, is, lost⟩ := s.portFreed.viewHeaderRead_store a
    rw [is]
    rcases lost with rfl | rfl <;> simp +contextual [StoreChange, s.portFreed_store]
  | popHeader =>
    exact .of_trav (s.portFreed.popHeaderRead_trav _) (fun _ => by simp +contextual [StoreChange])
  | record =>
    exact .of_copy (s.runRecord_copy _) (fun _ => by simp +contextual [StoreChange])
  | mark =>
    exact .of_copy (s.runMark_copy _) (fun _ => by simp +contextual [StoreChange])
  | copyAnswer =>
    exact .of_copy (s.portFreed.copyAnswer_copy _) (fun _ => by simp +contextual [StoreChange])
  | @commit _ a =>
    obtain ⟨e, o, n, l, k, is, serial⟩ := s.portFreed.commitAnswer_store a
    rw [is]
    rcases serial with rfl | rfl <;> simp +contextual [StoreChange, s.portFreed_store]
  | storeClear =>
    exact .of_copy s.runClear_copy (fun _ => by simp +contextual [StoreChange])
  | @clearAnswer _ a =>
    obtain ⟨f, p, o, e, n, l, k, is, protects⟩ := s.portFreed.clearAnswer_store a
    rw [is]
    rw [s.portFreed_store] at protects ⊢
    simp +contextual [StoreChange, protects]
  | storeProtect => simp +contextual [StoreChange]
  | stepFwd | stepRev | skipFwd | skipRev =>
    exact .of_trav (s.runTraversal_trav _ _) (fun _ => by simp +contextual [StoreChange])
  | rewind =>
    rw [State.runReposition_eq]
    repeat' split
    · exact .of_eq (by simp)
    · exact .of_eq (by simp)
    · simp +contextual [StoreChange]
  | toEnd =>
    rw [State.runReposition_eq]
    repeat' split
    · exact .of_eq (by simp)
    · exact .of_eq (by simp)
    · simp +contextual [StoreChange]
  | badMode => exact .of_eq (by simp)
  | moveRead =>
    exact .of_position (s.portFreed.moveRead_position _) (fun _ _ => by simp +contextual [StoreChange])
  | advanceRead =>
    exact .of_position (s.portFreed.advanceRead_position _) (fun _ _ => by simp +contextual [StoreChange])
  | triggers => exact .of_eq (s.runTriggers_store _)
  | listRead => exact .of_eq (s.portFreed.listRead_onlyChanges _ .store (by simp))
  | watch => exact .of_eq s.expireWatch_store
  | messageAnswer => exact .of_eq s.portFreed.messageAnswer_store
  | noticeAnswer => exact .of_eq s.portFreed.noticeAnswer_store

/-! ## The statement -/

/-- Settles O6, from what becomes of the fixed state, of ATTN and of the store in each command. -/
theorem registersChangeOnlyBy : Obligations.RegistersChangeOnlyBy := by
  intro c s t setup next commits clears scans lines
  rcases exec_cases next with same | same | run
  · subst same
    exact ⟨.inl ⟨rfl, rfl⟩, .inl rfl, .inl, .inl, StoreChange.of_eq rfl⟩
  · subst same
    exact ⟨.inl ⟨rfl, rfl⟩, .inl rfl, .inl, .inl, StoreChange.of_eq rfl⟩
  · obtain ⟨rises, falls⟩ := run.attn
    refine ⟨?state, ?straps, rises, falls, run.storeChange⟩
    case state =>
      rcases run.fixed setup with ⟨state, regions, -⟩ | reset | ⟨_, -, state, regions, -⟩ | ⟨⟨-, kept | enters⟩, ends⟩
      · exact .inl ⟨state, regions⟩
      · exact .inr (.inl reset)
      · exact .inl ⟨state, regions⟩
      · exact .inl kept
      · exact .inr (.inr ⟨enters.1, enters.2, ends⟩)
    case straps =>
      rcases run.fixed setup with ⟨-, -, same⟩ | ⟨reset, -⟩ | ⟨straps, rise, -, -, is⟩ | ⟨⟨same, -⟩, -⟩
      · exact .inl same
      · exact .inr (.inl reset)
      · exact .inr (.inr (is ▸ rise))
      · exact .inl same

end Sys2Proof.Machine
